-- ==== Sys2Proof/Word.lean ====
section
/-!
DEFINITION. The words of the interface: bytes and 32-bit words.
-/

namespace Sys2Proof

/-- One byte of shared memory, of a page or of a waveform bank. -/
abbrev Byte := BitVec 8

/-- A 32-bit register, an address in shared memory, or a 32-bit field of a record. -/
abbrev Word := BitVec 32

end Sys2Proof
end

