-- ==== Sys2Proof/Syntax.lean ====
section
/-!
DEFINITION. The commands of the VJ2460: one constructor for each row of spec/opcode_table.json, with what the
step brings from outside the part as its operands.
-/

namespace Sys2Proof

/-- The three lanes (01, section 1.5). -/
inductive LaneId where
  | display | store | control
deriving DecidableEq, Repr, Inhabited

/-- The debounced inputs: the four keys and COVER (07 R125), and CHG_DET (03 R56). -/
inductive InputId where
  | fwd | back | menu | power | cover | charger
deriving DecidableEq, Repr, Inhabited

/-- The clients of working memory (04 R66). -/
inductive WmClient where
  | frameScan | imageCopier | retirePass | decoder | waveformLoader | storeReader
deriving DecidableEq, Repr, Inhabited

/-- What a read of shared memory gives: the bytes read, or a bus error (01 R14, R15). -/
inductive BusRead where
  | data (bytes : List Byte)
  | busError
deriving DecidableEq, Repr

/-- A page as the array returns it (09 R164): its 4096 data bytes, whether all 128 spare bytes are all-ones,
and the two fields of the spare area that the part reads back. The spare area's layout is not given by the spec,
so the fields come apart (log entry 11). -/
structure RawPage where
  data      : List Byte
  spareOnes : Bool
  pageCrc   : Word
  retired   : Bool
deriving DecidableEq, Repr

/-- The commands, in the order of spec/opcode_table.json. -/
inductive Instr where
  | attach
  | detach
  | engineReset
  | waitingCommandTaken
  | anchorWrite (value : Word)
  | nudge (mask : Word)
  | causeClear (value : Word)
  | causemaskWrite (value : Word)
  | registerWriteOther (offset width : Nat) (value : Word)
  | fullReset
  | anchorBlockReadEnd (answer : BusRead)
  | scanTick
  | recordReadEnd (answer : BusRead)
  | heldRelease (lane : LaneId)
  | linkReadEnd (value : Word)
  | recordHeaderWriteEnd (busError : Bool)
  | detachFinalPage (busError : Bool)
  | statusPageWriteEnd (busError : Bool)
  | pwmPeriodStart
  | sweepTimerExpiry
  | conversionEnd (raw : BitVec 12)
  | senseSetup
  | senseSetupApply
  | powerSetup
  | powerSleep
  | graceTimerExpiry
  | dozeTimerExpiry
  | wakeTimerExpiry
  | dozeDrainComplete
  | deepEntryComplete
  | wakingComplete
  | inputChange (input : InputId) (level : Bool)
  | debounceEnd (input : InputId)
  | refreshDue
  | burstEnd (requests : List WmClient)
  | refreshEnd (requests : List WmClient)
  | selfRefreshEntry
  | memoryLeaveEnd
  | initialisingEnd
  | waveformLoad
  | waveformListEmpty
  | waveformBankFree
  | waveformPageWritten
  | waveformCrcCheckEnd
  | panelUpdate
  | imageCopyEnd (image : List Byte)
  | imageCopyBusError
  | frameTick
  | frameScanEnd
  | retirePassEnd
  | clearingPassEnd
  | railGoodAssert
  | railGoodDeassert
  | risingTimerExpiry
  | holdTimerExpiry
  | fallingTimerExpiry
  | panelStop
  | panelResume
  | panelResumeComplete
  | panelSetup
  | turnLoad
  | turnLoadCheck
  | turnLoadArrayReadEnd (answer : BusRead)
  | turnArm
  | turnArmComplete
  | turnPageReadEnd
  | turnImageCheckEnd
  | decodeEnd
  | lightSet
  | lightCurve
  | rampTick
  | arrayPowerUpEnd
  | arrayIdleTimerExpiry
  | pageReadEnd (page : RawPage)
  | rawReadEnd (page : RawPage)
  | pageProgramEnd (success : Bool)
  | eraseEnd (success : Bool)
  | eraseSuspended
  | markWriteEnd (success : Bool)
  | busyLimitExpiry
  | guardChange (asserted : Bool)
  | storeIngest
  | ingestVerifyEnd (answer : BusRead)
  | ingestPageDataRead (answer : BusRead)
  | storeRead
  | storeReadDestWriteEnd (busError : Bool)
  | storeErase
  | storeProtect
  | storeSurvey
  | surveyReportWriteEnd (busError : Bool)
deriving DecidableEq, Repr

end Sys2Proof
end

