-- ==== Sys2Proof/Machine/Crc.lean ====
section
/-!
DEFINITION. The CRC-32 of the manual (09 R165).
-/

namespace Sys2Proof.Machine

open Sys2Proof

/-- One bit of the CRC register, least significant bit first. The polynomial 0x04C11DB7 stands with its bits in
reverse order, as processing from the least significant bit needs it (R165; DEDUCED, log entry 39). -/
def crcBit (c : Word) : Word := if c.getLsbD 0 then (c >>> 1) ^^^ 0xEDB88320#32 else c >>> 1

/-- One byte into the CRC register. -/
def crcByte (c : Word) (b : Byte) : Word :=
  crcBit (crcBit (crcBit (crcBit (crcBit (crcBit (crcBit (crcBit (c ^^^ b.setWidth 32))))))))

/-- The initial value of the register (R165). -/
def crcInit : Word := 0xFFFFFFFF#32

/-- Bytes into the register. -/
def crcUpdate (c : Word) (bs : List Byte) : Word := bs.foldl crcByte c

/-- The CRC of what the register has taken: its complement (R165). -/
def crcResult (c : Word) : Word := ~~~c

/-- The CRC-32 of a run of bytes (R165). -/
def crc32 (bs : List Byte) : Word := crcResult (crcUpdate crcInit bs)

end Sys2Proof.Machine
end

