-- ==== Sys2Proof/Config.lean ====
section
/-!
DEFINITION. What the part fixes (sizes, offsets, codes given as figures by the spec) and the one free value of the
model.
-/

namespace Sys2Proof.Config

/-- A byte of working memory whose contents are undefined (04 R74: "After the event, the memory contents are
undefined"). The first argument is the State's epoch, which every loss of contents advances, the second the byte's
offset (04 R65). Free value (log entry 9): it has no body, so nothing proves a value of it. -/
opaque undefinedByte : Nat → Nat → Byte

/-- Panel width in pixels (00, Conventions). -/
def panelWidth : Nat := 1600
/-- Panel height in pixels (00, Conventions). -/
def panelHeight : Nat := 1200
/-- Pixels of the panel (04 R65). -/
def panelPixels : Nat := 1920000

/-- Offset of the panel state region (04 R65). -/
def panelStateBase : Nat := 0x000000
/-- Offset of staging frame A (04 R65). -/
def frameABase : Nat := 0x400000
/-- Offset of staging frame B (04 R65). -/
def frameBBase : Nat := 0x500000
/-- Offset of waveform bank A (04 R65). -/
def bankABase : Nat := 0x600000
/-- Offset of waveform bank B (04 R65). -/
def bankBBase : Nat := 0x700000
/-- Offset of the decode buffer (04 R65). -/
def decodeBase : Nat := 0x800000

/-- Data bytes of an array page (09, section 9.1). -/
def pageBytes : Nat := 4096
/-- Pages of a block (09, section 9.1). -/
def blockPages : Nat := 64
/-- Blocks of the array (09, section 9.1). -/
def arrayBlocks : Nat := 4096
/-- Pages of the array (09, section 9.1). -/
def arrayPages : Nat := 262144

/-- Capacity of the pending list (06 R99). -/
def pendingCapacity : Nat := 16
/-- Capacity of the uncertain-region list (06 R116). -/
def uncertainCapacity : Nat := 8
/-- Capacity of the key queue (07 R129). -/
def keyQueueCapacity : Nat := 4
/-- The suspension cap of an erase (09 R181). -/
def suspensionCap : Nat := 16
/-- The refresh debt at which a refresh is forced (04 R70). -/
def forcedDebt : Nat := 8

/-- The value the ID register reads: part code 0x2460, revision 1 (11, section 11.1). -/
def idValue : Word := 0x24600001#32

end Sys2Proof.Config
end

