-- ==== Sys2Proof/Machine/State.lean ====
section
/-!
DEFINITION. The state of the VJ2460: every register, flag, list, table, timer and memory the spec names, as plain
data, and its value after Full Reset. One structure for each block; each field's docstring names its rule.
-/

namespace Sys2Proof.Machine

open Sys2Proof

/-! ## Names -/

/-- Link states (01 R1). -/
inductive LinkState where
  | detached | attached | detaching | fault
deriving DecidableEq, Repr, Inhabited

/-- Lane states (01, section 1.5). -/
inductive LaneState where
  | detached | taking | held | parked | stopped
deriving DecidableEq, Repr, Inhabited

/-- Kinds of record (11, section 11.3). -/
inductive Kind where
  | panelUpdate | panelStop | panelResume | panelSetup | waveformLoad
  | storeIngest | storeRead | storeErase | storeProtect | storeSurvey
  | senseSetup | lightSet | lightCurve | powerSetup | powerSleep | turnLoad | turnArm
deriving DecidableEq, Repr, Inhabited

/-- Result codes (11, section 11.6). -/
inductive ResultCode where
  | ok | empty | superseded | stopped | railFault | noWaveform | badMode | badWaveform | badAddress | badSetup
  | badRecord | unknownKind | protectedBlock | conflict | retiredBlock | orderViolation | checksumMismatch
  | programFail | eraseFail | readError | lowSupply | panelHalted | range
deriving DecidableEq, Repr, Inhabited

/-- The record state words the part writes (01 R11). -/
inductive RecordState where
  | taken | running | done
deriving DecidableEq, Repr, Inhabited

/-- The CONTROL commands (11, section 11.1). -/
inductive ControlCommand where
  | attach | detach | engineReset
deriving DecidableEq, Repr, Inhabited

/-- Power states (03, section 3.4). -/
inductive PowerState where
  | run | dozeEntry | dozeQuiet | dozeTurning | deepEntry | deep | waking
deriving DecidableEq, Repr, Inhabited

/-- Supply classes (03, section 3.2). -/
inductive SupplyClass where
  | normal | reduced | critical | exhausted
deriving DecidableEq, Repr, Inhabited

/-- Wake reasons (03 R54). -/
inductive WakeReason where
  | none | menu | power | fwd | back | turnEnd | turnError | charger | timer | attach | engineReset | coverOpen
  | panelHalted
deriving DecidableEq, Repr, Inhabited

/-- The depth a POWER_SLEEP names (03 R47). -/
inductive SleepDepth where
  | doze | deep
deriving DecidableEq, Repr, Inhabited

/-- The cover action (03, section 3.3). -/
inductive CoverAction where
  | deepOnClose | none
deriving DecidableEq, Repr, Inhabited

/-- How a channel's trim is kept (02, section 2.1). -/
inductive TrimMode where
  | auto | manual
deriving DecidableEq, Repr, Inhabited

/-- The sense channels in sweep order (02 R22). -/
inductive ChannelId where
  | batt | therm | amb
deriving DecidableEq, Repr, Inhabited

/-- The conversion a sweep is at: a zero sample, an AMB signal sample that waits for the dark window, or a signal
sample (02 R22, R25). -/
inductive ConvStage where
  | zero | awaitDark | signal
deriving DecidableEq, Repr, Inhabited

/-- Working memory controller states (04, section 4.2). -/
inductive WmState where
  | initialising | active | entering | selfRefresh | leaving | unpowered
deriving DecidableEq, Repr, Inhabited

/-- What the memory is doing: one client's burst or a refresh (04 R68). -/
inductive WmRunning where
  | burst (client : WmClient)
  | refresh
deriving DecidableEq, Repr, Inhabited

/-- The waveform banks (05 R80). -/
inductive Bank where
  | a | b
deriving DecidableEq, Repr, Inhabited

/-- The stages of a WAVEFORM_LOAD (05, section 5.3). -/
inductive LoadStage where
  | listWait | bankWait | reading | checking
deriving DecidableEq, Repr, Inhabited

/-- Update modes (11, section 11.4). -/
inductive Mode where
  | clear | gray16 | gray4 | mono
deriving DecidableEq, Repr, Inhabited

/-- The two staging frames (07, section 7.7). -/
inductive Frame where
  | a | b
deriving DecidableEq, Repr, Inhabited

/-- Slot states of an active slot; a FREE slot is one that is not listed (06, section 6.4). -/
inductive SlotState where
  | copying | ready | running | retiring | clearing
deriving DecidableEq, Repr, Inhabited

/-- Panel engine states (06, section 6.5). -/
inductive EngineState where
  | off | rising | driving | holding | falling | halted
deriving DecidableEq, Repr, Inhabited

/-- Staging frame states (07, section 7.7). -/
inductive FrameState where
  | free | filling | held
deriving DecidableEq, Repr, Inhabited

/-- Turn states (07, section 7.6). -/
inductive TurnState where
  | idle | reading | checking | decoding | offering
deriving DecidableEq, Repr, Inhabited

/-- The keys that turn pages (07 R129). -/
inductive TurnKey where
  | fwd | back
deriving DecidableEq, Repr, Inhabited

/-- Light modes (08, section 8.2). -/
inductive LightMode where
  | off | manual | auto
deriving DecidableEq, Repr, Inhabited

/-- Array power states (09, section 9.2). -/
inductive ArrayPower where
  | off | poweringUp | on
deriving DecidableEq, Repr, Inhabited

/-- The clients of the array arbiter (09, section 9.6). -/
inductive ArrayClient where
  | turnAhead | waveform | executor
deriving DecidableEq, Repr, Inhabited

/-- The protection of a block (09, section 9.4). -/
inductive Protection where
  | locked | unlocked | pinned | pinnedShut | pinnedOpen
deriving DecidableEq, Repr, Inhabited

/-- The protection commands (09 R173). -/
inductive ProtectCommand where
  | lock | unlock | pin
deriving DecidableEq, Repr, Inhabited

/-- What the block table knows of a block's pages: nothing, the fill mark, or that it is retired. The fill state is
read off it (`Fill.code`), so that fill state and fill mark always agree as 09 R169 states. -/
inductive Fill where
  | unknown
  | mark (m : Nat)
  | retired
deriving DecidableEq, Repr, Inhabited

/-- Phases of the Store Lane Executor (10, section 10.1). -/
inductive LanePhase where
  | idle | checking | verifying | programming | reading | erasing | surveying | reporting | retiring
deriving DecidableEq, Repr, Inhabited

/-- Phases of an erase in progress: running, suspending (the suspension commanded and not yet reported), suspended
(09 R180). -/
inductive ErasePhase where
  | running | suspending | suspended
deriving DecidableEq, Repr, Inhabited

/-! ## Register window -/

/-- The always-on registers and lines of the register window (01 R1). -/
structure Regs where
  /-- ANCHOR (R1). -/
  anchor : Word
  /-- CAUSE (R18). -/
  cause : BitVec 13
  /-- CAUSEMASK (R19). -/
  causemask : BitVec 13
  /-- The HOSTWAKE line (R20). -/
  hostwake : Bool
  /-- The CONTROL write that waits behind a command still being carried out (R2). -/
  waiting : Option ControlCommand
  /-- An Attach waits for RUN (R2). -/
  attachWaits : Bool
  /-- The bus answer to the last register write was an error (R202). -/
  slaveError : Bool
deriving DecidableEq, Repr

/-! ## Link Engine -/

/-- An entry of a taken-record table (R9): the record's address, its Notify flag, the kind its consumer accepted
(none for a refused record), whether it is Done, whether its link has been followed, and whether a bus error has
ended the writes to it (R15). -/
structure TakenEntry where
  addr       : Word
  notify     : Bool
  kind       : Option Kind
  done       : Bool
  followed   : Bool
  unwritable : Bool
deriving DecidableEq, Repr

/-- A record as the lane read it (R9): its address and its 128 bytes. -/
structure RecordCopy where
  addr  : Word
  bytes : List Byte
deriving DecidableEq, Repr

/-- One lane (01, section 1.5). -/
structure Lane where
  /-- Lane state. -/
  state : LaneState
  /-- The cursor: the record to be taken next, held or parked on; 0 when parked on the Anchor Block. -/
  cursor : Word
  /-- The first-record address latched at Attach (R4). -/
  first : Word
  /-- The taken-record table, oldest first (R9). -/
  table : List TakenEntry
  /-- The nudge flag (R13). -/
  nudge : Bool
  /-- The retired address (R16). -/
  retiredAddr : Word
  /-- The retired count (R16). -/
  retiredCount : Word
  /-- The stopping-record address (R14). -/
  stopAddr : Word
  /-- The record read and checked: offered to its consumer in TAKING, kept in HELD (R10). -/
  copy : Option RecordCopy
deriving DecidableEq, Repr

/-- The Link Engine (01). -/
structure Link where
  /-- Link state (R1). -/
  state : LinkState
  /-- Window low limit, inclusive (R4, R7). -/
  low : Word
  /-- Window high limit, exclusive (R4, R7). -/
  high : Word
  /-- Status Page address (R4). -/
  statusAddr : Word
  /-- Scan period in milliseconds, 0 off (R4). -/
  scanPeriod : Nat
  /-- The scan tick runs (R4, R5). -/
  scanOn : Bool
  /-- An Attach is being carried out: the Anchor Block is being read (R2, R3). -/
  attaching : Bool
  /-- The DISPLAY lane. -/
  display : Lane
  /-- The STORE lane. -/
  store : Lane
  /-- The CONTROL lane. -/
  control : Lane
deriving DecidableEq, Repr

/-- Why a lane reads its link: after taking a record or at the fall of a nudge flag, for a nudge, or for a scan tick
(R12, R13). -/
inductive LinkReadWhy where
  | taken | nudge | tick
deriving DecidableEq, Repr, Inhabited

/-- The buffer reads and writes of the consumers (R8): the image rows the Image Copier reads for a slot (06 R97, R104),
the entry array of a TURN_LOAD (07 R131), the payload of an ingest in its first pass and one page of it in the second
(10 R188, R189), a destination page of a STORE_READ (10 R193), a survey report (10 R200). -/
inductive BufferUse where
  | imageRows (slot : Nat)
  | entryArray
  | payload
  | payloadPage
  | destination
  | report
deriving DecidableEq, Repr

/-- An access that waits for the bus master port (R8); `buffer` gives the address and the length in bytes. -/
inductive BusAccess where
  | anchorRead (addr : Word)
  | recordRead (lane : LaneId) (addr : Word)
  | linkRead (lane : LaneId) (addr : Word) (why : LinkReadWhy)
  | resultWrite (lane : LaneId) (addr : Word) (result : ResultCode) (detail : Word) (progress : Nat)
  | stateWrite (lane : LaneId) (addr : Word) (state : RecordState)
  | statusPage
  | finalPage
  | buffer (use : BufferUse) (addr length : Nat)
deriving DecidableEq, Repr

/-- The bus master port (R8) and the Status Page writer (R17). -/
structure Bus where
  /-- The accesses in the order asked for; the first is the one being made. -/
  queue : List BusAccess
  /-- The transfers of several accesses whose turn has come: each makes its accesses one after another, in turn with
  those of the queue (log entry 5). -/
  transfers : List BusAccess
  /-- The snapshot of the page write being made (R17). -/
  snapshot : Option (List Byte)
  /-- The write count of the last page write begun (R17). -/
  writeCount : Word
deriving DecidableEq, Repr

/-! ## Sense Front End -/

/-- One channel's correction state (02, section 2.1). -/
structure Channel where
  mode     : TrimMode
  trim     : Int
  gain     : Nat
  k        : Nat
  filtered : Nat
  seed     : Bool
deriving DecidableEq, Repr

/-- What the Sense Front End presents (R34): the derived values, ThermFault, and each channel's trim and filtered
value. -/
structure Presented where
  temperature   : Option Int
  thermFault    : Bool
  ambient       : Nat
  battery       : Nat
  battTrim      : Int
  thermTrim     : Int
  ambTrim       : Int
  battFiltered  : Nat
  thermFiltered : Nat
  ambFiltered   : Nat
deriving DecidableEq, Repr

/-- A sweep in progress (R22): whether it covers all three channels, the channel it is at, the stage of its
conversion, and the zero sample taken for that channel. -/
structure Sweep where
  full  : Bool
  chan  : ChannelId
  stage : ConvStage
  zero  : Nat
deriving DecidableEq, Repr

/-- The Sense Front End (02). -/
structure Sense where
  batt  : Channel
  therm : Channel
  amb   : Channel
  /-- The thermistor curve, nine (code, temperature) points, or none (R31). -/
  curve : Option (List (Nat × Int))
  /-- The temperature in tenths, or "none" (R31). -/
  temperature : Option Int
  /-- The ambient value (R30). -/
  ambient : Nat
  /-- The battery voltage in millivolts (R30). -/
  battery : Nat
  /-- ThermFault (R32). -/
  thermFault : Bool
  /-- The values presented since the last sweep ended (R33, R34). -/
  shown : Presented
  /-- RUN period, ms (R23). -/
  runPeriod : Nat
  /-- DOZE period, ms (R23). -/
  dozePeriod : Nat
  /-- DEEP period, s (R23). -/
  deepPeriod : Nat
  /-- The sweep timer: the length in ms it was loaded with, none once it has expired (R23). -/
  timer : Option Nat
  /-- One remembered expiry (R23). -/
  remembered : Bool
  /-- The sweep in progress (R22). -/
  sweep : Option Sweep
  /-- A full sweep owed to a wake from DEEP (R24). -/
  fullDue : Bool
  /-- A SENSE_SETUP that waits to be checked and applied (R35). -/
  setup : Option RecordCopy
deriving DecidableEq, Repr

/-! ## Power Controller -/

/-- The Power Controller (03). -/
structure Power where
  /-- Power state (R46). -/
  state : PowerState
  /-- Supply class (R41). -/
  cls : SupplyClass
  /-- Result-seen flag (R41). -/
  seen : Bool
  eReduced : Nat
  xReduced : Nat
  eCritical : Nat
  xCritical : Nat
  eExhausted : Nat
  xExhausted : Nat
  /-- Grace time, s (section 3.3). -/
  graceTime : Nat
  /-- Doze timeout, min (section 3.3). -/
  dozeTimeout : Nat
  /-- Store idle power-down time, ms (section 3.3). -/
  storeIdle : Nat
  /-- Cover action (section 3.3). -/
  coverAction : CoverAction
  /-- Grace timer: the seconds it was started with, or stopped (R61). -/
  graceTimer : Option Nat
  /-- Doze inactivity timer: the minutes it was started with, or stopped (R52). -/
  dozeTimer : Option Nat
  /-- Wake timer: the minutes it was started with, or stopped (R55). -/
  wakeTimer : Option Nat
  /-- Wake timer setting, min (R55). -/
  wakeSetting : Nat
  /-- Wake reason (R54). -/
  wakeReason : WakeReason
  /-- Forced-descent flag (R62). -/
  forced : Bool
  /-- The wake remembered in DEEP_ENTRY (R57). -/
  remembered : Option WakeReason
  /-- VDD_MAIN is switched on (R40). -/
  vddMain : Bool
  /-- Self-refresh and array power-off have been asked for (R49, R51). -/
  drainAsked : Bool
  /-- The Engine Reset that a wake carries is still to be made (R53). -/
  resetPending : Bool
  /-- The depth of the last accepted POWER_SLEEP (R47). -/
  depth : SleepDepth
  /-- An Exhausted descent in DOZE_TURNING waits for a decode to finish (R63). -/
  descentPending : Bool
deriving DecidableEq, Repr

/-! ## Working memory -/

/-- A panel-state entry (04 R65). -/
structure PanelEntry where
  current : BitVec 4
  target  : BitVec 4
  slot    : BitVec 3
  active  : Bool
deriving DecidableEq, Repr

/-- The Working Memory Controller and what the memory holds (04). The contents are held region by region; what
nothing has written since the contents were last lost is not listed. -/
structure WorkMem where
  /-- Controller state (R67). -/
  state : WmState
  /-- Refresh debt (R70). -/
  debt : Nat
  /-- Round-robin position: the last client served by round-robin (R68). -/
  rr : WmClient
  /-- Clients that wait for a burst (R68). -/
  waiting : List WmClient
  /-- The burst or refresh running (R68). -/
  running : Option WmRunning
  /-- A self-refresh request held until ACTIVE (R67). -/
  srHeld : Bool
  /-- Panel state, by pixel number in panel order (R65), pixels strictly rising. -/
  panel : List (Nat × PanelEntry)
  /-- Staging frame A, the levels from pixel 0 on (R65). -/
  frameA : List (BitVec 4)
  /-- Staging frame B. -/
  frameB : List (BitVec 4)
  /-- Waveform bank A, the bytes from offset 0 on (R65). -/
  bankA : List Byte
  /-- Waveform bank B. -/
  bankB : List Byte
  /-- Decode buffer, the bytes from offset 0 on (R65). -/
  decode : List Byte
  /-- The MODEL's counter of losses of contents: it names the free values (log entry 9). -/
  epoch : Nat
deriving DecidableEq, Repr

/-! ## Waveform Unit -/

/-- A WAVEFORM_LOAD in progress (05, section 5.3): its record, its extent, its stage, the pages written, the detail
gathered, the page count P once the header has passed (0 before), and the page read and not yet written. -/
structure Load where
  addr     : Word
  block    : Nat
  first    : Nat
  count    : Nat
  stage    : LoadStage
  progress : Nat
  detail   : Word
  needed   : Nat
  page     : Option (List Byte)
deriving DecidableEq, Repr

/-- The Waveform Unit (05 R80). -/
structure Wave where
  validA : Bool
  validB : Bool
  /-- The active-bank selector. -/
  active : Bank
  /-- The range index, or "none". -/
  range : Option Nat
  /-- The index came from the default range, the temperature being "none" (R93). -/
  fromDefault : Bool
  /-- Frame period in force, 0.1 ms units; 0 when cleared (R90). -/
  period : Nat
  /-- The outgoing set's period is kept until its last slot ends (R90). -/
  periodPending : Bool
  /-- The load in progress. -/
  load : Option Load
deriving DecidableEq, Repr

/-! ## Panel Update Engine -/

/-- A rectangle in pixels (00, Conventions). -/
structure Rect where
  x : Nat
  y : Nat
  w : Nat
  h : Nat
deriving DecidableEq, Repr

/-- Where an update comes from: a record, or a local turn with its staging frame (06 R98). -/
inductive Source where
  | record (addr : Word)
  | internal (frame : Frame)
deriving DecidableEq, Repr

/-- An entry of the pending list (06 R98); `id` names the update in stops and reports (07 R140). -/
structure Entry where
  id           : Nat
  src          : Source
  rect         : Rect
  mode         : Mode
  changedOnly  : Bool
  maySupersede : Bool
  image        : Word
  stride       : Nat
  detail       : Word
deriving DecidableEq, Repr

/-- An active slot (06 R103). -/
structure Slot where
  state        : SlotState
  id           : Nat
  src          : Source
  /-- The entry's own rectangle. -/
  rect         : Rect
  /-- The slot's rectangle: the effective rectangle decided at the start (R102). -/
  eff          : Rect
  /-- The mode asked for, which quantises the targets (R104). -/
  mode         : Mode
  /-- The effective mode, whose table drives (R102). -/
  effMode      : Mode
  /-- ChangedOnly applies. -/
  changedOnly  : Bool
  image        : Word
  stride       : Nat
  /-- Every from level is taken as 15 (R105). -/
  unknownStart : Bool
  /-- The latched bank, the offset of the latched table in it, and its frame count F (05 R91). -/
  bank         : Bank
  table        : Nat
  frames       : Nat
  /-- Frame index. -/
  frame        : Nat
  /-- Frames driven. -/
  driven       : Nat
  detail       : Word
  /-- The result an aborted slot completes with (R107). -/
  abort        : ResultCode
deriving DecidableEq, Repr

/-- A PANEL_STOP not yet completed (06 R113, R114): its record, its detail, the updates it has marked and not yet
stopped or passed over, whether it has taken effect, how many updates it has stopped, and the aborted slots it still
waits for. -/
structure Stop where
  addr    : Word
  detail  : Word
  marks   : List Nat
  effect  : Bool
  stopped : Nat
  waits   : List Nat
deriving DecidableEq, Repr

/-- The Panel Update Engine (06). -/
structure Panel where
  /-- Pending list, oldest first (R99). -/
  pending : List Entry
  /-- Active slots by number, numbers strictly rising (R101). -/
  slots : List (Nat × Slot)
  /-- COPYING slots in the order in which they started (R104). -/
  copyQueue : List Nat
  /-- RETIRING and CLEARING slots in the order of R106. -/
  passQueue : List Nat
  /-- Uncertain regions, oldest first (R116). -/
  uncertain : List Rect
  /-- The panel flag: Known (R117). -/
  known : Bool
  /-- Engine state (section 6.5). -/
  engine : EngineState
  /-- Rail hold time, ms (R115). -/
  holdTime : Nat
  /-- Rising timer running (R108). -/
  risingTimer : Bool
  /-- Hold timer: the milliseconds it was started with, or stopped (R110). -/
  holdTimer : Option Nat
  /-- Falling timer running (R110). -/
  fallingTimer : Bool
  /-- A frame scan is in progress (R109). -/
  scan : Bool
  /-- The stop list, oldest first (R113). -/
  stops : List Stop
  /-- PANEL_RESUME records that wait in HALTED (R112). -/
  resumes : List Word
  /-- The flush of R120 is in force. -/
  flushed : Bool
  /-- The MODEL's next update identifier (log entry 33). -/
  nextId : Nat
deriving DecidableEq, Repr

/-! ## Pins -/

/-- The input pins that no other structure holds: RAIL_GOOD (06 R108) and GUARD (09 R174). -/
structure Pins where
  railGood : Bool
  guard    : Bool
deriving DecidableEq, Repr

/-! ## Key Unit -/

/-- One debounced input (07 R125): its level, its debounced state, whether its first steady reading has been taken,
and the level a running measurement measures. `true` is pressed, closed, or present. -/
structure InputState where
  level     : Bool
  debounced : Bool
  settled   : Bool
  measuring : Option Bool
deriving DecidableEq, Repr

/-- The Key Unit (07) with the debounced charger input (03 R56). -/
structure Keys where
  fwd     : InputState
  back    : InputState
  menu    : InputState
  power   : InputState
  cover   : InputState
  charger : InputState
  countFwd   : BitVec 16
  countBack  : BitVec 16
  countMenu  : BitVec 16
  countPower : BitVec 16
deriving DecidableEq, Repr

/-! ## Turn-Ahead Unit -/

/-- An entry of the turn-ahead list (07 R130). -/
structure TurnEntry where
  block : Nat
  first : Nat
  count : Nat
  mode  : Mode
  bad   : Bool
deriving DecidableEq, Repr

/-- A TURN_LOAD accepted and not Done: its record, and whether its entry array is being read (07 R131). -/
structure TurnLoad where
  record  : RecordCopy
  reading : Bool
deriving DecidableEq, Repr

/-- The Turn-Ahead Unit (07). -/
structure Turn where
  /-- The turn-ahead list. -/
  entries : List TurnEntry
  cursor : Nat
  armed : Bool
  /-- Full-refresh interval N. -/
  interval : Nat
  /-- Full-refresh counter. -/
  counter : Nat
  /-- Full owed. -/
  owed : Bool
  frameA : FrameState
  frameB : FrameState
  state : TurnState
  /-- The key queue, oldest first (R129). -/
  queue : List TurnKey
  /-- The latched target index (R136). -/
  target : Nat
  /-- The latched extent: first page in the array, and page count (R136). -/
  extentFirst : Nat
  extentCount : Nat
  /-- The latched mode and key (R136). -/
  mode : Mode
  key : TurnKey
  /-- The frame the turn fills (R136). -/
  frame : Frame
  /-- The next page of the extent to ask the arbiter for (R137). -/
  nextPage : Nat
  /-- Pages written into the decode buffer (R137). -/
  written : Nat
  /-- Page reads ended and not yet taken up by the Store Reader: the data, or none for a read that failed. -/
  arrived : List (Option (List Byte))
  /-- The update being offered is full (R140). -/
  offerFull : Bool
  /-- The latest full update, while it is not completed (R140, R142). -/
  latestFull : Option Nat
  /-- A TURN_LOAD accepted and not Done (R131). -/
  load : Option TurnLoad
  /-- A clearing TURN_ARM accepted and not Done (R133). -/
  arm : Option Word
deriving DecidableEq, Repr

/-! ## Front Light Controller -/

/-- The Front Light Controller (08, section 8.2). -/
structure Light where
  mode   : LightMode
  manual : Nat
  bias   : Int
  warmth : Nat
  step   : Nat
  /-- The auto curve, (ambient, level) points; empty is no curve. -/
  curve  : List (Nat × Nat)
  /-- The held ambient, or none. -/
  held   : Option Nat
  /-- The level L before the ceiling. -/
  level  : Nat
  /-- The target T. -/
  target : Nat
  /-- The output O. -/
  output : Nat
  /-- The fade flag (R159). -/
  fade   : Bool
  /-- The duties the mix gives (R157). -/
  warm   : Nat
  cool   : Nat
  /-- The duties latched for the present PWM period (R146). -/
  latchedWarm : Nat
  latchedCool : Nat
deriving DecidableEq, Repr

/-! ## Store Controller -/

/-- A block table entry (09 R169). -/
structure BlockEntry where
  fill : Fill
  prot : Protection
deriving DecidableEq, Repr

/-- What the part has made of a page's data, page CRC and written marker (09 R164): nothing since it was found so,
erased, programmed, or undefined after a failed or abandoned program or erase. -/
inductive PageData where
  | found
  | erased
  | written (data : List Byte) (crc : Word)
  | undefined
deriving DecidableEq, Repr

/-- What the part has made of a page's retirement field (09 R164, R178), which page 0 of a block uses: nothing, erased
to all-ones, the retirement mark, or undefined after a failed or abandoned mark write, program or erase. -/
inductive RetireField where
  | found
  | blank
  | marked
  | undefined
deriving DecidableEq, Repr

/-- A page of the array as the part has left it (09 R164). -/
structure ArrayPage where
  data  : PageData
  field : RetireField
deriving DecidableEq, Repr

/-- Why a raw read is made: a survey for an ingest's checks, for a STORE_SURVEY or for a page program, or the mark
check of an erase (09 R170, R176, R177). -/
inductive RawWhy where
  | ingest
  | storeSurvey
  | program (page : Nat) (data : List Byte)
  | erase
deriving DecidableEq, Repr

/-- A request of the Store Lane Executor; pages are positions in the whole array (09, section 9.1). An erase is
`checked` once its mark check has been made. -/
inductive ExRequest where
  | read (page : Nat)
  | raw (page : Nat) (why : RawWhy)
  | program (page : Nat) (data : List Byte)
  | erase (block : Nat) (checked : Bool)
  | mark (block : Nat)
deriving DecidableEq, Repr

/-- The array operation in flight, an erase apart; `second` marks the retry (09 R175, R170). -/
inductive ArrayOp where
  | read (client : ArrayClient) (page : Nat) (second : Bool)
  | raw (page : Nat) (why : RawWhy) (second : Bool)
  | program (page : Nat) (data : List Byte)
  | mark (block : Nat)
deriving DecidableEq, Repr

/-- The erase in progress (09 R180). -/
structure Erase where
  block : Nat
  phase : ErasePhase
  count : Nat
deriving DecidableEq, Repr

/-- The Store Controller (09). -/
structure Store where
  /-- Array power state (R167). -/
  power : ArrayPower
  /-- The idle timer: the milliseconds it was started with, or stopped (R167). -/
  idle : Option Nat
  /-- The store idle power-down time handed over, ms (R167). -/
  idleTime : Nat
  /-- The waiting request of the Turn-Ahead reader (a page of the array). -/
  ta : Option Nat
  /-- The waiting request of the Waveform Loader. -/
  wf : Option Nat
  /-- The waiting request of the Store Lane Executor. -/
  ex : Option ExRequest
  /-- The operation in flight, an erase apart. -/
  op : Option ArrayOp
  /-- The erase in progress. -/
  erase : Option Erase
  /-- The block table: the entries that are not UNKNOWN and LOCKED, blocks strictly rising (R169). -/
  blocks : List (Nat × BlockEntry)
  /-- What the part has put into the array, by page, pages strictly rising (R164). -/
  array : List (Nat × ArrayPage)
deriving DecidableEq, Repr

/-! ## Store Lane Executor -/

/-- The Store Lane Executor (10, section 10.1). -/
structure Executor where
  phase : LanePhase
  kind : Option Kind
  /-- The record held. -/
  record : RecordCopy
  /-- The block it works on. -/
  block : Nat
  /-- The page (or payload page index) it works on. -/
  page : Nat
  /-- The running progress count. -/
  progress : Nat
  /-- The detail warnings gathered. -/
  detail : Word
  /-- The running CRC-32 register. -/
  crc : Word
  /-- The page buffer, or the report being written. -/
  buf : List Byte
  /-- A survey of the range has failed (R199). -/
  failed : Bool
  /-- The erase request is to be checked again (R196). -/
  recheck : Bool
deriving DecidableEq, Repr

/-! ## The state -/

/-- The state of the part, with the queue of the commands that wait. -/
structure State where
  regs    : Regs
  link    : Link
  bus     : Bus
  sense   : Sense
  power   : Power
  wm      : WorkMem
  wave    : Wave
  panel   : Panel
  pins    : Pins
  keys    : Keys
  turn    : Turn
  light   : Light
  store   : Store
  executor : Executor
  /-- The bytes the part has written into shared memory, addresses strictly rising (log entry 34). -/
  shared  : List Host.Cell
  /-- The commands that wait, first in, first out. -/
  pending : List Instr
deriving DecidableEq, Repr

/-- The reasons the part stops with a fault: none. Every error the spec describes (a bus error, a rail fault, a
failed array operation, a thermistor fault) changes the state as its rule says. -/
inductive Fault where
deriving DecidableEq, Repr

/-- The reasons a command is refused. -/
inductive Refusal where
  /-- Raised by exec for a command that has no meaning yet; no arm raises it. Safe. -/
  | notModelled (mnemonic : String)
deriving DecidableEq, Repr

/-! ## Reset values -/

/-- A lane as after Attach's predecessor states: nothing taken (01 R6). -/
def Lane.reset : Lane :=
  { state := .detached, cursor := 0#32, first := 0#32, table := [], nudge := false, retiredAddr := 0#32,
    retiredCount := 0#32, stopAddr := 0#32, copy := none }

/-- The register window after Full Reset (01 R1, R6, R20). -/
def Regs.reset : Regs :=
  { anchor := 0#32, cause := 0#13, causemask := 0#13, hostwake := false, waiting := none, attachWaits := false,
    slaveError := false }

/-- The Link Engine after Full Reset and Engine Reset (01 R6). -/
def Link.reset : Link :=
  { state := .detached, low := 0#32, high := 0#32, statusAddr := 0#32, scanPeriod := 0, scanOn := false,
    attaching := false, display := .reset, store := .reset, control := .reset }

/-- The port with nothing waiting (01 R6). -/
def Bus.reset : Bus := { queue := [], transfers := [], snapshot := none, writeCount := 0#32 }

/-- A channel after Full Reset (02 R38). -/
def Channel.reset : Channel := { mode := .auto, trim := 0, gain := 256, k := 2, filtered := 0, seed := true }

/-- What is presented before the first sweep after Full Reset (02 R34, R38). -/
def Presented.reset : Presented :=
  { temperature := none, thermFault := false, ambient := 0, battery := 0, battTrim := 0, thermTrim := 0, ambTrim := 0,
    battFiltered := 0, thermFiltered := 0, ambFiltered := 0 }

/-- The Sense Front End after Full Reset, its first sweep started (02 R38, R23). -/
def Sense.reset : Sense :=
  { batt := .reset, therm := .reset, amb := .reset, curve := none, temperature := none, ambient := 0, battery := 0,
    thermFault := false, shown := .reset, runPeriod := 100, dozePeriod := 1000, deepPeriod := 60, timer := some 100,
    remembered := false, sweep := some { full := true, chan := .batt, stage := .zero, zero := 0 },
    fullDue := false, setup := none }

/-- The Power Controller after Full Reset (03 R46, sections 3.2 and 3.3). -/
def Power.reset : Power :=
  { state := .run, cls := .normal, seen := false, eReduced := 3500, xReduced := 3600, eCritical := 3400,
    xCritical := 3500, eExhausted := 3300, xExhausted := 3450, graceTime := 10, dozeTimeout := 30, storeIdle := 200,
    coverAction := .deepOnClose, graceTimer := none, dozeTimer := none, wakeTimer := none, wakeSetting := 0,
    wakeReason := .none, forced := false, remembered := none, vddMain := true, drainAsked := false,
    resetPending := false, depth := .doze, descentPending := false }

/-- Working memory on entering INITIALISING (04 R67), contents undefined under the given epoch (R74). -/
def WorkMem.initialising (epoch : Nat) : WorkMem :=
  { state := .initialising, debt := 0, rr := .storeReader, waiting := [], running := none, srHeld := false,
    panel := [], frameA := [], frameB := [], bankA := [], bankB := [], decode := [], epoch := epoch }

/-- The Waveform Unit after the contents-lost event (05 R80). -/
def Wave.reset : Wave :=
  { validA := false, validB := false, active := .a, range := none, fromDefault := false, period := 0,
    periodPending := false, load := none }

/-- The Panel Update Engine after its resets (06 R121); the identifier source goes on. -/
def Panel.resetFrom (nextId : Nat) : Panel :=
  { pending := [], slots := [], copyQueue := [], passQueue := [], uncertain := [], known := false, engine := .off,
    holdTime := 500, risingTimer := false, holdTimer := none, fallingTimer := false, scan := false, stops := [],
    resumes := [], flushed := false, nextId := nextId }

/-- An input whose level is given, its first measurement running (07 R125). -/
def InputState.resetAt (level : Bool) : InputState :=
  { level := level, debounced := false, settled := false, measuring := some level }

/-- The Key Unit after Full Reset (07 R125, R126). -/
def Keys.reset : Keys :=
  { fwd := .resetAt false, back := .resetAt false, menu := .resetAt false, power := .resetAt false,
    cover := .resetAt false, charger := .resetAt false, countFwd := 0#16, countBack := 0#16, countMenu := 0#16,
    countPower := 0#16 }

/-- The Turn-Ahead Unit after its resets (07 R130). -/
def Turn.reset : Turn :=
  { entries := [], cursor := 0, armed := false, interval := 0, counter := 0, owed := false, frameA := .free,
    frameB := .free, state := .idle, queue := [], target := 0, extentFirst := 0, extentCount := 0, mode := .gray16,
    key := .fwd, frame := .a, nextPage := 0, written := 0, arrived := [], offerFull := false, latestFull := none,
    load := none, arm := none }

/-- The Front Light Controller after Full Reset (08 R146, R148). -/
def Light.reset : Light :=
  { mode := .off, manual := 0, bias := 0, warmth := 50, step := 10, curve := [], held := none, level := 0,
    target := 0, output := 0, fade := false, warm := 0, cool := 0, latchedWarm := 0, latchedCool := 0 }

/-- The Store Controller after its resets (09 R182): the idle time is the Power Controller's setting, the array's
contents are what they are. -/
def Store.resetFrom (idleTime : Nat) (array : List (Nat × ArrayPage)) : Store :=
  { power := .off, idle := none, idleTime := idleTime, ta := none, wf := none, ex := none, op := none,
    erase := none, blocks := [], array := array }

/-- The Store Lane Executor after its resets (10 R184). -/
def Executor.reset : Executor :=
  { phase := .idle, kind := none, record := { addr := 0#32, bytes := [] }, block := 0, page := 0, progress := 0,
    detail := 0#32, crc := 0#32, buf := [], failed := false, recheck := false }

/-- The part right after Full Reset. -/
def State.reset : State :=
  { regs := .reset, link := .reset, bus := .reset, sense := .reset, power := .reset, wm := .initialising 0,
    wave := .reset, panel := .resetFrom 0, pins := { railGood := false, guard := false }, keys := .reset,
    turn := .reset, light := .reset, store := .resetFrom 200 [], executor := .reset, shared := [], pending := [] }

end Sys2Proof.Machine
end

