-- ==== Sys2Proof/Machine/Flags.lean ====
section
/-!
DEFINITION. The numeric values of chapter 11: codes of states, results and causes, and the warning flags.
-/

namespace Sys2Proof.Machine

open Sys2Proof

/-! ## Causes (11, section 11.1; 01 R18) -/

/-- A cause as its bit of CAUSE. -/
abbrev Cause := Nat

def laneDoneD : Cause := 0
def laneDoneS : Cause := 1
def laneDoneC : Cause := 2
def laneStopped : Cause := 3
def keyCause : Cause := 4
def coverCause : Cause := 5
def supplyCause : Cause := 6
def exhaustedCause : Cause := 7
def panelHaltedCause : Cause := 8
def turnEndCause : Cause := 9
def turnErrorCause : Cause := 10
def storeWornCause : Cause := 11
def wakeCause : Cause := 12

/-- The done cause of a lane. -/
def laneDone : LaneId → Cause
  | .display => laneDoneD
  | .store   => laneDoneS
  | .control => laneDoneC

/-- The bit of a cause in CAUSE and CAUSEMASK. -/
def causeBit (c : Cause) : BitVec 13 := 1#13 <<< c

/-! ## Warnings (11, section 11.6) -/

def warnClipped : Word := 1#32
def warnPromoted : Word := 2#32
def warnTempClamped : Word := 4#32
def warnTempHeld : Word := 8#32
def warnErased : Word := 16#32
def warnClamped : Word := 32#32

/-- A warning, if it applies. -/
def warnIf (c : Bool) (w : Word) : Word := if c then w else 0#32

/-! ## Codes of 11.3, 11.5 and 11.6 -/

def RecordState.code : RecordState → Nat
  | .taken => 1 | .running => 2 | .done => 3

def ResultCode.code : ResultCode → Nat
  | .ok => 0 | .empty => 1 | .superseded => 2 | .stopped => 3 | .railFault => 4 | .noWaveform => 5 | .badMode => 6
  | .badWaveform => 7 | .badAddress => 8 | .badSetup => 9 | .badRecord => 10 | .unknownKind => 11
  | .protectedBlock => 12 | .conflict => 13 | .retiredBlock => 14 | .orderViolation => 15 | .checksumMismatch => 16
  | .programFail => 17 | .eraseFail => 18 | .readError => 19 | .lowSupply => 20 | .panelHalted => 21 | .range => 22

def LinkState.code : LinkState → Nat
  | .detached => 0 | .attached => 1 | .detaching => 2 | .fault => 3

def PowerState.code : PowerState → Nat
  | .run => 0 | .dozeEntry => 1 | .dozeQuiet => 2 | .dozeTurning => 3 | .deepEntry => 4 | .deep => 5 | .waking => 6

def WakeReason.code : WakeReason → Nat
  | .none => 0 | .menu => 1 | .power => 2 | .fwd => 3 | .back => 4 | .turnEnd => 5 | .turnError => 6 | .charger => 7
  | .timer => 8 | .attach => 9 | .engineReset => 10 | .coverOpen => 11 | .panelHalted => 12

def SupplyClass.code : SupplyClass → Nat
  | .normal => 0 | .reduced => 1 | .critical => 2 | .exhausted => 3

def LaneState.code : LaneState → Nat
  | .detached => 0 | .taking => 1 | .held => 2 | .parked => 3 | .stopped => 4

def EngineState.code : EngineState → Nat
  | .off => 0 | .rising => 1 | .driving => 2 | .holding => 3 | .falling => 4 | .halted => 5

def TurnState.code : TurnState → Nat
  | .idle => 0 | .reading => 1 | .checking => 2 | .decoding => 3 | .offering => 4

def FrameState.code : FrameState → Nat
  | .free => 0 | .filling => 1 | .held => 2

def LightMode.code : LightMode → Nat
  | .off => 0 | .manual => 1 | .auto => 2

def ArrayPower.code : ArrayPower → Nat
  | .off => 0 | .poweringUp => 1 | .on => 2

def ArrayClient.code : ArrayClient → Nat
  | .turnAhead => 1 | .waveform => 2 | .executor => 3

def LanePhase.code : LanePhase → Nat
  | .idle => 0 | .checking => 1 | .verifying => 2 | .programming => 3 | .reading => 4 | .erasing => 5
  | .surveying => 6 | .reporting => 7 | .retiring => 8

def Protection.code : Protection → Nat
  | .locked => 0 | .unlocked => 1 | .pinned => 2 | .pinnedShut => 3 | .pinnedOpen => 4

/-- The fill state code that goes with what is known of a block (09 R169; 11, section 11.9). -/
def Fill.code : Fill → Nat
  | .unknown => 0
  | .mark m  => if m = 0 then 1 else if m < 64 then 2 else 3
  | .retired => 4

/-- The fill mark class of a survey report byte (10 R200). -/
def Fill.markClass : Fill → Nat
  | .mark m => if m = 0 || 64 ≤ m then 0 else m / 16
  | _       => 0

/-- The survey report byte of a block table entry (11, section 11.9). -/
def BlockEntry.reportByte (e : BlockEntry) : Byte :=
  BitVec.ofNat 8 (e.fill.code + 8 * e.fill.markClass + 32 * e.prot.code)

end Sys2Proof.Machine
end

