-- ==== Sys2Proof/Machine/Operands.lean ====
section
/-!
DEFINITION. Reading fields out of bytes, least significant byte first (00, Conventions; 11), and the record fields.
A byte a list does not hold reads as 0 (log entry 4: no well-formed command has one).
-/

namespace Sys2Proof.Machine

open Sys2Proof

/-- The byte at an offset. -/
def byteAt (bs : List Byte) (i : Nat) : Nat := (bs.getD i 0#8).toNat

/-- The 16-bit field at an offset. -/
def half (bs : List Byte) (i : Nat) : Nat := byteAt bs i + 256 * byteAt bs (i + 1)

/-- The 16-bit signed field at an offset. -/
def halfSigned (bs : List Byte) (i : Nat) : Int := (BitVec.ofNat 16 (half bs i)).toInt

/-- The 32-bit field at an offset, as a number. -/
def wordNat (bs : List Byte) (i : Nat) : Nat := half bs i + 65536 * half bs (i + 2)

/-- The 32-bit field at an offset. -/
def word (bs : List Byte) (i : Nat) : Word := BitVec.ofNat 32 (wordNat bs i)

/-- Bit `n` of the byte at an offset. -/
def bitAt (bs : List Byte) (i n : Nat) : Bool := byteAt bs i / 2 ^ n % 2 == 1

/-- The least significant byte of a number. -/
def lowByte (n : Nat) : Byte := BitVec.ofNat 8 n

/-- A number as two bytes. -/
def le16 (n : Nat) : List Byte := [lowByte n, lowByte (n / 256)]

/-- A number as four bytes. -/
def le32 (n : Nat) : List Byte := [lowByte n, lowByte (n / 256), lowByte (n / 65536), lowByte (n / 16777216)]

/-- A signed number as two bytes, two's complement. -/
def leInt16 (i : Int) : List Byte := le16 (BitVec.ofInt 16 i).toNat

/-- Exactly `n` bytes of a list, 0 where it holds none (log entry 4). -/
def sized (n : Nat) (bs : List Byte) : List Byte := bs.take n ++ List.replicate (n - bs.length) 0#8

/-- A link of a record header (11, section 11.3), the Notify flag and the kind code. -/
def RecordCopy.notify (r : RecordCopy) : Bool := bitAt r.bytes 6 0

/-- The kind code of a record header (11, section 11.3). -/
def RecordCopy.kindCode (r : RecordCopy) : Nat := half r.bytes 4

/-- The kind a code names (11, section 11.3). -/
def kindOfCode : Nat → Option Kind
  | 0x01 => some .panelUpdate | 0x02 => some .panelStop | 0x03 => some .panelResume | 0x04 => some .panelSetup
  | 0x05 => some .waveformLoad | 0x11 => some .storeIngest | 0x12 => some .storeRead | 0x13 => some .storeErase
  | 0x14 => some .storeProtect | 0x15 => some .storeSurvey | 0x21 => some .senseSetup | 0x22 => some .lightSet
  | 0x23 => some .lightCurve | 0x24 => some .powerSetup | 0x25 => some .powerSleep | 0x26 => some .turnLoad
  | 0x27 => some .turnArm | _ => none

/-- The code of a kind (11, section 11.3). -/
def Kind.code : Kind → Nat
  | .panelUpdate => 0x01 | .panelStop => 0x02 | .panelResume => 0x03 | .panelSetup => 0x04 | .waveformLoad => 0x05
  | .storeIngest => 0x11 | .storeRead => 0x12 | .storeErase => 0x13 | .storeProtect => 0x14 | .storeSurvey => 0x15
  | .senseSetup => 0x21 | .lightSet => 0x22 | .lightCurve => 0x23 | .powerSetup => 0x24 | .powerSleep => 0x25
  | .turnLoad => 0x26 | .turnArm => 0x27

/-- The lane that carries a kind (01 R9). -/
def Kind.lane : Kind → LaneId
  | .panelUpdate => .display | .panelStop => .display | .panelResume => .display | .panelSetup => .display
  | .waveformLoad => .display | .storeIngest => .store | .storeRead => .store | .storeErase => .store
  | .storeProtect => .store | .storeSurvey => .store | .senseSetup => .control | .lightSet => .control
  | .lightCurve => .control | .powerSetup => .control | .powerSleep => .control | .turnLoad => .control
  | .turnArm => .control

/-- The mode a code names (11, section 11.4). -/
def modeOfCode : Nat → Option Mode
  | 0 => some .clear | 1 => some .gray16 | 2 => some .gray4 | 3 => some .mono | _ => none

/-- The number of a mode, its bit in the mode mask and its place in the body (05 R78; 11, section 11.7). -/
def Mode.number : Mode → Nat
  | .clear => 0 | .gray16 => 1 | .gray4 => 2 | .mono => 3

/-! ## Rectangles (06 R96) -/

/-- The rectangle at offset 32 of a display record, unclipped. -/
def rawRect (bs : List Byte) : Rect := { x := half bs 32, y := half bs 34, w := half bs 36, h := half bs 38 }

/-- A rectangle is empty when it shares no pixel with the panel (R96). -/
def Rect.isEmpty (r : Rect) : Bool := 1600 ≤ r.x || 1200 ≤ r.y || r.w == 0 || r.h == 0

/-- A rectangle clipped at the panel's right and bottom edges (R96). -/
def Rect.clip (r : Rect) : Rect := { r with w := min r.w (1600 - r.x), h := min r.h (1200 - r.y) }

/-- Clipping changed the rectangle (R96). -/
def Rect.wasClipped (r : Rect) : Bool := !r.isEmpty && (r.clip.w != r.w || r.clip.h != r.h)

/-- Two rectangles share at least one pixel (00, Conventions). -/
def Rect.intersects (a b : Rect) : Bool :=
  a.x < b.x + b.w && b.x < a.x + a.w && a.y < b.y + b.h && b.y < a.y + a.h

/-- A rectangle lies wholly inside another (00, Conventions); both non-empty. -/
def Rect.inside (a b : Rect) : Bool :=
  b.x ≤ a.x && a.x + a.w ≤ b.x + b.w && b.y ≤ a.y && a.y + a.h ≤ b.y + b.h

/-- The full panel. -/
def fullPanel : Rect := { x := 0, y := 0, w := 1600, h := 1200 }

/-- A pixel, numbered in panel order (04 R65), lies in a rectangle. -/
def Rect.hasPixel (r : Rect) (p : Nat) : Bool :=
  r.x ≤ p % 1600 && p % 1600 < r.x + r.w && r.y ≤ p / 1600 && p / 1600 < r.y + r.h

/-- The pixels of a rectangle, row by row from its top left (06 R104). -/
def Rect.pixels (r : Rect) : List Nat :=
  (List.range r.h).flatMap fun row => (List.range r.w).map fun col => (r.y + row) * 1600 + (r.x + col)

/-! ## Buffers named by record bodies (01 R7; 06 R97; 07 section 7.5; 10 R186) -/

/-- The buffer a record of a kind names: its address and its extent in bytes; none where it names no buffer. -/
def RecordCopy.buffer (r : RecordCopy) : Kind → Option (Nat × Nat)
  | .panelUpdate =>
    let c := (rawRect r.bytes).clip
    if (rawRect r.bytes).isEmpty then none
    else some (wordNat r.bytes 40, (c.h - 1) * half r.bytes 44 + c.w)
  | .storeIngest => if wordNat r.bytes 36 = 0 then none else some (wordNat r.bytes 40, wordNat r.bytes 36)
  | .storeRead   => if byteAt r.bytes 35 = 0 then none else some (wordNat r.bytes 36, byteAt r.bytes 35 * 4096)
  | .storeSurvey => if half r.bytes 34 = 0 then none else some (wordNat r.bytes 36, half r.bytes 34)
  | .turnLoad    => if byteAt r.bytes 36 = 0 then none else some (wordNat r.bytes 32, byteAt r.bytes 36 * 8)
  | _            => none

end Sys2Proof.Machine
end

