-- ==== Sys2Proof/Machine/Sparse.lean ====
section
/-!
DEFINITION. Sparse lists: pairs of a key and a value, keys strictly rising. They hold shared memory, panel state, the
slots, the block table and the array. A key that is not listed reads as none; each use says what none stands for.
-/

namespace Sys2Proof.Machine

variable {β τ : Type}

/-- The canonical form: keys strictly rising, all at least `lo`. -/
def sparseFrom (lo : Nat) : List (Nat × β) → Bool
  | []          => true
  | (k, _) :: m => lo ≤ k && sparseFrom (k + 1) m

/-- The canonical form of a sparse list. -/
abbrev sparseWf (m : List (Nat × β)) : Bool := sparseFrom 0 m

/-- The value at a key, none where nothing is listed. -/
def sparseGet (key : Nat) : List (Nat × β) → Option β
  | []          => none
  | (k, v) :: m => if k = key then some v else sparseGet key m

/-- Write one key. -/
def sparsePut (key : Nat) (v : β) : List (Nat × β) → List (Nat × β)
  | []          => [(key, v)]
  | (k, w) :: m => if key < k then (key, v) :: (k, w) :: m
                   else if key = k then (key, v) :: m
                   else (k, w) :: sparsePut key v m

/-- Take one key out. -/
def sparseErase (key : Nat) : List (Nat × β) → List (Nat × β)
  | []          => []
  | (k, w) :: m => if k = key then m else (k, w) :: sparseErase key m

/-- Change every listed value, keys kept. -/
def sparseMap (f : Nat → β → β) : List (Nat × β) → List (Nat × β)
  | []          => []
  | (k, v) :: m => (k, f k v) :: sparseMap f m

/-- Write a rising run of keys in one pass: each listed key of `new` becomes `f` of its item and of what the key read
as before. The fuel is at least the two lengths together. -/
def sparseWeave (f : Nat → τ → Option β → β) : Nat → List (Nat × τ) → List (Nat × β) → List (Nat × β)
  | 0, _, old => old
  | _ + 1, [], old => old
  | n + 1, (k, t) :: new, [] => (k, f k t none) :: sparseWeave f n new []
  | n + 1, (k, t) :: new, (j, w) :: old =>
    if j < k then (j, w) :: sparseWeave f n ((k, t) :: new) old
    else if j = k then (k, f k t (some w)) :: sparseWeave f n new old
    else (k, f k t none) :: sparseWeave f n new ((j, w) :: old)

/-- Write a rising run of keys with all the fuel it needs. -/
def sparseWrite (f : Nat → τ → Option β → β) (new : List (Nat × τ)) (old : List (Nat × β)) : List (Nat × β) :=
  sparseWeave f (new.length + old.length) new old

/-- A run of values at consecutive keys. -/
def consecutive (first : Nat) : List τ → List (Nat × τ)
  | []     => []
  | t :: l => (first, t) :: consecutive (first + 1) l

/-- Write bytes at consecutive addresses of shared memory. -/
def writeShared (addr : Nat) (bytes : List Byte) (m : List Host.Cell) : List Host.Cell :=
  sparseWrite (fun _ b _ => b) (consecutive addr bytes) m

end Sys2Proof.Machine
end

