-- ==== Sys2Proof/Machine/StatusPage.lean ====
section
/-!
DEFINITION. What the host reads: the Status Page's 256 bytes (11, section 11.5), the register window's read side (11,
section 11.1), and the lines that follow the registers.
-/

namespace Sys2Proof.Machine

open Sys2Proof

/-- A block table entry; an unlisted block is UNKNOWN and LOCKED (09 R169, R182). -/
def Store.block (st : Store) (b : Nat) : BlockEntry :=
  (sparseGet b st.blocks).getD { fill := .unknown, prot := .locked }

/-- ATTN: some cause is both pending and enabled (01 R19). -/
def Regs.attn (r : Regs) : Bool := r.cause &&& r.causemask != 0#13

/-- RAIL_EN: asserted in RISING, DRIVING and HOLDING (06, section 6.5). -/
def Panel.railEn (p : Panel) : Bool :=
  match p.engine with
  | .rising => true | .driving => true | .holding => true | .off => false | .falling => false | .halted => false

/-- One lane by name. -/
def Link.lane (l : Link) : LaneId → Lane
  | .display => l.display
  | .store   => l.store
  | .control => l.control

/-- A flag as a number. -/
def bit (b : Bool) : Nat := if b then 1 else 0

/-- A lane record of the page. -/
def laneBytes (l : Lane) : List Byte :=
  [lowByte l.state.code, 0#8, 0#8, 0#8] ++ le32 l.cursor.toNat ++ le32 l.retiredAddr.toNat
    ++ le32 l.retiredCount.toNat ++ le32 l.stopAddr.toNat

/-- An uncertain region of the page, all 0 where the list has none. -/
def regionBytes : Option Rect → List Byte
  | some r => le16 r.x ++ le16 r.y ++ le16 r.w ++ le16 r.h
  | none   => List.replicate 8 0#8

/-- Client, kind, page and block of the operation in flight, or of the suspended erase when none is in flight; with
neither, all 0 (11, section 11.5). A block erase shows page 0 (DESIGN CHOICE, log entry 54). -/
def operationFields (st : Store) : Nat × Nat × Nat × Nat :=
  match st.op with
  | some (.read c p _)    => (c.code, 1, p % 64, p / 64)
  | some (.raw p _ _)     => (3, 2, p % 64, p / 64)
  | some (.program p _)   => (3, 3, p % 64, p / 64)
  | some (.mark b)        => (3, 5, 0, b)
  | none =>
    match st.erase with
    | some e => (3, 4, 0, e.block)
    | none   => (0, 0, 0, 0)

/-- The Bad marks as bits 0..23 (11, section 11.5). -/
def badBits : List TurnEntry → Nat
  | []     => 0
  | e :: l => bit e.bad + 2 * badBits l

/-- The number of blocks whose fill state is RETIRED (09 R183). -/
def Store.retiredBlocks (st : Store) : Nat := (st.blocks.filter fun e => e.2.fill == .retired).length

/-- The number of blocks whose fill state is UNKNOWN (09 R183). -/
def Store.unknownBlocks (st : Store) : Nat := 4096 - (st.blocks.filter fun e => e.2.fill != .unknown).length

/-- The page as a snapshot of the state, with the link state it is to show and its write count; the sense fields are
the presented ones (02 R34). Reserved bytes are 0 (11 R203), and so is the suspension count while there is no erase
(DESIGN CHOICE, log entry 54). -/
def pageBytes (s : State) (linkCode : Nat) (count : Word) : List Byte :=
  let p := s.panel
  let t := s.turn
  let l := s.light
  let st := s.store
  let op := operationFields st
  let n := s.sense.shown
  [le32 count.toNat,
    [lowByte linkCode, lowByte s.power.state.code, lowByte s.power.wakeReason.code, lowByte s.power.cls.code,
      lowByte (bit s.keys.charger.debounced), 0#8, 0#8, 0#8],
    laneBytes s.link.display, laneBytes s.link.store, laneBytes s.link.control,
    (match n.temperature with | some i => leInt16 i | none => le16 0x8000),
    [lowByte (bit n.thermFault), 0#8],
    le16 n.ambient, le16 n.battery,
    leInt16 n.battTrim, leInt16 n.thermTrim, leInt16 n.ambTrim,
    le16 n.battFiltered, le16 n.thermFiltered, le16 n.ambFiltered,
    [lowByte (bit s.wave.validA + 2 * bit s.wave.validB + 4 * bit (s.wave.active == .b)),
      lowByte (s.wave.range.getD 0xFF)],
    le16 s.wave.period,
    [lowByte p.engine.code, lowByte (bit p.known), lowByte p.pending.length, lowByte p.slots.length,
      lowByte p.uncertain.length, 0#8, 0#8, 0#8],
    (List.range 8).flatMap (fun r => regionBytes p.uncertain[r]?),
    le16 s.keys.countFwd.toNat, le16 s.keys.countBack.toNat, le16 s.keys.countMenu.toNat,
    le16 s.keys.countPower.toNat,
    [lowByte (bit s.keys.fwd.debounced + 2 * bit s.keys.back.debounced + 4 * bit s.keys.menu.debounced
        + 8 * bit s.keys.power.debounced + 16 * bit s.keys.cover.debounced),
      lowByte t.queue.length, lowByte (bit t.armed), lowByte t.entries.length, lowByte t.cursor,
      lowByte t.interval, lowByte t.counter, lowByte (bit t.owed), lowByte t.state.code,
      lowByte t.frameA.code, lowByte t.frameB.code, 0#8],
    le32 (badBits t.entries),
    [lowByte l.mode.code, lowByte (bit (l.curve != []) + 2 * bit l.fade + 4 * bit l.held.isNone),
      lowByte l.warmth, 0#8],
    le16 l.manual, leInt16 l.bias, le16 l.step, le16 (l.held.getD 0),
    le16 l.level, le16 l.target, le16 l.output, le16 l.warm, le16 l.cool,
    [lowByte st.power.code, lowByte op.1, lowByte op.2.1, lowByte op.2.2.1],
    le16 op.2.2.2,
    [lowByte (bit (st.erase.any fun e => e.phase == .suspended)), lowByte ((st.erase.map (·.count)).getD 0),
      lowByte (bit s.pins.guard), 0#8],
    le16 st.retiredBlocks, le16 st.unknownBlocks,
    [lowByte s.executor.phase.code, lowByte ((s.executor.kind.map Kind.code).getD 0)],
    le16 s.executor.block, le32 s.executor.progress,
    List.replicate 16 0#8,
    le32 count.toNat].flatten

/-- The fields of the page, its write count apart: what a change of leads to a page write (01 R17). -/
def pageFields (s : State) : List Byte := pageBytes s s.link.state.code 0#32

/-- The 32-bit value of the register at a word offset of the window (11, section 11.1). -/
def registerWord (s : State) : Nat → Word
  | 0x00 => Config.idValue
  | 0x04 => s.regs.anchor
  | 0x08 => BitVec.ofNat 32 (s.link.state.code + 256 * s.power.state.code)
  | 0x10 => s.regs.cause.setWidth 32
  | 0x14 => s.regs.causemask.setWidth 32
  | _    => 0#32

/-- A read of `width` bytes at an offset within the window: the bytes it names of the register that holds them (01 R1;
11 R202). R202 gives aligned 32-bit reads and narrower ones inside one register; a read that reaches into the next
register returns that register's bytes (DESIGN CHOICE, log entry 55). -/
def registerRead (s : State) (offset width : Nat) : List Byte :=
  (List.range width).map fun i =>
    ((registerWord s ((offset + i) / 4 * 4)) >>> (8 * ((offset + i) % 4))).setWidth 8

/-- LED_WARM is asserted at a count of the PWM period (08 R147). -/
def Light.warmLit (l : Light) (count : Nat) : Bool := 128 ≤ count && count < 128 + l.latchedWarm

/-- LED_COOL is asserted at a count of the PWM period (08 R147). -/
def Light.coolLit (l : Light) (count : Nat) : Bool :=
  if 128 + l.latchedWarm + l.latchedCool ≤ 4096 then
    128 + l.latchedWarm ≤ count && count < 128 + l.latchedWarm + l.latchedCool
  else 4096 - l.latchedCool ≤ count && count ≤ 4095

end Sys2Proof.Machine
end

