-- ==== Sys2Proof/Machine/Ops.lean ====
section
/-!
DEFINITION. The operations every block shares: one updater for each structure of the state, causes, the bus master
port, the Status Page writer, the taken-record tables, and the end of a step.
-/

namespace Sys2Proof.Machine

open Sys2Proof

/-! ## Updaters -/

def State.modRegs (s : State) (f : Regs → Regs) : State := { s with regs := f s.regs }
def State.modLink (s : State) (f : Link → Link) : State := { s with link := f s.link }
def State.modBus (s : State) (f : Bus → Bus) : State := { s with bus := f s.bus }
def State.modSense (s : State) (f : Sense → Sense) : State := { s with sense := f s.sense }
def State.modPower (s : State) (f : Power → Power) : State := { s with power := f s.power }
def State.modWm (s : State) (f : WorkMem → WorkMem) : State := { s with wm := f s.wm }
def State.modWave (s : State) (f : Wave → Wave) : State := { s with wave := f s.wave }
def State.modPanel (s : State) (f : Panel → Panel) : State := { s with panel := f s.panel }
def State.modPins (s : State) (f : Pins → Pins) : State := { s with pins := f s.pins }
def State.modKeys (s : State) (f : Keys → Keys) : State := { s with keys := f s.keys }
def State.modTurn (s : State) (f : Turn → Turn) : State := { s with turn := f s.turn }
def State.modLight (s : State) (f : Light → Light) : State := { s with light := f s.light }
def State.modStore (s : State) (f : Store → Store) : State := { s with store := f s.store }
def State.modExecutor (s : State) (f : Executor → Executor) : State := { s with executor := f s.executor }
def State.modShared (s : State) (f : List Host.Cell → List Host.Cell) : State := { s with shared := f s.shared }

/-- The step's result. -/
abbrev Result := Host.Outcome State Fault Refusal

/-! ## Causes and lines -/

/-- Set a cause (01 R18). -/
def setCause (c : Cause) (s : State) : State := s.modRegs fun r => { r with cause := r.cause ||| causeBit c }

/-- Assert HOSTWAKE (01 R20). -/
def setHostwake (s : State) : State := s.modRegs fun r => { r with hostwake := true }

/-! ## Lanes -/

/-- Change one lane. -/
def Link.setLane (l : Link) (i : LaneId) (f : Lane → Lane) : Link :=
  match i with
  | .display => { l with display := f l.display }
  | .store   => { l with store := f l.store }
  | .control => { l with control := f l.control }

/-- Change one lane of the state. -/
def State.modLane (s : State) (i : LaneId) (f : Lane → Lane) : State := s.modLink fun l => l.setLane i f

/-- The capacity of a lane's taken-record table (01 R9). -/
def tableCapacity : LaneId → Nat
  | .display => 32
  | .store   => 4
  | .control => 4

/-- An object of n bytes at an address lies inside the window (01 R7). -/
def Link.inWindow (l : Link) (a n : Nat) : Bool := l.low.toNat ≤ a && a + n ≤ l.high.toNat

/-- While the link is ATTACHED or DETACHING the Status Page is written (01 R17). -/
def Link.reporting (l : Link) : Bool := l.state == .attached || l.state == .detaching

/-! ## The port and the page (01 R8, R17) -/

/-- Ask the port for an access. -/
def enqueue (a : BusAccess) (s : State) : State := s.modBus fun b => { b with queue := b.queue ++ [a] }

/-- A page write is waiting to begin, or the last one of a DETACHING has been asked for. -/
def Bus.pageWaits (b : Bus) : Bool :=
  (if b.snapshot.isSome then b.queue.tail else b.queue).contains .statusPage || b.queue.contains .finalPage

/-- Ask for a whole-page write: several changes before it begins lead to one write (R17). -/
def requestPage (s : State) : State :=
  if s.link.reporting && !s.bus.pageWaits then enqueue .statusPage s else s

/-- An access of a lane's records or links, or of a buffer that a record names. -/
def BusAccess.ofLane : BusAccess → Bool
  | .recordRead ..  => true
  | .linkRead ..    => true
  | .resultWrite .. => true
  | .stateWrite ..  => true
  | .anchorRead ..  => false
  | .statusPage     => false
  | .finalPage      => false
  | .buffer ..      => true

/-- A buffer access that stands for several: the image rows of a slot and the first pass over a payload are read one
access after another, each asked for when the one before it has ended (log entry 5). -/
def BusAccess.repeats : BusAccess → Bool
  | .buffer (.imageRows _) _ _ => true
  | .buffer .payload _ _       => true
  | _                          => false

/-- A transfer of several accesses whose turn has come makes its first and asks for its next behind what waits: it
leaves the queue, and what waits behind it comes to the head of the port (R8, log entry 5). -/
def startTransfers (s : State) : State :=
  s.modBus fun b =>
    { b with queue := b.queue.dropWhile BusAccess.repeats,
             transfers := b.transfers ++ b.queue.takeWhile BusAccess.repeats }

/-- The access at the head of the port ends, where it satisfies a test: the access, and the state without it (R8). -/
def endAccess (p : BusAccess → Bool) (s : State) : Option (BusAccess × State) :=
  match s.bus.queue with
  | []     => none
  | a :: q => if p a then some (a, s.modBus fun b => { b with queue := q, snapshot := none }) else none

/-- The transfer that satisfies a test has made its last access: the state without it (R8). -/
def endTransfer (p : BusAccess → Bool) (s : State) : Option State :=
  if s.bus.transfers.any p then some (s.modBus fun b => { b with transfers := b.transfers.filter fun a => !p a })
  else none

/-- Every record of every taken-record table is Done. -/
def Link.allDone (l : Link) : Bool :=
  l.display.table.all (·.done) && l.store.table.all (·.done) && l.control.table.all (·.done)

/-- The last page write of a DETACHING is due: every record taken is Done and no lane reads or writes (R5). -/
def finalDue (s : State) : Bool :=
  s.link.state == .detaching && s.link.allDone && !s.bus.queue.any BusAccess.ofLane && s.bus.transfers.isEmpty
    && !s.bus.queue.contains .finalPage

/-- The access at the head of the port begins: a page write takes its snapshot and its count (R17); the last one of
a DETACHING shows the link DETACHED (R5, 12 R204). -/
def beginAccess (s : State) : State :=
  match s.bus.queue, s.bus.snapshot with
  | .statusPage :: _, none =>
    s.modBus fun b => { b with snapshot := some (pageBytes s s.link.state.code (b.writeCount + 1#32)),
                               writeCount := b.writeCount + 1#32 }
  | .finalPage :: _, none =>
    s.modBus fun b => { b with snapshot := some (pageBytes s LinkState.detached.code (b.writeCount + 1#32)),
                               writeCount := b.writeCount + 1#32 }
  | _, _ => s

/-- Ask for the last page write of a DETACHING once it is due. -/
def requestFinal (s : State) : State := if finalDue s then enqueue .finalPage s else s

/-- The end of a step that went from `s` to `t`: a changed page field asks for a page write (R17), the last page of a
DETACHING is asked for when due (R5), transfers whose turn has come start, and the port begins its next access. Only
the port changes. -/
def settlePort (s t : State) : State :=
  beginAccess (startTransfers (requestFinal (if pageFields s = pageFields t then t else requestPage t)))

/-- Every meaning ends in this: the state after the step, its reports made. -/
def commit (s t : State) : Result := .next (settlePort s t)

/-! ## Taken-record tables (01 R9 to R16) -/

/-- An entry at the head that can retire: Done, its link followed (R16). -/
def TakenEntry.retirable (e : TakenEntry) : Bool := e.done && e.followed

/-- Retire every retirable record at the head of a lane's table (R16). -/
def retire (i : LaneId) (s : State) : State :=
  let out := (s.link.lane i).table.takeWhile TakenEntry.retirable
  let t := s.modLane i fun l =>
    { l with table := l.table.dropWhile TakenEntry.retirable,
             retiredAddr := (out.getLast?.map (·.addr)).getD l.retiredAddr,
             retiredCount := l.retiredCount + BitVec.ofNat 32 out.length }
  if out.any (·.notify) then setCause (laneDone i) t else t

/-- Change the first entry of a table that has the address and is not Done. -/
def updateEntry (addr : Word) (f : TakenEntry → TakenEntry) : List TakenEntry → List TakenEntry
  | []     => []
  | e :: l => if e.addr = addr && !e.done then f e :: l else e :: updateEntry addr f l

/-- Mark a record Done in its table and re-evaluate retirement (R11, R16). -/
def markDone (i : LaneId) (addr : Word) (s : State) : State :=
  retire i (s.modLane i fun l => { l with table := updateEntry addr (fun e => { e with done := true }) l.table })

/-- The record under way at an address: in the table, accepted by its consumer and not Done. -/
def openEntry (i : LaneId) (addr : Word) (s : State) : Option TakenEntry :=
  (s.link.lane i).table.find? fun e => e.addr = addr && !e.done && e.kind.isSome

/-- A consumer completes a record: result, detail and progress are written, then the state word Done (R11). A record
whose writes a bus error has ended is Done at once (R15). A record that its table no longer holds is not written
(R6). -/
def completeRecord (i : LaneId) (addr : Word) (result : ResultCode) (detail : Word) (progress : Nat) (s : State) :
    State :=
  match openEntry i addr s with
  | none   => s
  | some e =>
    if e.unwritable then markDone i addr s
    else enqueue (.stateWrite i addr .done) (enqueue (.resultWrite i addr result detail progress) s)

/-- Write a record Running (R11), unless a bus error has ended its writes (R15). -/
def markRunning (i : LaneId) (addr : Word) (s : State) : State :=
  match openEntry i addr s with
  | none   => s
  | some e => if e.unwritable then s else enqueue (.stateWrite i addr .running) s

/-- A read of a lane's next record or of its link. -/
def BusAccess.readsFor (i : LaneId) : BusAccess → Bool
  | .recordRead j _ => i == j
  | .linkRead j _ _ => i == j
  | _               => false

/-- A lane stops (R14): a read of a record or a link that it has asked for is not made. A lane already STOPPED keeps
its stopping record (log entry 8). -/
def stopLane (i : LaneId) (addr : Word) (s : State) : State :=
  if (s.link.lane i).state = .stopped then s
  else setCause laneStopped
    ((s.modBus fun b => { b with queue := b.queue.filter fun a => !a.readsFor i }).modLane i fun l =>
      { l with state := .stopped, stopAddr := addr, copy := none })

/-- The address of the link a lane reads: the link of the record at its cursor, or the lane's first-record field of
the Anchor Block (R12; 11, section 11.2), which is found at ANCHOR as it stands (DESIGN CHOICE, log entry 40). -/
def linkAddress (i : LaneId) (s : State) : Word :=
  let c := (s.link.lane i).cursor
  if c = 0#32 then
    s.regs.anchor + (match i with | .display => 20#32 | .store => 24#32 | .control => 28#32)
  else c

/-- A lane asks to read its link. -/
def requestLink (i : LaneId) (why : LinkReadWhy) (s : State) : State :=
  enqueue (.linkRead i (linkAddress i s) why) s

/-- A lane in TAKING comes to take the record under its cursor: it is HELD with its table full, stops where the
record lies outside the window, and otherwise reads the record (R9, R10, R14). Only a latched first-record address
can lie outside, so the stopping record is 0. -/
def takeCursor (i : LaneId) (s : State) : State :=
  let l := s.link.lane i
  if tableCapacity i ≤ l.table.length then s.modLane i fun l => { l with state := .held, copy := none }
  else if !s.link.inWindow l.cursor.toNat 128 then stopLane i 0#32 s
  else enqueue (.recordRead i l.cursor) (s.modLane i fun l => { l with state := .taking, copy := none })

/-- A table entry for a record just taken or refused. -/
def newEntry (r : RecordCopy) (kind : Option Kind) : TakenEntry :=
  { addr := r.addr, notify := r.notify, kind := kind, done := false, followed := false, unwritable := false }

/-- Add an entry to a lane's table. -/
def addEntry (i : LaneId) (e : TakenEntry) (s : State) : State :=
  s.modLane i fun l => { l with table := l.table ++ [e], copy := none }

/-- Refuse a record at take: it gets an entry, its result is written with detail and progress 0, then Done, and the
link is read (R9, R12). The entry becomes Done when the Done write ends (R11, log entry 7). -/
def refuseRecord (i : LaneId) (r : RecordCopy) (result : ResultCode) (s : State) : State :=
  requestLink i .taken
    (enqueue (.stateWrite i r.addr .done)
      (enqueue (.resultWrite i r.addr result 0#32 0) (addEntry i (newEntry r none) s)))

/-- Some accepted record of a lane is not yet Done. -/
def Lane.hasOpen (l : Lane) : Bool := l.table.any fun e => e.kind.isSome && !e.done

/-- The consumer of a kind can accept a record now (01 R10; 06 R99; 10 R184). -/
def canAccept (k : Kind) (s : State) : Bool :=
  match k.lane with
  | .display =>
    !(s.link.display.table.any fun e => e.kind == some .waveformLoad && !e.done)
      && (k != .panelUpdate || s.panel.pending.length < Config.pendingCapacity)
  | .store   => !s.link.store.hasOpen && s.executor.phase == .idle
  | .control => !s.link.control.hasOpen

/-- The record of a kind that its lane offers: read, checked, and not yet taken (R9). -/
def offered (k : Kind) (s : State) : Option RecordCopy :=
  let l := s.link.lane k.lane
  if s.link.state = .attached ∧ l.state = .taking then
    l.copy.filter fun r => kindOfCode r.kindCode == some k
  else none

/-- A consumer accepts the offered record: it gets an entry, its state is written Taken, and its link is read (R9,
R10, R12). -/
def acceptRecord (k : Kind) (r : RecordCopy) (s : State) : State :=
  requestLink k.lane .taken
    (enqueue (.stateWrite k.lane r.addr .taken) (addEntry k.lane (newEntry r (some k)) s))

/-- A lane whose consumer cannot accept is HELD and keeps the copy it read (R10). -/
def holdLane (i : LaneId) (s : State) : State := s.modLane i fun l => { l with state := .held }

/-- The step of a kind's row: with a record of that kind offered, it is accepted and `effect` follows, or the lane is
HELD; with none offered nothing changes (log entry 2). -/
def onRecord (k : Kind) (effect : RecordCopy → State → State) (s : State) : Result :=
  match offered k s with
  | none   => commit s s
  | some r => if canAccept k s then commit s (effect r (acceptRecord k r s)) else commit s (holdLane k.lane s)

end Sys2Proof.Machine
end

