-- ==== Sys2Proof/Machine/MemoryOps.lean ====
section
/-!
DEFINITION. The Working Memory Controller's operations (04): the arbiter's decision, requests for bursts, the
self-refresh requests of the Power Controller, and the regions' contents.
-/

namespace Sys2Proof.Machine

open Sys2Proof

/-! ## The arbiter (04 R68, R70) -/

/-- Bursts are granted in ACTIVE and ENTERING alone (04, section 4.2). -/
def WorkMem.serves (w : WorkMem) : Bool := w.state == .active || w.state == .entering

/-- The round-robin order after the client served last (R68). Frame Scan never holds the position. -/
def roundRobinAfter : WmClient → List WmClient
  | .frameScan      => [.imageCopier, .retirePass, .decoder, .waveformLoader, .storeReader]
  | .imageCopier    => [.retirePass, .decoder, .waveformLoader, .storeReader, .imageCopier]
  | .retirePass     => [.decoder, .waveformLoader, .storeReader, .imageCopier, .retirePass]
  | .decoder        => [.waveformLoader, .storeReader, .imageCopier, .retirePass, .decoder]
  | .waveformLoader => [.storeReader, .imageCopier, .retirePass, .decoder, .waveformLoader]
  | .storeReader    => [.imageCopier, .retirePass, .decoder, .waveformLoader, .storeReader]

/-- The waiting client that comes first in round-robin order (R68 step 3). -/
def WorkMem.nextClient (w : WorkMem) : Option WmClient := (roundRobinAfter w.rr).find? fun c => w.waiting.contains c

/-- Grant a client its burst; Frame Scan leaves the round-robin position unchanged (R68). -/
def WorkMem.grant (w : WorkMem) (c : WmClient) : WorkMem :=
  { w with running := some (.burst c), waiting := w.waiting.erase c, rr := if c = .frameScan then w.rr else c }

/-- A refresh is issued, which takes 1 from the debt (R70). -/
def WorkMem.refresh (w : WorkMem) : WorkMem := { w with running := some .refresh, debt := w.debt - 1 }

/-- What the arbiter does next when nothing runs (R68): a refresh forced at 8, Frame Scan, a round-robin client, or a
refresh of an idle memory. -/
def WorkMem.decide (w : WorkMem) : WorkMem :=
  if !w.serves || w.running.isSome then w
  else if Config.forcedDebt ≤ w.debt then w.refresh
  else if w.waiting.contains .frameScan then w.grant .frameScan
  else match w.nextClient with
    | some c => w.grant c
    | none   => if 0 < w.debt then w.refresh else w

/-- A client starts to wait, unless it waits already. -/
def WorkMem.wait (w : WorkMem) (c : WmClient) : WorkMem :=
  if w.waiting.contains c then w else { w with waiting := w.waiting ++ [c] }

/-- A client places a request (R68); it is held where bursts are not granted (R72), and there is no controller to ask
while the memory is unpowered. Requests that one step places reach the arbiter one after another, in the order in
which the step places them (DESIGN CHOICE, log entry 45). -/
def wmRequest (c : WmClient) (s : State) : State :=
  s.modWm fun w => if w.state = .unpowered then w else (w.wait c).decide

/-- A client whose work has ended waits no longer: a request it has placed and that is not granted yet is withdrawn, and
a burst that runs goes on to its end (R68; DESIGN CHOICE, log entry 56). -/
def wmDrop (c : WmClient) (s : State) : State := s.modWm fun w => { w with waiting := w.waiting.erase c }

/-- A client has work that needs the memory: only then can it ask for a further burst (R66). -/
def clientBusy (s : State) : WmClient → Bool
  | .frameScan      => s.panel.scan
  | .imageCopier    => !s.panel.copyQueue.isEmpty
  | .retirePass     => !s.panel.passQueue.isEmpty
  | .decoder        => s.turn.state == .checking || s.turn.state == .decoding
  | .waveformLoader => s.wave.load.any fun l => l.page.isSome || l.stage == .checking
  | .storeReader    => !s.turn.arrived.isEmpty

/-- A burst or refresh ends: the clients that ask start to wait, and the arbiter decides again (R68). -/
def wmGoOn (requests : List WmClient) (s : State) : State :=
  s.modWm fun w =>
    ((requests.filter (clientBusy s)).foldl WorkMem.wait { w with running := none }).decide

/-! ## Self-refresh and initialisation (04 R67, R71, R73) -/

/-- The Power Controller's self-refresh request (R67, R71). -/
def WorkMem.askSelfRefresh (w : WorkMem) : WorkMem :=
  match w.state with
  | .active       => { w with state := .entering }
  | .initialising => { w with srHeld := true }
  | .leaving      => { w with srHeld := true }
  | .entering     => w
  | .selfRefresh  => w
  | .unpowered    => w

/-- A withdrawal of the request, or a request to leave (R73). -/
def WorkMem.leave (w : WorkMem) : WorkMem :=
  match w.state with
  | .entering     => { w with state := .active }
  | .selfRefresh  => { w with state := .leaving }
  | .initialising => { w with srHeld := false }
  | .leaving      => { w with srHeld := false }
  | .active       => w
  | .unpowered    => w

/-- ACTIVE is entered from INITIALISING or LEAVING: the debt is 0, a held self-refresh request is acted on, and held
client requests are granted (R67, R70, R73). -/
def WorkMem.activate (w : WorkMem) : WorkMem :=
  { w with state := if w.srHeld then .entering else .active, srHeld := false, debt := 0 }.decide

/-- INITIALISING is entered: what ran or waited is dropped, and the contents are undefined from here on (R67, R74,
R77, log entry 35). -/
def wmInitialise (s : State) : State := s.modWm fun w => WorkMem.initialising (w.epoch + 1)

/-- VDD_MAIN goes off: the controller is UNPOWERED and the contents are lost (R67, R76). -/
def wmUnpower (s : State) : State :=
  s.modWm fun w => { WorkMem.initialising (w.epoch + 1) with state := .unpowered }

/-! ## Contents (04 R65) -/

/-- What a panel-state entry reads as where nothing has written since the contents were lost: a free value. -/
def undefinedEntry (epoch p : Nat) : PanelEntry :=
  let a := Config.undefinedByte epoch (2 * p)
  let b := Config.undefinedByte epoch (2 * p + 1)
  { current := a.extractLsb' 0 4, target := a.extractLsb' 4 4, slot := b.extractLsb' 0 3, active := b.getLsbD 7 }

/-- A panel-state entry by pixel number (R65). -/
def WorkMem.entry (w : WorkMem) (p : Nat) : PanelEntry := (sparseGet p w.panel).getD (undefinedEntry w.epoch p)

/-- The levels of a staging frame. -/
def WorkMem.frame (w : WorkMem) : Frame → List (BitVec 4)
  | .a => w.frameA
  | .b => w.frameB

/-- The level a pixel of a staging frame reads as where nothing has written since the contents were lost (R65: two
pixels a byte, the left one first): a free value, the left pixel's in the low nibble (DESIGN CHOICE, log entry 46). -/
def undefinedLevel (epoch : Nat) (f : Frame) (p : Nat) : BitVec 4 :=
  (Config.undefinedByte epoch ((match f with | .a => Config.frameABase | .b => Config.frameBBase) + p / 2)).extractLsb'
    (4 * (p % 2)) 4

/-- The level of a pixel in a staging frame. -/
def WorkMem.frameLevel (w : WorkMem) (f : Frame) (p : Nat) : BitVec 4 :=
  (w.frame f)[p]?.getD (undefinedLevel w.epoch f p)

/-- Replace the first levels of a staging frame. -/
def WorkMem.writeFrame (w : WorkMem) (f : Frame) (levels : List (BitVec 4)) : WorkMem :=
  match f with
  | .a => { w with frameA := levels ++ w.frameA.drop levels.length }
  | .b => { w with frameB := levels ++ w.frameB.drop levels.length }

/-- The bytes of a waveform bank. -/
def WorkMem.bank (w : WorkMem) : Bank → List Byte
  | .a => w.bankA
  | .b => w.bankB

/-- Bytes laid over a list at an offset it reaches. -/
def overlay (old : List Byte) (off : Nat) (bytes : List Byte) : List Byte :=
  old.take off ++ bytes ++ old.drop (off + bytes.length)

/-- Write bytes into a waveform bank. -/
def WorkMem.writeBank (w : WorkMem) (b : Bank) (off : Nat) (bytes : List Byte) : WorkMem :=
  match b with
  | .a => { w with bankA := overlay w.bankA off bytes }
  | .b => { w with bankB := overlay w.bankB off bytes }

/-- The byte of a bank at an offset; free where nothing has written. -/
def WorkMem.bankByte (w : WorkMem) (b : Bank) (i : Nat) : Byte :=
  (w.bank b)[i]?.getD
    (Config.undefinedByte w.epoch ((match b with | .a => Config.bankABase | .b => Config.bankBBase) + i))

end Sys2Proof.Machine
end

