-- ==== Sys2Proof/Machine/WaveOps.lean ====
section
/-!
DEFINITION. The Waveform Unit's operations (05): reading a set's header, the range index, the frame period in force,
the latch of a starting slot, the load's end.
-/

namespace Sys2Proof.Machine

open Sys2Proof

/-- The other bank. -/
def Bank.other : Bank → Bank
  | .a => .b
  | .b => .a

/-- A bank's validity flag. -/
def Wave.valid (v : Wave) : Bank → Bool
  | .a => v.validA
  | .b => v.validB

/-- Set a bank's validity flag. -/
def Wave.setValid (v : Wave) (b : Bank) (x : Bool) : Wave :=
  match b with
  | .a => { v with validA := x }
  | .b => { v with validB := x }

/-- A set is in force: the active bank is valid (R80). -/
def Wave.inForce (v : Wave) : Bool := v.valid v.active

/-! ## The header of a set (11, section 11.7) -/

/-- N, the number of ranges. -/
def setRanges (h : List Byte) : Nat := byteAt h 5

/-- The default range. -/
def setDefault (h : List Byte) : Nat := byteAt h 6

/-- The frame period, 0.1 ms units. -/
def setPeriod (h : List Byte) : Nat := half h 8

/-- The upper limit U. -/
def setUpper (h : List Byte) : Int := halfSigned h 10

/-- The lower bound L_r. -/
def setLower (h : List Byte) (r : Nat) : Int := halfSigned h (12 + 2 * r)

/-- The total size the header states. -/
def setSize (h : List Byte) : Nat := wordNat h 36

/-- The set provides a mode. -/
def setHasMode (h : List Byte) (m : Mode) : Bool := bitAt h 4 m.number

/-- The frame count F of a mode and range. -/
def setFrames (h : List Byte) (m : Mode) (r : Nat) : Nat := byteAt h (48 + 12 * m.number + r)

/-- The modes in table order (R78). -/
def modeOrder : List Mode := [.clear, .gray16, .gray4, .mono]

/-- The frame counts of a mode's ranges below `n`, added. -/
def sumFrames (h : List Byte) (m : Mode) : Nat → Nat
  | 0     => 0
  | n + 1 => sumFrames h m n + setFrames h m n

/-- The frames of every present mode of a list, over every range. -/
def framesOf (h : List Byte) : List Mode → Nat
  | []     => 0
  | m :: l => (if setHasMode h m then sumFrames h m (setRanges h) else 0) + framesOf h l

/-- The position in its bank of the table of a mode and range (R78): the header, the tables of the present modes
before it, and its own ranges below r. -/
def tableOffset (h : List Byte) (m : Mode) (r : Nat) : Nat :=
  256 + 64 * (framesOf h (modeOrder.take m.number) + sumFrames h m r)

/-- The size the header must state (R78). -/
def requiredSize (h : List Byte) : Nat := 256 + 64 * framesOf h modeOrder + 4

/-- The lower bounds of ranges 0..n-1 lie in range and ascend (R85). -/
def lowersOk (h : List Byte) : Nat → Bool
  | 0     => true
  | n + 1 =>
    lowersOk h n && -400 ≤ setLower h n && setLower h n ≤ 1250 && (n == 0 || setLower h (n - 1) < setLower h n)

/-- Every frame count of a present mode in a range below N is at least 1 (R85); a byte never exceeds 255. -/
def framesOk (h : List Byte) : Bool :=
  modeOrder.all fun m => !setHasMode h m || (List.range (setRanges h)).all fun r => 1 ≤ setFrames h m r

/-- The signature of a set. -/
def setSignature : List Byte := [0x56#8, 0x4A#8, 0x57#8, 0x46#8]

/-- The page count P of a set (R84). -/
def setPages (h : List Byte) : Nat := (setSize h + 4095) / 4096

/-- The header passes the checks of R85, for a record that gives `count` pages. -/
def headerOk (h : List Byte) (count : Nat) : Bool :=
  h.take 4 == setSignature && setHasMode h .clear && 1 ≤ setRanges h && setRanges h ≤ 12
    && lowersOk h (setRanges h)
    && setLower h (setRanges h - 1) < setUpper h && setUpper h ≤ 1250
    && setDefault h < setRanges h && 100 ≤ setPeriod h && setPeriod h ≤ 300
    && framesOk h && setSize h == requiredSize h && setPages h ≤ count

/-- The header of the set in a bank. -/
def WorkMem.header (w : WorkMem) (b : Bank) : List Byte := (List.range 256).map fun i => w.bankByte b i

/-- The header of the set in force. -/
def activeHeader (s : State) : List Byte := s.wm.header s.wave.active

/-- The mode is present in the set in force. -/
def modeInForce (m : Mode) (s : State) : Bool := s.wave.inForce && setHasMode (activeHeader s) m

/-! ## Range index (R92, R93) -/

/-- The candidate range: the highest index below `n` with L_j at most T, or 0. -/
def candidate (h : List Byte) (t : Int) : Nat → Nat
  | 0     => 0
  | n + 1 => if setLower h n ≤ t then n else candidate h t n

/-- The range index after a temperature event (R92, R93). -/
def selectRange (h : List Byte) (t : Int) (v : Wave) : Wave :=
  let j := candidate h t (setRanges h)
  match v.range with
  | none   => v
  | some i =>
    if v.fromDefault then { v with range := some j, fromDefault := false }
    else if i < j then { v with range := some j }
    else if j < i && t < setLower h i - 10 then { v with range := some j }
    else v

/-- A temperature new-value event while a set is in force (R92). -/
def rangeEvent (s : State) : State :=
  match s.sense.shown.temperature with
  | none   => s
  | some t => if s.wave.inForce then s.modWave (selectRange (activeHeader s) t) else s

/-! ## Slots and banks (R83, R90, R91) -/

/-- The slot references the bank it latched: until it completes, is stopped or is aborted (R83). -/
def Slot.references (sl : Slot) (b : Bank) : Bool := sl.state != .clearing && sl.bank == b

/-- Some active slot references a bank. -/
def bankReferenced (b : Bank) (s : State) : Bool := s.panel.slots.any fun e => e.2.references b

/-- The interval of R90 ends once no slot references the bank that the flip made inactive. -/
def settlePeriod (s : State) : State :=
  if s.wave.periodPending && !bankReferenced s.wave.active.other s then
    s.modWave fun v => { v with period := setPeriod (activeHeader s), periodPending := false }
  else s

/-- What a starting slot latches (R91). -/
structure Latch where
  bank   : Bank
  table  : Nat
  frames : Nat
  detail : Word
deriving DecidableEq, Repr

/-- The warnings of R94, from what the Sense Front End presents. -/
def latchWarnings (s : State) : Word :=
  let h := activeHeader s
  match s.sense.shown.temperature with
  | none   => warnTempHeld
  | some t => warnIf s.sense.shown.thermFault warnTempHeld ||| warnIf (t < setLower h 0 || setUpper h < t) warnTempClamped

/-- The latch for an effective mode; refused where the set in force lacks it (R91). -/
def latch (m : Mode) (s : State) : Option Latch :=
  if modeInForce m s then
    let h := activeHeader s
    let r := s.wave.range.getD 0
    some { bank := s.wave.active, table := tableOffset h m r, frames := setFrames h m r, detail := latchWarnings s }
  else none

/-! ## The load (R81 to R89) -/

/-- The load in progress ends: its record completes with the load's progress and detail. -/
def endLoad (result : ResultCode) (s : State) : State :=
  match s.wave.load with
  | none   => s
  | some l =>
    completeRecord .display l.addr result l.detail l.progress (s.modWave fun v => { v with load := none })

/-- The page of the array the load reads next. -/
def Load.nextPage (l : Load) : Nat := l.block * 64 + l.first + l.progress

/-- A forced descent ends a load that is not yet reading the store (R62, R82, R83). -/
def endWaitingLoad (result : ResultCode) (s : State) : State :=
  if s.wave.load.any fun l => l.stage == .listWait || l.stage == .bankWait then endLoad result s else s

/-- The engine entering HALTED ends a load in LIST_WAIT (R82). -/
def endListWaitLoad (s : State) : State :=
  if s.wave.load.any fun l => l.stage == .listWait then endLoad .panelHalted s else s

/-- The flip (R87): the bank just loaded becomes valid and active, the range index is set directly from the presented
temperature (R93), and the frame period is settled (R90). -/
def flip (s : State) : State :=
  let b := s.wave.active.other
  let h := s.wm.header b
  let held := bankReferenced s.wave.active s
  s.modWave fun v =>
    { v.setValid b true with
        active := b,
        range := some (match s.sense.shown.temperature with
          | some t => candidate h t (setRanges h)
          | none   => setDefault h),
        fromDefault := s.sense.shown.temperature.isNone,
        period := if held then v.period else setPeriod h,
        periodPending := held }

/-- The set in the inactive bank ends in the CRC-32 of what goes before (R86). -/
def bankCrcOk (s : State) : Bool :=
  let b := s.wave.active.other
  let n := setSize (s.wm.header b)
  let bytes := (List.range n).map fun i => s.wm.bankByte b i
  crc32 (bytes.take (n - 4)) == word bytes (n - 4)

/-- The contents-lost event at the Waveform Unit (R80). -/
def waveLost (s : State) : State := s.modWave fun _ => .reset

end Sys2Proof.Machine
end

