-- ==== Sys2Proof/Machine/PanelOps.lean ====
section
/-!
DEFINITION. The Panel Update Engine's operations (06): reports on internal updates (06 R124, 07 R142), the pending
list, starts, aborts, stops, the rails and the engine's states, and the passes over panel state. The Turn-Ahead
Unit's offer (07 R140) stands here, since the engine takes it whenever an entry leaves the list.
-/

namespace Sys2Proof.Machine

open Sys2Proof

/-! ## Reports on internal updates (06 R124, 07 R142) -/

/-- The state of a staging frame. -/
def Turn.frameState (t : Turn) : Frame → FrameState
  | .a => t.frameA
  | .b => t.frameB

/-- Set the state of a staging frame. -/
def Turn.setFrame (t : Turn) (f : Frame) (x : FrameState) : Turn :=
  match f with
  | .a => { t with frameA := x }
  | .b => { t with frameB := x }

/-- Frame free, the copy having ended (R142). -/
def reportCopied (f : Frame) (s : State) : State := s.modTurn fun t => t.setFrame f .free

/-- The update has been lost: full owed is set if it is the latest full update (R142). -/
def Turn.lose (t : Turn) (id : Nat) : Turn := if t.latestFull = some id then { t with owed := true } else t

/-- Frame free, the update having been removed before its copy ended (R142). -/
def reportRemoved (f : Frame) (id : Nat) (s : State) : State := s.modTurn fun t => (t.setFrame f .free).lose id

/-- The update has ended without completion, its copy having ended before (R142). -/
def reportEnded (id : Nat) (s : State) : State := s.modTurn fun t => t.lose id

/-- The update has completed: the latest full update, if it is this one, is forgotten (R142). -/
def reportCompleted (id : Nat) (s : State) : State :=
  s.modTurn fun t => if t.latestFull = some id then { t with latestFull := none } else t

/-! ## Rules of the power state (06 R110, R118, R120) -/

/-- The rail hold cut applies in DOZE_ENTRY and DEEP_ENTRY (03 R48, R57). -/
def holdCut (s : State) : Bool := s.power.state == .dozeEntry || s.power.state == .deepEntry

/-- The flush of R120 is in force. -/
def flushInForce (s : State) : Bool :=
  s.panel.flushed && s.panel.engine == .halted && (s.power.state == .dozeEntry || s.power.state == .deepEntry)

/-- The slot limit of a supply class (03 R43, 06 R118). -/
def slotLimit : SupplyClass → Nat
  | .normal    => 8
  | .reduced   => 4
  | .critical  => 2
  | .exhausted => 0

/-! ## The pending list (06 R99, R100) -/

/-- An entry leaves the list without starting: its record completes with the result, progress 0 and its detail, or it
is reported removed. For LowSupply (03 R62) and BadMode at the start (R103) the rules give neither value (DESIGN CHOICE,
log entry 58). -/
def endEntry (result : ResultCode) (e : Entry) (s : State) : State :=
  match e.src with
  | .record addr => completeRecord .display addr result e.detail 0 s
  | .internal f  => reportRemoved f e.id s

/-- End several entries, oldest first. -/
def endEntries (result : ResultCode) : List Entry → State → State
  | [], s     => s
  | e :: l, s => endEntries result l (endEntry result e s)

/-- Take every entry that satisfies a test out of the list, and end each with the result. -/
def removeEntries (result : ResultCode) (p : Entry → Bool) (s : State) : State :=
  endEntries result (s.panel.pending.filter p)
    (s.modPanel fun q => { q with pending := q.pending.filter fun e => !p e })

/-- A newer entry supersedes an older one: the older carries MaySupersede and lies wholly inside it (R100). -/
def supersedes (new old : Entry) : Bool := old.maySupersede && old.rect.inside new.rect

/-- An entry joins the list at its tail, and supersedes (R99, R100). -/
def joinList (e : Entry) (s : State) : State :=
  let t := removeEntries .superseded (supersedes e) s
  t.modPanel fun p => { p with pending := p.pending ++ [e], nextId := e.id + 1 }

/-- Flush the list: every entry ends with the result (R62, R120). -/
def flushList (result : ResultCode) (s : State) : State := removeEntries result (fun _ => true) s

/-- The flush of a link in DETACHING: entries from records alone (R120). -/
def flushRecords (s : State) : State :=
  removeEntries .panelHalted (fun e => match e.src with | .record _ => true | .internal _ => false) s

/-! ## Slots -/

/-- Change one slot. -/
def modSlot (n : Nat) (f : Slot → Slot) (s : State) : State :=
  s.modPanel fun p => { p with slots := sparseMap (fun m sl => if m = n then f sl else sl) p.slots }

/-- The lowest-numbered FREE slot (R103). -/
def Panel.freeSlot (p : Panel) : Option Nat := (List.range 8).find? fun n => (sparseGet n p.slots).isNone

/-- A stop awaiting its effect holds the entry (R113). -/
def Panel.stopHolds (p : Panel) (id : Nat) : Bool := p.stops.any fun st => !st.effect && st.marks.contains id

/-- The effective rectangle, the effective mode and the promotion of an entry, decided from the state at the moment
(R102). -/
def effective (p : Panel) (e : Entry) : Rect × Mode × Bool :=
  if !p.known then (fullPanel, .clear, true)
  else if p.uncertain.any (e.rect.intersects ·) then (e.rect, .clear, true)
  else (e.rect, e.mode, false)

/-- The first entry that qualifies, `older` holding the effective rectangles of the entries passed over (R101). -/
def findStart (p : Panel) : List Rect → List Entry → Option Entry
  | _, []         => none
  | older, e :: l =>
    let r := (effective p e).1
    if !p.stopHolds e.id && !(p.slots.any fun sl => sl.2.eff.intersects r) && !(older.any (·.intersects r)) then some e
    else findStart p (r :: older) l

/-- Starts are made now: the engine is neither HALTED nor FALLING and the active slots are below their bound (R101,
R118). -/
def startsMade (s : State) : Bool :=
  s.panel.engine != .halted && s.panel.engine != .falling
    && s.panel.slots.length < 8 && s.panel.slots.length < slotLimit s.power.cls

/-- A start moves OFF to RISING and HOLDING to DRIVING (R103, R108, R110). -/
def Panel.startEngine (p : Panel) : Panel :=
  match p.engine with
  | .off     => { p with engine := .rising, risingTimer := true }
  | .holding => { p with engine := .driving, holdTimer := none }
  | .rising  => p
  | .driving => p
  | .falling => p
  | .halted  => p

/-- The slot an entry becomes (R103). -/
def startedSlot (p : Panel) (e : Entry) (l : Latch) : Slot :=
  let eff := effective p e
  { state := .copying, id := e.id, src := e.src, rect := e.rect, eff := eff.1, mode := e.mode, effMode := eff.2.1,
    changedOnly := e.changedOnly && !eff.2.2, image := e.image, stride := e.stride, unknownStart := !p.known,
    bank := l.bank, table := l.table, frames := l.frames, frame := 0, driven := 0,
    detail := e.detail ||| warnIf eff.2.2 warnPromoted ||| l.detail, abort := .ok }

/-- The read of the image rows of a slot. -/
def BusAccess.isRows (n : Nat) : BusAccess → Bool
  | .buffer (.imageRows m) _ _ => m == n
  | _                          => false

/-- The bytes a slot's image rows extend over from the image address (R97). -/
def Slot.rowsLength (sl : Slot) : Nat := (sl.rect.h - 1) * sl.stride + sl.rect.w

/-- The Image Copier asks the port for the image rows of the slot it copies for, unless it has asked for them or copies
from a staging frame (01 R8; R97, R104). -/
def requestRows (s : State) : State :=
  match s.panel.copyQueue with
  | []     => s
  | n :: _ =>
    match sparseGet n s.panel.slots with
    | none    => s
    | some sl =>
      match sl.src with
      | .internal _ => s
      | .record _   =>
        if (s.bus.queue ++ s.bus.transfers).any (BusAccess.isRows n) then s
        else enqueue (.buffer (.imageRows n) sl.image.toNat sl.rowsLength) s

/-- The rows of a slot whose copy has stopped are read no further (R105, R107). A row that is being read then is given
up, and no access waits for its end (DESIGN CHOICE, log entry 51). -/
def dropRows (n : Nat) (s : State) : State :=
  s.modBus fun b =>
    { b with queue := b.queue.filter fun a => !a.isRows n, transfers := b.transfers.filter fun a => !a.isRows n }

/-- Start an entry (R103): it leaves the list for the lowest FREE slot, or ends with BadMode where the latch is
refused (R91). -/
def startEntry (e : Entry) (s : State) : State :=
  match latch (effective s.panel e).2.1 s, s.panel.freeSlot with
  | some l, some n =>
    requestRows (wmRequest .imageCopier
      (s.modPanel fun p =>
        { p.startEngine with
            pending := p.pending.filter fun x => x.id != e.id,
            slots := sparsePut n (startedSlot p e l) p.slots,
            copyQueue := p.copyQueue ++ [n] }))
  | _, _ => removeEntries .badMode (fun x => x.id == e.id) s

/-- Start entries until none qualifies; each start takes one entry out of the list, so the list's length is fuel
enough. -/
def startAll : Nat → State → State
  | 0, s     => s
  | n + 1, s =>
    if startsMade s then
      match findStart s.panel [] s.panel.pending with
      | some e => startAll n (startEntry e s)
      | none   => s
    else s

/-- A start evaluation (R101). -/
def evaluateStarts (s : State) : State := startAll s.panel.pending.length s

/-! ## The Turn-Ahead Unit's offer (07 R140) -/

/-- The outcome of the offer where it cannot join: it is refused under the forced descent or the flush of R120, its
frame becomes FREE and the turn ends. -/
def refuseOffer (s : State) : State := s.modTurn fun t => { t.setFrame t.frame .free with state := .idle }

/-- The entry an offer joins as (07 R140, 06 R99). -/
def offeredEntry (s : State) : Entry :=
  { id := s.panel.nextId, src := .internal s.turn.frame, rect := fullPanel, mode := s.turn.mode,
    changedOnly := !s.turn.offerFull, maySupersede := true, image := 0#32, stride := 0, detail := 0#32 }

/-- The turn whose offer is accepted (R140). -/
def Turn.accepted (t : Turn) (id : Nat) : Turn :=
  let u := { t.setFrame t.frame .held with state := .idle, cursor := t.target }
  if t.offerFull then { u with counter := 0, owed := false, latestFull := some id }
  else if 0 < t.interval then { u with counter := t.counter + 1 }
  else u

/-- A turn in OFFERING offers its update: it is refused, kept while the list is full, or accepted (R140). -/
def tryOffer (s : State) : State :=
  if s.turn.state != .offering then s
  else if s.power.forced || flushInForce s then refuseOffer s
  else if Config.pendingCapacity ≤ s.panel.pending.length then s
  else evaluateStarts (joinList (offeredEntry s) (s.modTurn fun t => t.accepted s.panel.nextId))

/-- What follows a change of the list or of the slots: starts are evaluated, and a waiting offer is made again. -/
def settlePanel (s : State) : State := tryOffer (evaluateStarts s)

/-! ## Uncertain regions (06 R116) -/

/-- Add an aborted RUNNING slot's rectangle (R116). -/
def Panel.addUncertain (p : Panel) (r : Rect) : Panel :=
  if !p.known || p.uncertain.any (r.inside ·) then p
  else if Config.uncertainCapacity ≤ p.uncertain.length then { p with uncertain := [], known := false }
  else { p with uncertain := p.uncertain ++ [r] }

/-! ## Aborts (06 R107) -/

/-- The internal update of an aborted slot is reported: removed in COPYING, ended afterward (R107, R124). -/
def reportAbort (sl : Slot) (s : State) : State :=
  match sl.src, sl.state with
  | .record _, _          => s
  | .internal f, .copying => reportRemoved f sl.id s
  | .internal _, _        => reportEnded sl.id s

/-- The slot can be aborted (R107). -/
def Slot.abortable (sl : Slot) : Bool := sl.state == .copying || sl.state == .ready || sl.state == .running

/-- The Image Copier after a change of its queue: it asks for the memory, and the port, for the slot it is at, or waits
no longer (04 R68; 01 R8; R104). -/
def copyOn (s : State) : State :=
  if s.panel.copyQueue.isEmpty then wmDrop .imageCopier s else requestRows (wmRequest .imageCopier s)

/-- Abort a slot (R107): it becomes CLEARING, a RUNNING slot adds its uncertain region, and the Retire Pass is given
it. -/
def abortSlot (result : ResultCode) (n : Nat) (s : State) : State :=
  match sparseGet n s.panel.slots with
  | none    => s
  | some sl =>
    if !sl.abortable then s
    else
      let t := s.modPanel fun p =>
        { (if sl.state = .running then p.addUncertain sl.eff else p) with
            slots := sparsePut n { sl with state := .clearing, abort := result } p.slots,
            copyQueue := p.copyQueue.filter (· != n),
            passQueue := p.passQueue ++ [n] }
      let u := if sl.state = .copying then copyOn (dropRows n t) else t
      settlePeriod (wmRequest .retirePass (reportAbort sl u))

/-- Abort several slots, in the order given; the regions of RUNNING ones join the uncertain list in that order. -/
def abortSlots (result : ResultCode) : List Nat → State → State
  | [], s     => s
  | n :: l, s => abortSlots result l (abortSlot result n s)

/-- The numbers of the slots whose contents satisfy a test, in slot order. Slots that one step aborts are taken in this
order, and so their regions join the uncertain list (R116; DESIGN CHOICE, log entry 52). -/
def Panel.slotsWhere (p : Panel) (f : Slot → Bool) : List Nat := (p.slots.filter fun e => f e.2).map (·.1)

/-! ## Stops (06 R113, R114) -/

/-- A stop in effect that waits for no slot is complete: its record completes and it leaves the stop list (R114). The
slots it waits for are those it aborted, of internal updates too (DESIGN CHOICE, log entry 57). -/
def completeStops (s : State) : State :=
  (s.panel.stops.filter fun st => st.effect && st.waits.isEmpty).foldl
    (fun u st => completeRecord .display st.addr .ok st.detail st.stopped u)
    (s.modPanel fun p => { p with stops := p.stops.filter fun st => !(st.effect && st.waits.isEmpty) })

/-- The entries of the list and the slots that a stop has marked and can still stop (R114). -/
def Panel.markedEntries (p : Panel) (st : Stop) : List Entry := p.pending.filter fun e => st.marks.contains e.id

/-- The marked slots, COPYING, READY or RUNNING (R114). -/
def Panel.markedSlots (p : Panel) (st : Stop) : List (Nat × Slot) :=
  p.slots.filter fun e => st.marks.contains e.2.id && e.2.abortable

/-- A stop once it has taken effect on the engine as it stood: it counts what it stopped and waits for the slots it
aborted (R114). A slot of an internal update, which has no record, is waited for as the others are, until its CLEARING
pass has ended (DESIGN CHOICE, log entry 57). -/
def Stop.taken (st : Stop) (p : Panel) : Stop :=
  { st with effect := true, marks := [],
            stopped := (p.markedEntries st).length + (p.markedSlots st).length,
            waits := (p.markedSlots st).map fun e => e.2.id }

/-- A stop takes effect: the marked entries end with Stopped, the marked slots are aborted with Stopped (R114), in slot
order (log entry 52). -/
def effectStop (st : Stop) (s : State) : State :=
  abortSlots .stopped ((s.panel.markedSlots st).map (·.1))
    (removeEntries .stopped (fun e => st.marks.contains e.id) s)

/-- The stops of a list that await their effect take it in order; `done` holds, newest first, those dealt with. -/
def effectList : List Stop → List Stop → State → State
  | [], done, s      => s.modPanel fun p => { p with stops := done.reverse }
  | st :: l, done, s =>
    if st.effect then effectList l (st :: done) s
    else effectList l (st.taken s.panel :: done) (effectStop st s)

/-- Every stop that awaits its effect takes it, in order of acceptance, and stops with nothing to wait for complete
(R114). -/
def effectStops (s : State) : State := completeStops (effectList s.panel.stops [] s)

/-! ## Engine states (06 R108 to R111) -/

/-- FALLING is entered (R110). -/
def Panel.fall (p : Panel) : Panel := { p with engine := .falling, holdTimer := none, fallingTimer := true }

/-- HOLDING is entered, and passed at once with a hold time of 0 or under the rail hold cut; stops awaiting a tick
take effect after it (R110, R114). -/
def enterHolding (s : State) : State :=
  effectStops
    (s.modPanel fun p =>
      if holdCut s || p.holdTime == 0 then p.fall else { p with engine := .holding, holdTimer := some p.holdTime })

/-- In DRIVING the last active slot becoming FREE leads to HOLDING (R109). -/
def leaveDriving (s : State) : State :=
  if s.panel.engine = .driving ∧ s.panel.slots = [] then settlePanel (enterHolding s) else s

/-- The rail hold cut begins: a HOLDING engine goes to FALLING at once (R48, R110). -/
def applyHoldCut (s : State) : State := s.modPanel fun p => if p.engine = .holding then p.fall else p

/-- A slot becomes FREE: the Retire Pass goes on, stops that waited for the slot go on, starts are evaluated, and DRIVING
may end (04 R68; R101, R106, R107, R109, R114). The starts come before the move to HOLDING, so that an entry that can
start keeps the engine DRIVING (DESIGN CHOICE, log entry 47). A stop waits for the slot of an internal update as well
(log entry 57). -/
def freeSlot (n : Nat) (id : Nat) (s : State) : State :=
  let t := s.modPanel fun p =>
    { p with slots := sparseErase n p.slots, passQueue := p.passQueue.filter (· != n),
             stops := p.stops.map fun st => { st with waits := st.waits.filter (· != id) } }
  let u := if t.panel.passQueue.isEmpty then wmDrop .retirePass t else wmRequest .retirePass t
  leaveDriving (settlePanel (completeStops (settlePeriod u)))

/-- What entering HALTED does inside the engine (R111): the rails and timers stop, a scan in progress is abandoned,
the active slots that can be are aborted in slot order (DESIGN CHOICE, log entry 52), a load in LIST_WAIT ends, the
cause is set, and stops awaiting a tick take effect (R114). The report to the Power Controller is R64's; its flush, and
that of a DETACHING link (R120), come after those stops (DESIGN CHOICE, log entry 50). -/
def haltEngine (s : State) : State :=
  let t := wmDrop .frameScan
    (s.modPanel fun p =>
      { p with engine := .halted, risingTimer := false, holdTimer := none, scan := false })
  let u := abortSlots .railFault (t.panel.slotsWhere Slot.abortable) t
  effectStops (setCause panelHaltedCause (endListWaitLoad u))

/-! ## Passes over panel state (06 R104, R106, R107) -/

/-- The level a mode quantises a level to (R104). -/
def quantise (m : Mode) (t : Nat) : Nat :=
  match m with
  | .gray4  => 5 * ((t + 2) / 5)
  | .mono   => if t ≤ 7 then 0 else 15
  | .clear  => t
  | .gray16 => t

/-- The staging frame an internal update copies from, as an array of levels; a record copies none. -/
def sourceFrame (w : WorkMem) (sl : Slot) : Array (BitVec 4) :=
  match sl.src with
  | .record _   => #[]
  | .internal f => (w.frame f).toArray

/-- The level a slot's image gives a pixel of its own rectangle: the upper four bits of the byte at image address +
r × stride + c, `image` being the bytes from the image address on, or the staging frame's level (R97, R104). -/
def imageLevel (w : WorkMem) (sl : Slot) (image : Array Byte) (frame : Array (BitVec 4)) (p : Nat) : Nat :=
  match sl.src with
  | .record _   => (image[(p / 1600 - sl.rect.y) * sl.stride + (p % 1600 - sl.rect.x)]?.getD 0#8).toNat / 16
  | .internal f => (frame[p]?.getD (undefinedLevel w.epoch f p)).toNat

/-- The target of a pixel (R104): 15 outside the entry's own rectangle, else its level; quantised. -/
def targetLevel (w : WorkMem) (sl : Slot) (image : Array Byte) (frame : Array (BitVec 4)) (p : Nat) : BitVec 4 :=
  BitVec.ofNat 4 (quantise sl.mode (if sl.rect.hasPixel p then imageLevel w sl image frame p else 15))

/-- What the Image Copier leaves of a pixel's entry: the target, the slot and the active flag written, unless
ChangedOnly applies and the target is the current level (R104). -/
def copiedEntry (w : WorkMem) (n : Nat) (sl : Slot) (p : Nat) (t : BitVec 4) (old : Option PanelEntry) : PanelEntry :=
  let e := old.getD (undefinedEntry w.epoch p)
  if sl.changedOnly && e.current == t then e
  else { current := e.current, target := t, slot := BitVec.ofNat 3 n, active := true }

/-- The copy of a slot's targets into panel state (R104). -/
def copyTargets (n : Nat) (sl : Slot) (image : List Byte) (s : State) : State :=
  let bytes := image.toArray
  let frame := sourceFrame s.wm sl
  let targets := sl.eff.pixels.map fun p => (p, targetLevel s.wm sl bytes frame p)
  s.modWm fun w => { w with panel := sparseWrite (copiedEntry w n sl) targets w.panel }

/-- What the Retire Pass leaves of a pixel's entry: of an active pixel of this slot the current level becomes the
target, where the slot retires, and the active flag is cleared (R106, R107). -/
def passedEntry (w : WorkMem) (n : Nat) (retires : Bool) (p : Nat) (_ : Unit) (old : Option PanelEntry) : PanelEntry :=
  let e := old.getD (undefinedEntry w.epoch p)
  if e.active && e.slot == BitVec.ofNat 3 n then
    { e with current := if retires then e.target else e.current, active := false }
  else e

/-- The Retire Pass over a slot's rectangle (R106, R107). -/
def passOver (n : Nat) (sl : Slot) (retires : Bool) (s : State) : State :=
  let pixels := sl.eff.pixels.map fun p => (p, ())
  s.modWm fun w => { w with panel := sparseWrite (passedEntry w n retires) pixels w.panel }

/-- The drive code a frame of a latched table holds for a pair of levels (05 R79; 11, section 11.7). -/
def driveCode (w : WorkMem) (sl : Slot) (source target : Nat) : Nat :=
  let i := source * 16 + target
  (w.bankByte sl.bank (sl.table + 64 * sl.frame + i / 4)).toNat / 4 ^ (i % 4) % 4

/-- What the panel is driven with in a frame (05 R79). -/
inductive Drive where
  | zero | positive | negative
deriving DecidableEq, Repr

/-- The drive a code stands for; 3 is treated as Zero (05 R79). -/
def driveOf : Nat → Drive
  | 1 => .positive
  | 2 => .negative
  | _ => .zero

/-- What the frame of a scan drives a pixel with: the drive of its RUNNING slot's code in that frame, Zero otherwise (06
R105, 05 R79). -/
def pixelDrive (s : State) (p : Nat) : Drive :=
  let e := s.wm.entry p
  match sparseGet e.slot.toNat s.panel.slots with
  | some sl =>
    if e.active && sl.state == .running then
      driveOf (driveCode s.wm sl (if sl.unknownStart then 15 else e.current.toNat) e.target.toNat)
    else .zero
  | none => .zero

/-- A CLEAR that completes removes the regions wholly inside its rectangle, and makes the panel Known where it covered
the full panel (R106, R117). -/
def Panel.cleared (p : Panel) (sl : Slot) : Panel :=
  if sl.effMode = .clear then
    { p with uncertain := p.uncertain.filter fun r => !r.inside sl.eff, known := p.known || sl.eff == fullPanel }
  else p

/-- The update of a slot completes with a result: its record with the count of frames as progress, or a report
(R106). -/
def completeSlot (sl : Slot) (s : State) : State :=
  match sl.src with
  | .record addr => completeRecord .display addr .ok sl.detail sl.frames s
  | .internal _  => reportCompleted sl.id s

/-- The contents-lost event at the engine (R75): Unknown, no uncertain regions. -/
def panelLost (s : State) : State := s.modPanel fun p => { p with known := false, uncertain := [] }

/-- The contents-lost event at the Turn-Ahead Unit (04 R75, 07 R130): the frames free, the list empty. -/
def turnLost (s : State) : State :=
  s.modTurn fun t => { t with frameA := .free, frameB := .free, entries := [], cursor := 0 }

end Sys2Proof.Machine
end

