-- ==== Sys2Proof/Machine/LightOps.lean ====
section
/-!
DEFINITION. The Front Light Controller's arithmetic (08, section 8.5): the level, the target under the class ceiling,
the ramp, the mix and the duties.
-/

namespace Sys2Proof.Machine

open Sys2Proof

/-- The light ceiling of a supply class (03 R43, 08 R155). -/
def lightCeiling : SupplyClass → Nat
  | .normal    => 1000
  | .reduced   => 600
  | .critical  => 200
  | .exhausted => 0

/-- Linear interpolation between two points, the quotient truncated toward zero (02 R31, 08 R154). -/
def interpolate (x : Nat) (x0 : Nat) (y0 : Int) (x1 : Nat) (y1 : Int) : Int :=
  y0 + Int.tdiv (((x : Int) - x0) * (y1 - y0)) ((x1 : Int) - x0)

/-- A curve read at a value (02 R31, 08 R154): below its first point the first value, above its last the last, and
between two points by interpolation. An empty curve gives 0. -/
def curveAt (x : Nat) : List (Nat × Int) → Int
  | []                       => 0
  | [(_, y)]                 => y
  | (x0, y0) :: (x1, y1) :: l =>
    if x ≤ x0 then y0
    else if x < x1 then interpolate x x0 y0 x1 y1
    else curveAt x ((x1, y1) :: l)

/-- A value clamped to lo..hi (00, Conventions). -/
def clampInt (lo hi i : Int) : Int := if i < lo then lo else if hi < i then hi else i

/-- The level L (R154). -/
def Light.formLevel (l : Light) : Nat :=
  match l.mode with
  | .off    => 0
  | .manual => l.manual
  | .auto   =>
    match l.held with
    | none   => 0
    | some a =>
      if l.curve = [] then 0
      else (clampInt 0 1000 (curveAt a (l.curve.map fun p => (p.1, (p.2 : Int))) + l.bias)).toNat

/-- The warm share (R157). -/
def warmShare (o w : Nat) : Nat := (o * w + 50) / 100

/-- A share as a duty (R157). -/
def dutyOf (share : Nat) : Nat := (share * 3968 + 500) / 1000

/-- The duties follow every change of O or w (R157). -/
def Light.mix (l : Light) : Light :=
  let wv := warmShare l.output l.warmth
  { l with warm := dutyOf wv, cool := dutyOf (l.output - wv) }

/-- T is recomputed under the class in force (R155). -/
def Light.retarget (cls : SupplyClass) (l : Light) : Light := { l with target := min l.level (lightCeiling cls) }

/-- L is recomputed, and T at once after it (R154). -/
def Light.relevel (cls : SupplyClass) (l : Light) : Light := { l with level := l.formLevel }.retarget cls

/-- A class change: T is recomputed and O is cut to the new ceiling at once (R155). -/
def Light.takeClass (cls : SupplyClass) (l : Light) : Light :=
  { l.retarget cls with output := min l.output (lightCeiling cls) }.mix

/-- An ambient new-value event: stored, and in Auto L and T are recomputed (R153). -/
def Light.takeAmbient (cls : SupplyClass) (a : Nat) (l : Light) : Light :=
  let m := { l with held := some a }
  if l.mode = .auto then m.relevel cls else m

/-- The ramp goal (R156, R159). -/
def Light.goal (l : Light) : Nat := if l.fade then 0 else l.target

/-- Move by at most a step toward a goal (R156). -/
def stepToward (goal step o : Nat) : Nat :=
  if o ≤ goal then (if goal - o ≤ step then goal else o + step)
  else (if o - goal ≤ step then goal else o - step)

/-- A ramp tick (R156). -/
def Light.tick (l : Light) : Light := { l with output := stepToward l.goal l.step l.output }.mix

/-- Count 0 of a PWM period: the duties are latched (R146). -/
def Light.latch (l : Light) : Light := { l with latchedWarm := l.warm, latchedCool := l.cool }

/-! ## LIGHT_SET and LIGHT_CURVE (08, sections 8.3 and 8.4; 11, section 11.4) -/

/-- The light mode a code names (11, section 11.4). -/
def lightModeOfCode : Nat → Option LightMode
  | 0 => some .off
  | 1 => some .manual
  | 2 => some .auto
  | _ => none

/-- The mode a LIGHT_SET selects: the present mode, or the mode held where none is present; none where the present one
names nothing (R149). -/
def lightSetMode (b : List Byte) (l : Light) : Option LightMode :=
  if bitAt b 32 0 then lightModeOfCode (byteAt b 33) else some l.mode

/-- Some present value of a LIGHT_SET lies outside its range (R150). -/
def lightSetClamped (b : List Byte) : Bool :=
  (bitAt b 32 1 && 1000 < half b 36) || (bitAt b 32 2 && (halfSigned b 38 < -200 || 200 < halfSigned b 38))
    || (bitAt b 32 3 && 100 < byteAt b 34) || (bitAt b 32 4 && (half b 40 == 0 || 1000 < half b 40))

/-- The present values of a LIGHT_SET applied with clamping, L and T recomputed, and the mix (R150). -/
def Light.applySet (cls : SupplyClass) (b : List Byte) (mode : LightMode) (l : Light) : Light :=
  let m :=
    { l with
        mode := mode,
        manual := if bitAt b 32 1 then min (half b 36) 1000 else l.manual,
        bias := if bitAt b 32 2 then clampInt (-200) 200 (halfSigned b 38) else l.bias,
        warmth := if bitAt b 32 3 then min (byteAt b 34) 100 else l.warmth,
        step := if bitAt b 32 4 then max 1 (min (half b 40) 1000) else l.step }
  (m.relevel cls).mix

/-- The counted points of a LIGHT_CURVE. -/
def lightPoints (b : List Byte) : List (Nat × Nat) :=
  (List.range (byteAt b 32)).map fun i => (half b (36 + 4 * i), half b (38 + 4 * i))

/-- The first parts of a list of points ascend strictly. -/
def ascending {α : Type} : List (Nat × α) → Bool
  | []          => true
  | [_]         => true
  | p :: q :: l => p.1 < q.1 && ascending (q :: l)

/-- A LIGHT_CURVE passes the checks of R151. -/
def lightCurveOk (b : List Byte) : Bool :=
  byteAt b 32 != 1 && byteAt b 32 ≤ 8 && ascending (lightPoints b)
    && (lightPoints b).all fun p => p.1 ≤ 4095 && p.2 ≤ 1000

/-- A LIGHT_CURVE replaces the curve held; in Auto L and T are recomputed (R152). -/
def Light.applyCurve (cls : SupplyClass) (points : List (Nat × Nat)) (l : Light) : Light :=
  let m := { l with curve := points }
  if l.mode = .auto then m.relevel cls else m

end Sys2Proof.Machine
end

