-- ==== Sys2Proof/Machine/SenseOps.lean ====
section
/-!
DEFINITION. The Sense Front End's operations (02): the correction chain, the sweep and its timer, SENSE_SETUP.
-/

namespace Sys2Proof.Machine

open Sys2Proof

/-! ## The correction chain (02, section 2.3) -/

/-- The trim used for a sample: in Auto it moves one count toward the zero sample and is clamped to -256..255, in
Manual it is kept (R26, R27). -/
def Channel.nextTrim (c : Channel) (z : Nat) : Int :=
  match c.mode with
  | .manual => c.trim
  | .auto   =>
    clampInt (-256) 255
      (if c.trim < (z : Int) then c.trim + 1 else if (z : Int) < c.trim then c.trim - 1 else c.trim)

/-- Stage 2, gain (R28). -/
def scaleSample (d : Int) (gain : Nat) : Nat := (clampInt 0 4095 (Int.fdiv (d * gain + 128) 256)).toNat

/-- Stage 3, filter (R29). -/
def filterStep (f s k : Nat) : Nat := ((f : Int) + Int.tdiv ((s : Int) - f) (2 ^ k : Nat)).toNat

/-- A channel after its signal sample `r`, with zero sample `z`: stages 1 to 3 (R26 to R29). -/
def Channel.sample (c : Channel) (z r : Nat) : Channel :=
  let o := c.nextTrim z
  let s := scaleSample ((r : Int) - o) c.gain
  { c with trim := o, filtered := if c.seed then s else filterStep c.filtered s c.k, seed := false }

/-- The battery voltage of a filtered value (R30). -/
def batteryOf (f : Nat) : Nat := f * 5 / 4

/-- A thermistor fault (R32). -/
def thermFaulty (r : Nat) : Bool := r < 16 || 4079 < r

/-- A BATT signal sample (R30). -/
def Sense.takeBatt (n : Sense) (z r : Nat) : Sense :=
  let c := n.batt.sample z r
  { n with batt := c, battery := batteryOf c.filtered }

/-- A THERM signal sample (R31, R32). -/
def Sense.takeTherm (n : Sense) (z r : Nat) : Sense :=
  if thermFaulty r then { n with thermFault := true }
  else
    let c := n.therm.sample z r
    { n with therm := c, thermFault := false,
             temperature := match n.curve with
               | some curve => some (curveAt c.filtered curve)
               | none       => n.temperature }

/-- An AMB signal sample (R30). -/
def Sense.takeAmb (n : Sense) (z r : Nat) : Sense :=
  let c := n.amb.sample z r
  { n with amb := c, ambient := c.filtered }

/-- What is presented once a sweep has ended, or a setup has been applied between sweeps: the values as they are held
(R33, R34, R37, R39; DESIGN CHOICE, log entry 43). -/
def Sense.present (n : Sense) : Sense :=
  { n with shown :=
      { temperature := n.temperature, thermFault := n.thermFault, ambient := n.ambient, battery := n.battery,
        battTrim := n.batt.trim, thermTrim := n.therm.trim, ambTrim := n.amb.trim,
        battFiltered := n.batt.filtered, thermFiltered := n.therm.filtered, ambFiltered := n.amb.filtered } }

/-- A channel's signal sample runs its chain. -/
def Sense.take (n : Sense) (ch : ChannelId) (z r : Nat) : Sense :=
  match ch with
  | .batt  => n.takeBatt z r
  | .therm => n.takeTherm z r
  | .amb   => n.takeAmb z r

/-! ## Sweeps and the sweep timer (R22 to R24) -/

/-- Which of the three sweep periods a power state uses (R23). -/
inductive PeriodKind where
  | run | doze | deep
deriving DecidableEq, Repr

/-- The sweep period a power state uses (R23). -/
def periodKind : PowerState → PeriodKind
  | .run         => .run
  | .waking      => .run
  | .dozeEntry   => .doze
  | .dozeQuiet   => .doze
  | .dozeTurning => .doze
  | .deepEntry   => .doze
  | .deep        => .deep

/-- The length of a sweep period in milliseconds (R23). -/
def Sense.period (n : Sense) : PeriodKind → Nat
  | .run  => n.runPeriod
  | .doze => n.dozePeriod
  | .deep => n.deepPeriod * 1000

/-- A sweep starts in a power state: its channels are fixed and the timer is loaded (R22, R23). A full sweep that was
owed is this one: where DEEP has been entered again before it could start, it covers BATT alone, as R22 fixes its
channels (DESIGN CHOICE, log entry 37). -/
def Sense.startSweep (p : PowerState) (n : Sense) : Sense :=
  { n with sweep := some { full := p != .deep, chan := .batt, stage := .zero, zero := 0 },
           timer := some (n.period (periodKind p)), remembered := false, fullDue := false }

/-- No sweep can start: one runs, or a setup is to be applied first (R35). -/
def Sense.occupied (n : Sense) : Bool := n.sweep.isSome || n.setup.isSome

/-- The sweep timer expires: a sweep starts, or the expiry is remembered (R23, R35). -/
def Sense.expire (p : PowerState) (n : Sense) : Sense :=
  if n.occupied then { n with timer := none, remembered := true } else n.startSweep p

/-- A sweep that is owed starts, once none runs and no setup waits: a remembered expiry, or the full sweep of a wake
from DEEP (R23, R24, R35). -/
def Sense.startOwed (p : PowerState) (n : Sense) : Sense :=
  if !n.occupied && (n.remembered || n.fullDue) then n.startSweep p else n

/-- The power state changes: the timer is reloaded where the two states use different periods (R24). -/
def Sense.changeState (old new : PowerState) (n : Sense) : Sense :=
  if periodKind old = periodKind new then n else { n with timer := some (n.period (periodKind new)) }

/-- The full sweep of a wake from DEEP starts, or is owed while a sweep runs (R24). -/
def Sense.wakeSweep (p : PowerState) (n : Sense) : Sense :=
  if n.occupied then { n with fullDue := true } else n.startSweep p

/-- The channel after one, where the sweep covers it (R22). -/
def Sweep.nextChannel (w : Sweep) : Option ChannelId :=
  match w.chan with
  | .batt  => if w.full then some .therm else none
  | .therm => some .amb
  | .amb   => none

/-! ## SENSE_SETUP (02, section 2.6; 11, section 11.4) -/

/-- The start of a channel's group in the record. -/
def groupBase : ChannelId → Nat
  | .batt  => 36
  | .therm => 44
  | .amb   => 52

/-- The presence bit of a channel's group. -/
def groupBit : ChannelId → Nat
  | .batt  => 0
  | .therm => 1
  | .amb   => 2

/-- A channel's group is present. -/
def groupPresent (b : List Byte) (ch : ChannelId) : Bool := bitAt b 32 (groupBit ch)

/-- The curve points of the record. -/
def setupCurve (b : List Byte) : List (Nat × Int) :=
  (List.range 9).map fun i => (half b (60 + 4 * i), halfSigned b (62 + 4 * i))

/-- The record passes the checks of R36. -/
def senseSetupOk (b : List Byte) : Bool :=
  (!bitAt b 32 3
      || (ascending (setupCurve b) && (setupCurve b).all fun p => p.1 ≤ 4095 && -400 ≤ p.2 && p.2 ≤ 1250))
    && (!bitAt b 32 4
      || (50 ≤ half b 96 && half b 96 ≤ 5000 && 250 ≤ half b 98 && half b 98 ≤ 10000
            && 10 ≤ half b 100 && half b 100 ≤ 600))
    && [ChannelId.batt, .therm, .amb].all fun ch => !groupPresent b ch || byteAt b (groupBase ch) ≤ 1

/-- Some value of a channel's group is clamped (R37). -/
def groupClamped (b : List Byte) (ch : ChannelId) : Bool :=
  let g := groupBase ch
  groupPresent b ch &&
    (half b (g + 6) < 128 || 511 < half b (g + 6) || 4 < byteAt b (g + 1)
      || (byteAt b g == 1 && (halfSigned b (g + 4) < -256 || 255 < halfSigned b (g + 4))))

/-- A channel's group applied to its channel (R37). -/
def Channel.applyGroup (c : Channel) (b : List Byte) (ch : ChannelId) : Channel :=
  let g := groupBase ch
  if groupPresent b ch then
    { c with mode := if byteAt b g = 1 then .manual else .auto,
             trim := if byteAt b g = 1 then clampInt (-256) 255 (halfSigned b (g + 4)) else c.trim,
             gain := max 128 (min (half b (g + 6)) 511),
             k := min (byteAt b (g + 1)) 4,
             seed := c.seed || bitAt b (g + 2) 0 }
  else c

/-- The setup applied as one step (R37): the channel groups, the curve, the periods, and the timer's reload where the
period in force changes. No sweep runs, so the values are presented as they then stand. -/
def Sense.applySetup (p : PowerState) (b : List Byte) (n : Sense) : Sense :=
  let m :=
    { n with batt := n.batt.applyGroup b .batt, therm := n.therm.applyGroup b .therm,
             amb := n.amb.applyGroup b .amb,
             curve := if bitAt b 32 3 then some (setupCurve b) else n.curve,
             runPeriod := if bitAt b 32 4 then half b 96 else n.runPeriod,
             dozePeriod := if bitAt b 32 4 then half b 98 else n.dozePeriod,
             deepPeriod := if bitAt b 32 4 then half b 100 else n.deepPeriod }
  (if m.period (periodKind p) = n.period (periodKind p) then m
    else { m with timer := some (m.period (periodKind p)) }).present

/-- The detail of an applied setup: Clamped when any value was (R35, R37). -/
def setupDetail (b : List Byte) : Word :=
  warnIf ([ChannelId.batt, .therm, .amb].any (groupClamped b)) warnClamped

end Sys2Proof.Machine
end

