-- ==== Sys2Proof/Machine/PowerOps.lean ====
section
/-!
DEFINITION. The Power Controller's operations (03): the supply class, the change of power state, wakes, the drains and
descents, and with them the resets of the main domain and the entry to DETACHING.
-/

namespace Sys2Proof.Machine

open Sys2Proof

/-! ## The supply class (03, section 3.2) -/

/-- The order of the classes, Normal highest. -/
def SupplyClass.depth : SupplyClass → Nat
  | .normal    => 0
  | .reduced   => 1
  | .critical  => 2
  | .exhausted => 3

/-- The class a reading gives without hysteresis (R41); Normal stands for "no down target" in R42. -/
def downTarget (p : Power) (v : Nat) : SupplyClass :=
  if v < p.eExhausted then .exhausted
  else if v < p.eCritical then .critical
  else if v < p.eReduced then .reduced
  else .normal

/-- Step 2 of R42: the class rises while the reading reaches its leave threshold. -/
def riseFrom (p : Power) (v : Nat) : SupplyClass → SupplyClass
  | .normal    => .normal
  | .reduced   => if p.xReduced ≤ v then .normal else .reduced
  | .critical  =>
    if p.xCritical ≤ v then (if p.xReduced ≤ v then .normal else .reduced) else .critical
  | .exhausted =>
    if p.xExhausted ≤ v then
      (if p.xCritical ≤ v then (if p.xReduced ≤ v then .normal else .reduced) else .critical)
    else .exhausted

/-- The class after a battery event (R41, R42). -/
def classify (p : Power) (v : Nat) : SupplyClass :=
  if !p.seen then downTarget p v
  else if p.cls.depth < (downTarget p v).depth then downTarget p v
  else riseFrom p v p.cls

/-! ## The power state -/

/-- The power state changes; the Sense Front End follows (R24). -/
def setPower (q : PowerState) (s : State) : State :=
  (s.modSense (Sense.changeState s.power.state q)).modPower fun p => { p with state := q }

/-- The three DOZE states (03, section 3.4). -/
def PowerState.isDoze : PowerState → Bool
  | .dozeEntry   => true
  | .dozeQuiet   => true
  | .dozeTurning => true
  | .run         => false
  | .deepEntry   => false
  | .deep        => false
  | .waking      => false

/-- Ask the Working Memory Controller for self-refresh. -/
def askSelfRefresh (s : State) : State := s.modWm WorkMem.askSelfRefresh

/-- Withdraw the request, or have the memory leave self-refresh (R49, R50, R51). -/
def leaveSelfRefresh (s : State) : State := s.modWm WorkMem.leave

/-- A drain condition fails again before self-refresh is entered: the request is withdrawn (R49). -/
def withdrawDrain (s : State) : State :=
  if s.power.drainAsked then leaveSelfRefresh (s.modPower fun p => { p with drainAsked := false }) else s

/-- DOZE_QUIET is reached once self-refresh and the array power-off are both done (R49); from DOZE_ENTRY the doze
inactivity timer and the wake timer start (R49, R55). -/
def reachDozeQuiet (s : State) : State :=
  if s.power.drainAsked && s.wm.state == .selfRefresh && s.store.power == .off then
    setPower .dozeQuiet
      (s.modPower fun p =>
        if p.state = .dozeEntry then
          { p with drainAsked := false, dozeTimer := some p.dozeTimeout,
                   wakeTimer := if p.wakeSetting = 0 then none else some p.wakeSetting }
        else { p with drainAsked := false })
  else s

/-! ## Resets of the main domain (03 R46, R60; 01 R6; 05 R80; 06 R121; 07 R130; 09 R182; 10 R184) -/

/-- A page that nothing of the part's has settled: what an unlisted page of the array is. -/
def ArrayPage.found : ArrayPage := { data := .found, field := .found }

/-- A page after an erase: all-ones throughout (09 R164). -/
def ArrayPage.erased : ArrayPage := { data := .erased, field := .blank }

/-- A page whose contents are undefined, its retirement field with them (09 R176, R177, R182). -/
def ArrayPage.undefined : ArrayPage := { data := .undefined, field := .undefined }

/-- A page of the array as the part has left it (09 R164). -/
def Store.page (st : Store) (p : Nat) : ArrayPage := (sparseGet p st.array).getD .found

/-- The array once the retirement field of a block's page 0 stands as given, the rest of the page as it was (09 R164,
R178). -/
def Store.setField (st : Store) (b : Nat) (f : RetireField) : List (Nat × ArrayPage) :=
  sparsePut (b * 64) { st.page (b * 64) with field := f } st.array

/-- The array once the operation in flight has been abandoned: a program leaves its page undefined, a mark write the
retirement field alone, a read nothing (09 R182). -/
def Store.abandonedOp (st : Store) : List (Nat × ArrayPage) :=
  match st.op with
  | some (.program p _) => sparsePut p .undefined st.array
  | some (.mark b)      => st.setField b .undefined
  | some (.read ..)     => st.array
  | some (.raw ..)      => st.array
  | none                => st.array

/-- Write the same content into every page of a block. -/
def fillBlock (b : Nat) (x : ArrayPage) (m : List (Nat × ArrayPage)) : List (Nat × ArrayPage) :=
  sparseWrite (fun _ y _ => y) (consecutive (b * 64) (List.replicate 64 x)) m

/-- The array after the operation in flight and the erase have been abandoned: their targets are undefined (R182). -/
def Store.abandoned (st : Store) : List (Nat × ArrayPage) :=
  match st.erase with
  | some e => fillBlock e.block .undefined st.abandonedOp
  | none   => st.abandonedOp

/-- Every block of the main domain takes its values after Engine Reset, the Working Memory Controller apart. Records
are dropped unwritten, the port forgets its accesses, and a SENSE_SETUP that waits goes with its record, so that a
sweep it held back starts (02 R23, R35, log entries 13, 20). -/
def resetMain (s : State) : State :=
  { s with link := .reset, bus := .reset, wave := .reset, panel := .resetFrom s.panel.nextId, turn := .reset,
           store := .resetFrom s.power.storeIdle s.store.abandoned, executor := .reset,
           sense := { s.sense with setup := none }.startOwed s.power.state }

/-- The Power Controller's items after Engine Reset, the power state apart (R46). -/
def Power.engineReset (p : Power) : Power :=
  { p with dozeTimer := none, wakeTimer := none, forced := false, remembered := none, resetPending := false,
           drainAsked := false, descentPending := false }

/-- Engine Reset of the main domain (01 R6, 03 R46, 04 R67). -/
def engineReset (s : State) : State :=
  wmInitialise (resetMain (s.modPower Power.engineReset))

/-! ## Wakes (03, section 3.8) -/

/-- A wake is recorded: the reason, cause WAKE and, unless it is ATTACH, HOSTWAKE (R54). -/
def recordWake (r : WakeReason) (s : State) : State :=
  let t := setCause wakeCause (s.modPower fun p => { p with wakeReason := r })
  if r = .attach then t else setHostwake t

/-- A wake from a DOZE state (R50, R53): timers stop, requests are withdrawn, the memory leaves self-refresh, and the
state is WAKING. With ENGINE_RESET the main domain is reset in WAKING, at once unless the memory has first to leave
self-refresh (R53, 04 R67). -/
def wakeFromDoze (r : WakeReason) (s : State) : State :=
  let t := leaveSelfRefresh
    (setPower .waking
      ((recordWake r s).modPower fun p =>
        { p with dozeTimer := none, wakeTimer := none, drainAsked := false, resetPending := r == .engineReset }))
  let u := t.modPanel fun p => { p with flushed := false }
  if r = .engineReset ∧ u.wm.state ≠ .leaving then engineReset u else u

/-- A wake from DEEP that passes the filter (R59, R60): VDD_MAIN is switched on, the main domain comes up as after
Engine Reset, the memory is brought up, and a full sweep is due (R24). -/
def wakeFromDeep (r : WakeReason) (s : State) : State :=
  let t := setPower .waking
    ((recordWake r s).modPower fun p => { p with wakeTimer := none, remembered := none, vddMain := true })
  (wmInitialise (resetMain t)).modSense (Sense.wakeSweep .waking)

/-- A wake event in DEEP: while the class is Exhausted every wake but a charger connection is ignored, and with it any
Attach that waits (R59). -/
def wakeInDeep (r : WakeReason) (s : State) : State :=
  if s.power.cls = .exhausted ∧ r ≠ .charger then
    (s.modPower fun p => { p with remembered := none }).modRegs fun g => { g with attachWaits := false }
  else wakeFromDeep r s

/-- The wakes that touch DEEP_ENTRY and DEEP (R57, R59). -/
def WakeReason.reachesDeep : WakeReason → Bool
  | .power       => true
  | .coverOpen   => true
  | .charger     => true
  | .timer       => true
  | .attach      => true
  | .none        => false
  | .menu        => false
  | .fwd         => false
  | .back        => false
  | .turnEnd     => false
  | .turnError   => false
  | .engineReset => false
  | .panelHalted => false

/-- A wake event in DEEP_ENTRY: the first is remembered, later ones are absorbed (R57). -/
def rememberWake (r : WakeReason) (s : State) : State :=
  if r.reachesDeep then s.modPower fun p => { p with remembered := p.remembered.or (some r) } else s

/-- A wake event, by the power state that it finds (R50, R53, R54, R57, R59). A descent that waits for a decode counts
as DEEP_ENTRY (R63, log entry 24). -/
def wakeEvent (r : WakeReason) (s : State) : State :=
  match s.power.state with
  | .run       => s
  | .waking    => s
  | .deepEntry => rememberWake r s
  | .deep      => if r.reachesDeep then wakeInDeep r s else s
  | .dozeEntry | .dozeQuiet | .dozeTurning =>
    if s.power.descentPending then rememberWake r s
    else if r = .coverOpen then s
    else wakeFromDoze r s

/-! ## DETACHING (01 R5) -/

/-- A lane that is not STOPPED takes the lane state DETACHED; a record it holds is left (R5). -/
def Lane.detach (l : Lane) : Lane :=
  if l.state = .stopped then l else { l with state := .detached, copy := none, nudge := false }

/-- DETACHING is entered (R5): the scan tick stops, the lanes take nothing more, and a HALTED engine's record entries
are flushed (06 R120). -/
def enterDetaching (s : State) : State :=
  let t := s.modLink fun l =>
    { l with state := .detaching, scanOn := false, display := l.display.detach, store := l.store.detach,
             control := l.control.detach }
  if t.panel.engine = .halted then settlePanel (flushRecords t) else t

/-- The Link Engine is asked to enter DETACHING if the link is ATTACHED (R47, R62). -/
def detachIfAttached (s : State) : State := if s.link.state = .attached then enterDetaching s else s

/-! ## DEEP_ENTRY and the descents (03 R57, R62, R63) -/

/-- The flush of a HALTED engine's list in DOZE_ENTRY or DEEP_ENTRY (R64, 06 R120). -/
def flushHalted (s : State) : State :=
  tryOffer (flushList .panelHalted (s.modPanel fun p => { p with flushed := true }))

/-- DEEP_ENTRY is entered (R57): the fade, the hold cut, the key queue emptied, the doze timer stopped. An engine
already HALTED is flushed as R64 flushes it (log entry 22). -/
def enterDeepEntry (s : State) : State :=
  let t := setPower .deepEntry
    (s.modPower fun p => { p with dozeTimer := none, drainAsked := false, descentPending := false })
  let u := applyHoldCut
    ((t.modLight fun l => { l with fade := true }).modTurn fun x => { x with queue := [] })
  if u.panel.engine = .halted then flushHalted u else u

/-- What the forced-descent flag does when it is set (R62): the wake timer and its setting end, the list and a waiting
load complete with LowSupply, and an offer is refused. -/
def forceDescent (s : State) : State :=
  let t := s.modPower fun p => { p with forced := true, wakeSetting := 0, wakeTimer := none }
  tryOffer (endWaitingLoad .lowSupply (flushList .lowSupply t))

/-- A forced descent begins: the flag and what it does to the list, DEEP_ENTRY, and DETACHING (R62). -/
def beginForcedDescent (s : State) : State := detachIfAttached (enterDeepEntry (forceDescent s))

/-- The grace timer starts (R61). -/
def startGrace (s : State) : State :=
  if s.power.graceTimer.isNone && !s.power.forced then
    setCause exhaustedCause (s.modPower fun p => { p with graceTimer := some p.graceTime })
  else s

/-- A decode is in progress (07, section 7.6). -/
def Turn.decoding (t : Turn) : Bool := t.state == .reading || t.state == .checking || t.state == .decoding

/-- The class has become Exhausted: the grace in RUN (R61), the descent elsewhere (R63). In DOZE_TURNING the key queue
is emptied and a decode in progress is waited for. -/
def exhaustedDescent (s : State) : State :=
  match s.power.state with
  | .run       => startGrace s
  | .waking    => s
  | .deep      => s
  | .deepEntry => forceDescent s
  | .dozeEntry => beginForcedDescent s
  | .dozeQuiet => beginForcedDescent s
  | .dozeTurning =>
    let t := s.modTurn fun x => { x with queue := [] }
    if t.turn.decoding then t.modPower fun p => { p with descentPending := true } else beginForcedDescent t

/-- The decode that a descent waited for has finished (R63). -/
def finishDescent (s : State) : State :=
  if s.power.descentPending && !s.turn.decoding then beginForcedDescent s else s

/-- The supply class changes (R43): the cause, the light's cut (08 R155), starts evaluated anew (06 R101), and the
grace or the descent, or the end of a grace (R61). -/
def changeClass (c : SupplyClass) (s : State) : State :=
  let t := setCause supplyCause
    ((s.modPower fun p => { p with cls := c }).modLight (Light.takeClass c))
  let u := if c = .exhausted then exhaustedDescent t
    else t.modPower fun p => { p with graceTimer := none }
  settlePanel u

/-- A battery new-value event (R41 to R43). -/
def batteryEvent (s : State) : State :=
  let c := classify s.power s.sense.shown.battery
  let t := s.modPower fun p => { p with seen := true }
  if c = s.power.cls then t else changeClass c t

/-! ## Rail faults (03 R64) -/

/-- The engine enters HALTED and the Power Controller and the link respond (06 R111, R120; 03 R64). -/
def railFault (s : State) : State :=
  let t := haltEngine s
  let u := match t.power.state with
    | .dozeEntry   => wakeEvent .panelHalted (flushHalted t)
    | .dozeTurning => wakeEvent .panelHalted t
    | .deepEntry   => flushHalted t
    | .run         => t
    | .waking      => t
    | .dozeQuiet   => t
    | .deep        => t
  tryOffer (if u.link.state = .detaching then flushRecords u else u)

end Sys2Proof.Machine
end

