-- ==== Sys2Proof/Machine/LinkOps.lean ====
section
/-!
DEFINITION. The Link Engine's operations (01): the CONTROL commands, Attach, the reading of records and links, and the
release of HELD lanes.
-/

namespace Sys2Proof.Machine

open Sys2Proof

/-! ## CONTROL commands (01 R2) -/

/-- An Attach is carried out (R3): ANCHOR is read now, and the Anchor Block's read is asked for. A link that is
ATTACHED or DETACHING makes no Attach. -/
def startAttach (s : State) : State :=
  let t := s.modRegs fun r => { r with attachWaits := false }
  if t.link.state = .attached ∨ t.link.state = .detaching then t
  else enqueue (.anchorRead t.regs.anchor)
    (t.modLink fun l => { l with state := .detached, attaching := true })

/-- ATTACH is taken: HOSTWAKE is deasserted (R20), a link in FAULT becomes DETACHED (R3), and the Attach waits for RUN
(R2). -/
def attachToWait (s : State) : State :=
  (s.modRegs fun r => { r with hostwake := false, attachWaits := true }).modLink fun l => { l with state := .detached }

/-- The ATTACH command taken (R2, R20, 03 R50, R53, R57, R59): carried out in RUN, otherwise a wake that waits for
RUN, or ignored. -/
def takeAttach (s : State) : State :=
  if s.link.state = .attached ∨ s.link.state = .detaching then s
  else if s.power.state = .deep ∧ s.power.cls = .exhausted then s
  else if s.power.state = .run then startAttach (s.modRegs fun r => { r with hostwake := false })
  else wakeEvent .attach (attachToWait s)

/-- The DETACH command taken (R2, R5): it withdraws an Attach that waits for RUN, and otherwise acts by link state. -/
def takeDetach (s : State) : State :=
  let t := s.modRegs fun r => { r with attachWaits := false }
  match t.link.state with
  | .attached  => enterDetaching t
  | .fault     => t.modLink fun l => { l with state := .detached }
  | .detached  => t
  | .detaching => t

/-- The ENGINE_RESET command taken, by power state (R2, R6, 03 R53). -/
def takeEngineReset (s : State) : State :=
  match s.power.state with
  | .run         => engineReset s
  | .dozeQuiet   => wakeEvent .engineReset s
  | .dozeTurning => wakeEvent .engineReset s
  | .dozeEntry   => s
  | .deepEntry   => s
  | .deep        => s
  | .waking      => s

/-- A CONTROL command is taken. -/
def takeCommand (c : ControlCommand) (s : State) : State :=
  match c with
  | .attach      => takeAttach s
  | .detach      => takeDetach s
  | .engineReset => takeEngineReset s

/-- A CONTROL write that names a command arrives (R2): while an Attach is being carried out, or a write waits, one write
waits and a further one is ignored; otherwise it is taken. -/
def controlWrite (c : ControlCommand) (s : State) : State :=
  if s.link.attaching || s.regs.waiting.isSome then s.modRegs fun r => { r with waiting := r.waiting.or (some c) }
  else takeCommand c s

/-- The bus answers a register write without an error (R202). -/
def writeAnswered (s : State) : State := s.modRegs fun r => { r with slaveError := false }

/-- The bus answers a register write with an error (R202). -/
def writeRefused (s : State) : State := s.modRegs fun r => { r with slaveError := true }

/-! ## The other registers (01 R1, R13, R18, R19) -/

/-- A write to ANCHOR: stored in DETACHED and FAULT (R1), and so while the Anchor Block is being read, the link state
being DETACHED then (R3); the Attach goes on with the block it reads (DESIGN CHOICE, log entry 40). -/
def writeAnchor (v : Word) (s : State) : State :=
  if s.link.state = .detached ∨ s.link.state = .fault then s.modRegs fun r => { r with anchor := v } else s

/-- A write to CAUSE clears the causes its ones name (R18). -/
def clearCauses (v : Word) (s : State) : State :=
  s.modRegs fun r => { r with cause := r.cause &&& ~~~(v.setWidth 13) }

/-- A write to CAUSEMASK replaces the enabled set (R19). -/
def writeCausemask (v : Word) (s : State) : State := s.modRegs fun r => { r with causemask := v.setWidth 13 }

/-- A nudge of one lane (R13). -/
def nudgeLane (i : LaneId) (s : State) : State :=
  match (s.link.lane i).state with
  | .parked   => requestLink i .nudge s
  | .taking   => s.modLane i fun l => { l with nudge := true }
  | .held     => s.modLane i fun l => { l with nudge := true }
  | .detached => s
  | .stopped  => s

/-- The bit of a lane in the NUDGE mask (11, section 11.1). -/
def laneBit : LaneId → Nat
  | .display => 0
  | .store   => 1
  | .control => 2

/-- A lane named by the mask is nudged. -/
def nudgeIf (mask : Word) (i : LaneId) (s : State) : State := if mask.getLsbD (laneBit i) then nudgeLane i s else s

/-- A NUDGE write: ignored unless the link is ATTACHED (R13). -/
def writeNudge (mask : Word) (s : State) : State :=
  if s.link.state = .attached then nudgeIf mask .control (nudgeIf mask .store (nudgeIf mask .display s)) else s

/-- A lane parked at a scan tick reads its link (R13). -/
def tickLane (i : LaneId) (s : State) : State :=
  if (s.link.lane i).state = .parked then requestLink i .tick s else s

/-! ## The Anchor Block (01 R3, R4; 11, section 11.2) -/

/-- The signature of an Anchor Block. -/
def anchorSignature : List Byte := [0x56#8, 0x4A#8, 0x41#8, 0x42#8]

/-- A first-record address is 0 or a multiple of 128. -/
def firstOk (a : Nat) : Bool := a % 128 == 0

/-- The checks of R3 on an Anchor Block read from an address. -/
def anchorOk (addr : Word) (b : List Byte) : Bool :=
  let low := wordNat b 8
  let high := wordNat b 12
  let page := wordNat b 16
  addr.toNat % 64 == 0 && b.take 4 == anchorSignature && half b 4 == 1 && low < high
    && page % 64 == 0 && low ≤ page && page + 256 ≤ high
    && firstOk (wordNat b 20) && firstOk (wordNat b 24) && firstOk (wordNat b 28)

/-- A lane as Attach starts it: TAKING at its first record, or PARKED on the Anchor Block (R4). -/
def Lane.attached (first : Word) : Lane :=
  { Lane.reset with state := if first = 0#32 then .parked else .taking, cursor := first, first := first }

/-- What Attach latches (R4). -/
def latchAnchor (b : List Byte) (s : State) : State :=
  (s.modLink fun l =>
    { l with state := .attached, attaching := false, low := word b 8, high := word b 12, statusAddr := word b 16,
             scanPeriod := byteAt b 6, scanOn := byteAt b 6 != 0,
             display := .attached (word b 20), store := .attached (word b 24), control := .attached (word b 28) }).modBus
    fun x => { x with writeCount := 0#32 }

/-- A lane that starts in TAKING comes to take its first record. -/
def startLane (i : LaneId) (s : State) : State := if (s.link.lane i).state = .taking then takeCursor i s else s

/-- Attach succeeds (R4): the page is written with a write count of 1, and the lanes start. -/
def attachSucceeds (b : List Byte) (s : State) : State :=
  startLane .control (startLane .store (startLane .display (requestPage (latchAnchor b s))))

/-- Attach fails: the link is in FAULT (R3). -/
def attachFails (s : State) : State := s.modLink fun l => { l with state := .fault, attaching := false }

/-! ## Records (01 R7, R9, R10) -/

/-- What the kind check and the buffer check make of a record (R9): its kind, or the result it is refused with. -/
def checkRecord (i : LaneId) (r : RecordCopy) (s : State) : Kind ⊕ ResultCode :=
  match kindOfCode r.kindCode with
  | none   => .inr .unknownKind
  | some k =>
    if k.lane ≠ i then .inr .unknownKind
    else match r.buffer k with
      | some (a, n) => if s.link.inWindow a n then .inl k else .inr .badAddress
      | none        => .inl k

/-- A record read to be taken (R9, R10): refused, or kept for its consumer in TAKING, or in HELD where the consumer
cannot accept it. -/
def takeRecord (i : LaneId) (r : RecordCopy) (s : State) : State :=
  match checkRecord i r s with
  | .inr result => refuseRecord i r result s
  | .inl k =>
    s.modLane i fun l => { l with copy := some r, state := if canAccept k s then .taking else .held }

/-- A bus error on the read of a record (R14 case 2): the lane stops, and BadRecord and Done are written into the
record, whose entry becomes Done when that write ends. Its Notify flag has not been read. -/
def recordReadError (i : LaneId) (addr : Word) (s : State) : State :=
  let r : RecordCopy := { addr := addr, bytes := [] }
  stopLane i addr
    (enqueue (.stateWrite i addr .done)
      (enqueue (.resultWrite i addr .badRecord 0#32 0) (addEntry i (newEntry r none) s)))

/-- The end of a record read: in TAKING it is acted on; a DETACHING link finishes the read and leaves the record, but
a bus error stops the lane (R5). -/
def recordRead (i : LaneId) (addr : Word) (answer : BusRead) (s : State) : State :=
  let l := s.link.lane i
  if l.state = .stopped then s
  else match answer with
    | .busError   => recordReadError i addr s
    | .data bytes => if l.state = .taking then takeRecord i { addr := addr, bytes := bytes } s else s

/-- A HELD lane resumes where its condition has ended (R10). -/
def releaseHeld (i : LaneId) (s : State) : State :=
  let l := s.link.lane i
  if l.state ≠ .held then s
  else match l.copy with
    | none   => if l.table.length < tableCapacity i then takeCursor i s else s
    | some r =>
      match kindOfCode r.kindCode with
      | some k => if canAccept k s then s.modLane i fun l => { l with state := .taking } else s
      | none   => s

/-! ## Links (01 R12, R13, R14) -/

/-- Mark the link of the record at an address followed; it is the newest entry of its table that has the address. -/
def followEntry (addr : Word) (table : List TakenEntry) : List TakenEntry :=
  let marked := table.reverse
  (match marked with
    | []     => []
    | e :: l => (if e.addr = addr then { e with followed := true } else e) :: l).reverse

/-- Another read of a lane's link that waits for the port. -/
def BusAccess.isLinkRead (i : LaneId) : BusAccess → Bool
  | .linkRead j _ _ => i == j
  | _               => false

/-- Such a read asked for by a nudge. -/
def BusAccess.isNudgeRead (i : LaneId) : BusAccess → Bool
  | .linkRead j _ why => i == j && why == .nudge
  | _                 => false

/-- Link reads of a lane that has left PARKED are not made; a nudge among them finds the lane TAKING and sets its flag
(R13). -/
def dropLinkReads (i : LaneId) (s : State) : State :=
  let nudged := s.bus.queue.any (BusAccess.isNudgeRead i)
  let t := s.modBus fun b => { b with queue := b.queue.filter fun a => !a.isLinkRead i }
  t.modLane i fun l => { l with nudge := l.nudge || (nudged && l.state != .detached) }

/-- A link that passes is followed (R12): the entry is marked, the cursor moves, retirement is re-evaluated, and while
the link is ATTACHED the lane comes to take the record. -/
def followLink (i : LaneId) (v : Word) (s : State) : State :=
  let c := (s.link.lane i).cursor
  let t := s.modLane i fun l =>
    { l with table := if c = 0#32 then l.table else followEntry c l.table, cursor := v }
  let u := dropLinkReads i (retire i t)
  if s.link.state = .attached then takeCursor i u else u

/-- A link of 0: the lane is PARKED, and reads the link once more where its nudge flag is set (R12, R13). A DETACHING
link leaves the lane as it is (R5). -/
def parkLane (i : LaneId) (s : State) : State :=
  if s.link.state = .attached then
    let l := s.link.lane i
    let t := s.modLane i fun l => { l with state := .parked, nudge := false }
    if l.nudge then requestLink i .taken t else t
  else s

/-- The end of a link read (R12): a STOPPED lane takes nothing from it; 0 parks, a link that fails stops the lane, a
link that passes is followed. -/
def linkRead (i : LaneId) (v : Word) (s : State) : State :=
  let l := s.link.lane i
  if l.state = .stopped then s
  else if v = 0#32 then parkLane i s
  else if v.toNat % 128 = 0 && s.link.inWindow v.toNat 128 then followLink i v s
  else stopLane i l.cursor s

/-! ## Writes into records (01 R11, R15; 11, section 11.3) -/

/-- The bytes of a result write, offsets 18..27. -/
def resultBytes (result : ResultCode) (detail : Word) (progress : Nat) : List Byte :=
  le16 result.code ++ le32 detail.toNat ++ le32 progress

/-- Writes into the header of one record that wait for the port. -/
def BusAccess.writesRecord (i : LaneId) (addr : Word) : BusAccess → Bool
  | .resultWrite j a _ _ _ => i == j && a == addr
  | .stateWrite j a _      => i == j && a == addr
  | _                      => false

/-- The Done write of a record waits for the port. -/
def BusAccess.isDoneWrite (i : LaneId) (addr : Word) : BusAccess → Bool
  | .stateWrite j a x => i == j && a == addr && x == .done
  | _                 => false

/-- A bus error on a write into a record (R14 case 3, R15): the lane stops, later writes to the record are not
attempted, and a Done that would have been written is treated as Done. -/
def headerWriteError (i : LaneId) (addr : Word) (wasDone : Bool) (s : State) : State :=
  let finishing := wasDone || s.bus.queue.any (BusAccess.isDoneWrite i addr)
  let t := (s.modBus fun b => { b with queue := b.queue.filter fun a => !a.writesRecord i addr }).modLane i fun l =>
    { l with table := updateEntry addr (fun e => { e with unwritable := true }) l.table }
  let u := stopLane i addr t
  if finishing then markDone i addr u else u

/-- A write into a record's header. -/
def BusAccess.isHeaderWrite : BusAccess → Bool
  | .resultWrite .. => true
  | .stateWrite ..  => true
  | _               => false

/-- The end of a write into a record, which has left the port. After a bus error no byte of it stands written: R14 says
so of case 2, and R15 leaves the other writes open (DESIGN CHOICE, log entry 48). -/
def headerWritten (a : BusAccess) (busError : Bool) (s : State) : State :=
  match a with
  | .resultWrite i addr result detail progress =>
    if busError then headerWriteError i addr false s
    else s.modShared (writeShared (addr.toNat + 18) (resultBytes result detail progress))
  | .stateWrite i addr state =>
    if busError then headerWriteError i addr (state == .done) s
    else
      let t := s.modShared (writeShared (addr.toNat + 16) (le16 state.code))
      if state = .done then markDone i addr t else t
  | _ => s

end Sys2Proof.Machine
end

