-- ==== Sys2Proof/Machine/StoreOps.lean ====
section
/-!
DEFINITION. The Store Controller's block table, protection and checks (09, sections 9.3 to 9.5), and the Store Lane
Executor's operations (10): the checks of each kind, its requests and its completions. Requests are placed here; the
arbiter that grants them is in ArrayOps.
-/

namespace Sys2Proof.Machine

open Sys2Proof

/-! ## The block table (09, sections 9.3 and 9.4) -/

/-- A block table entry as it stands after the resets (R169, R182). -/
def BlockEntry.blank : BlockEntry := { fill := .unknown, prot := .locked }

/-- Write one entry, in canonical form: an entry UNKNOWN and LOCKED is not listed. -/
def Store.putBlock (st : Store) (b : Nat) (e : BlockEntry) : Store :=
  { st with blocks := if e = .blank then sparseErase b st.blocks else sparsePut b e st.blocks }

/-- Set the fill state and mark of a block. -/
def Store.setFill (st : Store) (b : Nat) (f : Fill) : Store := st.putBlock b { st.block b with fill := f }

/-- A program or an erase may start: UNLOCKED or PINNED_OPEN (R172). -/
def Protection.writable : Protection → Bool
  | .unlocked   => true
  | .pinnedOpen => true
  | .locked     => false
  | .pinned     => false
  | .pinnedShut => false

/-- The outcome of a protection command on a block (R173). -/
inductive ProtectOutcome where
  | changed (p : Protection)
  | unchanged
  | refused
deriving DecidableEq, Repr

/-- The table of R173. -/
def protect (guard : Bool) (c : ProtectCommand) (p : Protection) : ProtectOutcome :=
  match c, p with
  | .lock, .unlocked     => .changed .locked
  | .lock, .locked       => .unchanged
  | .lock, .pinned       => .unchanged
  | .lock, .pinnedShut   => .unchanged
  | .lock, .pinnedOpen   => .changed .pinnedShut
  | .unlock, .unlocked   => .unchanged
  | .unlock, .locked     => .changed .unlocked
  | .unlock, .pinned     => .refused
  | .unlock, .pinnedShut => .changed .pinnedOpen
  | .unlock, .pinnedOpen => .unchanged
  | .pin, .unlocked      => .changed (if guard then .pinned else .pinnedShut)
  | .pin, .locked        => .changed (if guard then .pinned else .pinnedShut)
  | .pin, .pinned        => .unchanged
  | .pin, .pinnedShut    => .unchanged
  | .pin, .pinnedOpen    => .changed .pinnedShut

/-- A block's protection after a command. -/
def protectBlock (guard : Bool) (c : ProtectCommand) (b : Nat) (st : Store) : Store :=
  match protect guard c (st.block b).prot with
  | .changed p => st.putBlock b { st.block b with prot := p }
  | .unchanged => st
  | .refused   => st

/-- A protection command over a range of blocks, one block after another. -/
def protectRange (guard : Bool) (c : ProtectCommand) (first : Nat) : Nat → Store → Store
  | 0, st     => st
  | n + 1, st => protectBlock guard c (first + n) (protectRange guard c first n st)

/-- The protection of every pinned block after a change of GUARD (R174). -/
def guardProtection (asserted : Bool) (p : Protection) : Protection :=
  match p with
  | .pinned     => if asserted then .pinned else .pinnedShut
  | .pinnedShut => if asserted then .pinned else .pinnedShut
  | .pinnedOpen => if asserted then .pinned else .pinnedOpen
  | .locked     => .locked
  | .unlocked   => .unlocked

/-- GUARD's effect on the whole table (R174). -/
def Store.takeGuard (asserted : Bool) (st : Store) : Store :=
  { st with blocks := sparseMap (fun _ e => { e with prot := guardProtection asserted e.prot }) st.blocks }

/-- The check of a page program when its grant begins, the survey apart (R176). -/
def programCheck (st : Store) (page : Nat) : Option ResultCode :=
  let e := st.block (page / 64)
  if !e.prot.writable then some .protectedBlock
  else match e.fill with
    | .unknown => none
    | .retired => some .retiredBlock
    | .mark m  => if page % 64 = m then none else some .orderViolation

/-- The check of an erase when its grant begins, the raw read apart (R177). -/
def eraseCheck (st : Store) (b : Nat) : Option ResultCode :=
  let e := st.block b
  if !e.prot.writable then some .protectedBlock
  else match e.fill with
    | .retired => some .retiredBlock
    | .unknown => none
    | .mark _  => none

/-! ## The executor (10, section 10.1) -/

/-- The executor asks the port for a buffer access (01 R8; R186). -/
def askBuffer (use : BufferUse) (addr length : Nat) (s : State) : State := enqueue (.buffer use addr length) s

/-- Place the executor's request at the arbiter. -/
def postRequest (r : ExRequest) (s : State) : State := s.modStore fun st => { st with ex := some r }

/-- The executor's record completes and the executor returns to IDLE; the block stays as it stands, and the progress
count is the one reported (R184, R201, log entry 32). -/
def finishExecutor (result : ResultCode) (detail : Word) (progress : Nat) (s : State) : State :=
  (completeRecord .store s.executor.record.addr result detail progress s).modExecutor fun x =>
    { Executor.reset with block := x.block, progress := progress }

/-- The executor accepts a record and enters CHECKING (R184). The block reported is the first the record names, also where
the record is then refused with no block worked on (R201; DESIGN CHOICE, log entry 53). -/
def beginExecutor (k : Kind) (r : RecordCopy) (s : State) : State :=
  s.modExecutor fun _ => { Executor.reset with phase := .checking, kind := some k, record := r, block := half r.bytes 32 }

/-- The start test of R185 refuses the operation. -/
def startRefused (k : Kind) (s : State) : Bool :=
  s.power.forced || s.power.cls == .exhausted
    || ((k == .storeIngest || k == .storeErase) && s.power.cls == .critical)

/-! ### STORE_INGEST (10, section 10.2) -/

/-- First page, byte length, buffer address and expected CRC of an ingest. -/
def ingestFirst (b : List Byte) : Nat := byteAt b 34
def ingestLength (b : List Byte) : Nat := wordNat b 36
def ingestCrc (b : List Byte) : Word := word b 44

/-- The page count P of an ingest. -/
def ingestPages (b : List Byte) : Nat := (ingestLength b + 4095) / 4096

/-- An ingest's fields are in range (R187 step 1). -/
def ingestInRange (b : List Byte) : Bool :=
  half b 32 ≤ 4095 && ingestFirst b ≤ 63 && 1 ≤ ingestLength b && ingestLength b ≤ 262144
    && ingestFirst b + ingestPages b ≤ 64

/-- The buffer address of an ingest. -/
def ingestBuffer (b : List Byte) : Nat := wordNat b 40

/-- The payload bytes of page n. -/
def ingestPageSize (b : List Byte) (n : Nat) : Nat := min 4096 (ingestLength b - n * 4096)

/-- The executor asks for the page of the payload it is at (R189). -/
def askPayloadPage (s : State) : State :=
  let b := s.executor.record.bytes
  let n := s.executor.page
  askBuffer .payloadPage (ingestBuffer b + n * 4096) (ingestPageSize b n) s

/-- R187 steps 5 and 6, the block's pages being known: the ingest is refused, or enters VERIFYING and asks for the
payload (R188). -/
def ingestKnown (s : State) : State :=
  let b := s.executor.record.bytes
  match (s.store.block (half b 32)).fill with
  | .retired => finishExecutor .retiredBlock 0#32 0 s
  | .mark m  =>
    if ingestFirst b = m then
      askBuffer .payload (ingestBuffer b) (ingestLength b) (s.modExecutor fun x => { x with phase := .verifying })
    else finishExecutor .orderViolation 0#32 m s
  | .unknown => finishExecutor .readError 0#32 0 s

/-- The checks of R187 in order, up to the survey. -/
def ingestChecks (s : State) : State :=
  let b := s.executor.record.bytes
  let e := s.store.block (half b 32)
  if !ingestInRange b then finishExecutor .range 0#32 0 s
  else if startRefused .storeIngest s then finishExecutor .lowSupply 0#32 0 s
  else if !e.prot.writable then finishExecutor .protectedBlock 0#32 0 s
  else if e.fill = .unknown then postRequest (.raw (half b 32 * 64) .ingest) s
  else ingestKnown s

/-- The first pass has ended: the CRC decides (R188). -/
def ingestVerified (payload : List Byte) (s : State) : State :=
  let b := s.executor.record.bytes
  if crc32 (sized (ingestLength b) payload) = ingestCrc b then
    askPayloadPage
      (s.modExecutor fun x => { x with phase := .programming, page := 0, progress := 0, crc := crcInit, buf := [] })
  else finishExecutor .checksumMismatch 0#32 0 s

/-- A page's payload is in the page buffer, padded with 0xFF; the running CRC takes the payload alone; on the last page
the record is written Running; the program is requested (R189). -/
def ingestPageRead (payload : List Byte) (s : State) : State :=
  let b := s.executor.record.bytes
  let n := s.executor.page
  let bytes := sized (ingestPageSize b n) payload
  let page := bytes ++ List.replicate (4096 - bytes.length) 0xFF#8
  let t := s.modExecutor fun x => { x with buf := page, crc := crcUpdate x.crc bytes }
  let u := if n + 1 = ingestPages b then markRunning .store s.executor.record.addr t else t
  postRequest (.program (half b 32 * 64 + ingestFirst b + n) page) u

/-- A page has been programmed: the next page, or the comparison of the second pass (R189, R190). -/
def ingestPageDone (s : State) : State :=
  let b := s.executor.record.bytes
  let t := s.modExecutor fun x => { x with page := x.page + 1, progress := x.progress + 1, buf := [] }
  if t.executor.page < ingestPages b then askPayloadPage t
  else finishExecutor (if crcResult t.executor.crc = ingestCrc b then .ok else .checksumMismatch) 0#32
    t.executor.progress t

/-! ### STORE_READ (10, section 10.4) -/

/-- A read's fields are in range (R193). -/
def readInRange (b : List Byte) : Bool :=
  half b 32 ≤ 4095 && byteAt b 34 ≤ 63 && 1 ≤ byteAt b 35 && byteAt b 35 ≤ 64 && byteAt b 34 + byteAt b 35 ≤ 64

/-- Request the page the read is at (R193). -/
def requestReadPage (s : State) : State :=
  let b := s.executor.record.bytes
  postRequest (.read (half b 32 * 64 + byteAt b 34 + s.executor.page)) s

/-- The checks of R193, and the first page. -/
def readChecks (s : State) : State :=
  let b := s.executor.record.bytes
  if !readInRange b then finishExecutor .range 0#32 0 s
  else if startRefused .storeRead s then finishExecutor .lowSupply 0#32 0 s
  else requestReadPage (s.modExecutor fun x => { x with phase := .reading, page := 0 })

/-- Where the page a read is at goes (R193). -/
def readDestination (x : Executor) : Nat := wordNat x.record.bytes 36 + x.page * 4096

/-- A page of a STORE_READ has been read: its data wait to be written, and an erased page adds the warning (R194). -/
def readPageDone (data : List Byte) (erased : Bool) (s : State) : State :=
  askBuffer .destination (readDestination s.executor) 4096
    (s.modExecutor fun x => { x with buf := data, detail := x.detail ||| warnIf erased warnErased })

/-- A page has been written to the destination: the next page, or OK (R193). -/
def readPageWritten (s : State) : State :=
  let b := s.executor.record.bytes
  let t := (s.modShared (writeShared (readDestination s.executor) s.executor.buf)).modExecutor fun x =>
    { x with page := x.page + 1, progress := x.progress + 1, buf := [] }
  if t.executor.page < byteAt b 35 then requestReadPage t
  else finishExecutor .ok t.executor.detail t.executor.progress t

/-! ### STORE_ERASE (10, section 10.5) -/

/-- The blocks an entry of the turn-ahead list touches (07 R130). -/
def TurnEntry.touches (e : TurnEntry) (b : Nat) : Bool :=
  e.block * 64 + e.first < (b + 1) * 64 && b * 64 < e.block * 64 + e.first + e.count

/-- A block is named by the turn-ahead list in force (07 R130, 10 R196). -/
def Turn.names (t : Turn) (b : Nat) : Bool := t.entries.any (·.touches b)

/-- The four checks at a block's start, and the request (R195). -/
def startBlock (b : Nat) (s : State) : State :=
  let t := s.modExecutor fun x => { x with phase := .erasing, block := b, recheck := false }
  let n := t.executor.progress
  if 4095 < b then finishExecutor .range 0#32 n t
  else if startRefused .storeErase t then finishExecutor .lowSupply 0#32 n t
  else if !(t.store.block b).prot.writable then finishExecutor .protectedBlock 0#32 n t
  else if t.turn.names b then finishExecutor .conflict 0#32 n t
  else postRequest (.erase b false) t

/-- The check of the count, and the first block (R195). -/
def eraseChecks (s : State) : State :=
  let b := s.executor.record.bytes
  if 1 ≤ half b 34 && half b 34 ≤ 64 then startBlock (half b 32) s else finishExecutor .range 0#32 0 s

/-- A block has been erased: the next block's start, or OK (R197). -/
def blockErased (s : State) : State :=
  let b := s.executor.record.bytes
  let t := s.modExecutor fun x => { x with progress := x.progress + 1 }
  if t.executor.progress < half b 34 then startBlock (half b 32 + t.executor.progress) t
  else finishExecutor .ok 0#32 t.executor.progress t

/-- The turn-ahead list has been replaced: a waiting erase request is withdrawn and its block checked again; an erase
whose mark check is being read is checked again after it (R196, log entry 27). -/
def recheckErase (s : State) : State :=
  match s.store.ex, s.store.op with
  | some (.erase b _), _   => startBlock b (s.modStore fun st => { st with ex := none })
  | _, some (.raw _ .erase _) => s.modExecutor fun x => { x with recheck := true }
  | _, _                   => s

/-! ### Retiring a block (10 R192) -/

/-- A program or erase has failed: the executor enters RETIRING and requests the mark write (R191, R192, R197). -/
def beginRetiring (b : Nat) (s : State) : State :=
  postRequest (.mark b) (s.modExecutor fun x => { x with phase := .retiring, block := b })

/-- The mark write has ended: STORE_WORN is set and the record completes with the result of the failure (R192). -/
def retiringDone (s : State) : State :=
  finishExecutor (if s.executor.kind = some .storeIngest then .programFail else .eraseFail) 0#32 s.executor.progress
    (setCause storeWornCause s)

/-! ### STORE_PROTECT (10, section 10.6) -/

/-- The command a code names (11, section 11.4). -/
def protectOfCode : Nat → Option ProtectCommand
  | 0 => some .lock
  | 1 => some .unlock
  | 2 => some .pin
  | _ => none

/-- A first block and a count name blocks of the array (R198, R199). -/
def rangeOk (first count : Nat) : Bool := first ≤ 4095 && 1 ≤ count && count ≤ 4096 && first + count ≤ 4096

/-- The numbers of the blocks of a range whose outcome satisfies a test. -/
def countOutcomes (p : ProtectOutcome → Bool) (guard : Bool) (c : ProtectCommand) (first count : Nat) (st : Store) :
    Nat :=
  ((List.range count).filter fun i => p (protect guard c (st.block (first + i)).prot)).length

/-- The outcome is a change. -/
def ProtectOutcome.isChanged : ProtectOutcome → Bool
  | .changed _ => true
  | .unchanged => false
  | .refused   => false

/-- The checks of R198 and the command over the range as one step. -/
def protectChecks (s : State) : State :=
  let b := s.executor.record.bytes
  let first := half b 34
  let count := half b 36
  match protectOfCode (byteAt b 32) with
  | none => finishExecutor .range 0#32 0 s
  | some c =>
    if !rangeOk first count then finishExecutor .range 0#32 0 s
    else if startRefused .storeProtect s then finishExecutor .lowSupply 0#32 0 s
    else
      let g := s.pins.guard
      let changed := countOutcomes ProtectOutcome.isChanged g c first count s.store
      let refused := countOutcomes (· == .refused) g c first count s.store
      let t := s.modStore (protectRange g c first count)
      finishExecutor (if refused = 0 then .ok else .protectedBlock) 0#32 changed t

/-! ### STORE_SURVEY (10, section 10.7) -/

/-- The report bytes of a range, as they stand (R200; 11, section 11.9). -/
def surveyReport (first count : Nat) (st : Store) : List Byte :=
  (List.range count).map fun i => (st.block (first + i)).reportByte

/-- The next UNKNOWN block of the range, at or above a place in it. -/
def nextUnknown (first count : Nat) (place : Nat) (st : Store) : Option Nat :=
  ((List.range count).drop place).find? fun i => (st.block (first + i)).fill == .unknown

/-- Go on with the survey from a place in the range: survey the next UNKNOWN block, or take the snapshot and enter
REPORTING (R199, R200). In REPORTING the block reported stays the last one surveyed, or the range's first (R201; DESIGN
CHOICE, log entry 53). -/
def surveyFrom (place : Nat) (s : State) : State :=
  let b := s.executor.record.bytes
  match nextUnknown (half b 32) (half b 34) place s.store with
  | some i =>
    postRequest (.raw ((half b 32 + i) * 64) .storeSurvey)
      (s.modExecutor fun x => { x with phase := .surveying, page := i, block := half b 32 + i })
  | none =>
    askBuffer .report (wordNat b 36) (half b 34)
      (s.modExecutor fun x => { x with phase := .reporting, buf := surveyReport (half b 32) (half b 34) s.store })

/-- The checks of R199. -/
def surveyChecks (s : State) : State :=
  let b := s.executor.record.bytes
  if !rangeOk (half b 32) (half b 34) then finishExecutor .range 0#32 0 s
  else if startRefused .storeSurvey s then finishExecutor .lowSupply 0#32 0 s
  else surveyFrom 0 s

/-- A survey of the range has ended (R199). -/
def surveyDone (ok : Bool) (s : State) : State :=
  surveyFrom (s.executor.page + 1)
    (s.modExecutor fun x =>
      if ok then { x with progress := x.progress + 1 } else { x with failed := true })

/-- The report has been written (R200). -/
def reportDone (s : State) : State :=
  let b := s.executor.record.bytes
  let t := s.modShared (writeShared (wordNat b 36) s.executor.buf)
  finishExecutor (if t.executor.failed then .readError else .ok) 0#32 t.executor.progress t

end Sys2Proof.Machine
end

