-- ==== Sys2Proof/Machine/ArrayOps.lean ====
section
/-!
DEFINITION. The Store Controller's arbiter, power and array operations (09, sections 9.2, 9.5 and 9.6), with what each
operation's end does at its client (05 R86, 07 R137, 10 R189 to R199).
-/

namespace Sys2Proof.Machine

open Sys2Proof

/-! ## Grants (R176, R177, R179) -/

/-- The Store Controller refuses the executor's program or erase: the executor's record completes, with the pages
programmed or the blocks erased before as progress (R176, R177, 10 R191, R195). The request's arrival has stopped the
idle timer (R167). -/
def refuseGrant (result : ResultCode) (s : State) : State :=
  finishExecutor result 0#32 s.executor.progress (s.modStore fun st => { st with ex := none, idle := none })

/-- An array operation starts: it is in flight and the idle timer stops. -/
def Store.launch (st : Store) (o : ArrayOp) : Store := { st with op := some o, idle := none }

/-- The executor's request is granted (R176, R177, R179). -/
def grantExecutor (r : ExRequest) (s : State) : State :=
  match r with
  | .read p      => s.modStore fun st => { st with ex := none }.launch (.read .executor p false)
  | .raw p why   => s.modStore fun st => { st with ex := none }.launch (.raw p why false)
  | .mark b      => s.modStore fun st => { st with ex := none }.launch (.mark b)
  | .program p d =>
    match programCheck s.store p with
    | some result => refuseGrant result s
    | none =>
      if (s.store.block (p / 64)).fill = .unknown then
        s.modStore fun st => { st with ex := none }.launch (.raw (p / 64 * 64) (.program p d) false)
      else s.modStore fun st => { st with ex := none }.launch (.program p d)
  | .erase b checked =>
    match eraseCheck s.store b with
    | some result => refuseGrant result s
    | none =>
      if (s.store.block b).fill = .unknown && !checked then
        s.modStore fun st => { st with ex := none }.launch (.raw (b * 64) .erase false)
      else s.modStore fun st =>
        { st with ex := none, idle := none, erase := some { block := b, phase := .running, count := 0 } }

/-- The Turn-Ahead reader's request is granted, and it asks for its next page at once (R179, log entry 28). -/
def grantTurn (p : Nat) (s : State) : State :=
  let t := s.modStore fun st => { st with ta := none }.launch (.read .turnAhead p false)
  if t.turn.state = .reading ∧ t.turn.nextPage < t.turn.extentCount then
    (t.modStore fun st => { st with ta := some (t.turn.extentFirst + t.turn.nextPage) }).modTurn fun x =>
      { x with nextPage := x.nextPage + 1 }
  else t

/-- The Waveform Loader's request is granted (R179). -/
def grantWave (p : Nat) (s : State) : State :=
  s.modStore fun st => { st with wf := none }.launch (.read .waveform p false)

/-- Some request waits at the arbiter. -/
def Store.waiting (st : Store) : Bool := st.ta.isSome || st.wf.isSome || st.ex.isSome

/-- The arbiter at an ON array with no operation in flight and no erase (R167, R179): the Turn-Ahead reader first, then
the Waveform Loader, then the executor; with nothing waiting the idle timer starts. -/
def chooseOperation (s : State) : State :=
  match s.store.ta, s.store.wf, s.store.ex with
  | some p, _, _       => grantTurn p s
  | none, some p, _    => grantWave p s
  | none, none, some r => grantExecutor r s
  | none, none, none   => s.modStore fun st => { st with idle := st.idle.or (some st.idleTime) }

/-- The arbiter while an erase is in progress and no operation is in flight (R180, R181): a RUNNING erase under the cap
is suspended for an internal read, a SUSPENDED one lets them be served and is resumed when none waits. -/
def chooseDuringErase (e : Erase) (s : State) : State :=
  match e.phase, s.store.ta, s.store.wf with
  | .running, none, none     => s
  | .running, _, _           =>
    if e.count < Config.suspensionCap then
      s.modStore fun st => { st with erase := some { e with phase := .suspending } }
    else s
  | .suspending, _, _        => s
  | .suspended, some p, _    => grantTurn p s
  | .suspended, none, some p => grantWave p s
  | .suspended, none, none   => s.modStore fun st => { st with erase := some { e with phase := .running } }

/-- The arbiter takes up what waits: power-up for the first request at an OFF array, a choice at an ON one (R167,
R179, R180). -/
def serveOnce (s : State) : State :=
  match s.store.power with
  | .poweringUp => s
  | .off        =>
    if s.store.waiting then
      withdrawDrain (s.modStore fun st => { st with power := .poweringUp, idle := none })
    else s
  | .on         =>
    if s.store.op.isSome then s
    else match s.store.erase with
      | some e => chooseDuringErase e s
      | none   => chooseOperation s

/-- The arbiter at the end of a step: after a refusal it looks once more. -/
def serveStore (s : State) : State := serveOnce (serveOnce s)

/-- The array is powered off at once (R168). -/
def powerOffArray (s : State) : State := s.modStore fun st => { st with power := .off, idle := none }

/-- The operation in flight has ended. -/
def endOp (s : State) : State := s.modStore fun st => { st with op := none }

/-! ## Page reads (R175) -/

/-- How a page read's attempt is classified (R175): `sound` is the match of the page CRC. -/
inductive ReadClass where
  | erased | sound | mismatch
deriving DecidableEq, Repr

/-- A page reads as erased: every data byte and the whole spare area all-ones (R164). -/
def pageErased (p : RawPage) : Bool := p.spareOnes && p.data.all (· == 0xFF#8)

/-- The classification of R175. -/
def classifyPage (p : RawPage) : ReadClass :=
  if pageErased p then .erased else if crc32 p.data = p.pageCrc then .sound else .mismatch

/-- A page read's outcome reaches its client: the data with the Erased indication, or none for ReadError (05 R86, 07
R137, 10 R194). -/
def deliverRead (c : ArrayClient) (data : Option (List Byte)) (erased : Bool) (s : State) : State :=
  match c, data with
  | .turnAhead, some d =>
    wmRequest .storeReader (s.modTurn fun t => { t with arrived := t.arrived ++ [some d] })
  | .turnAhead, none   =>
    (s.modTurn fun t => { t with arrived := t.arrived ++ [none] }).modStore fun st => { st with ta := none }
  | .waveform, some d  =>
    wmRequest .waveformLoader
      (s.modWave fun v =>
        { v with load := v.load.map fun l => { l with page := some d, detail := l.detail ||| warnIf erased warnErased } })
  | .waveform, none    => endLoad .readError s
  | .executor, some d  => readPageDone d erased s
  | .executor, none    => finishExecutor .readError s.executor.detail s.executor.progress s

/-- A page read ends with its outcome, and the arbiter chooses again. -/
def finishRead (c : ArrayClient) (data : Option (List Byte)) (erased : Bool) (s : State) : State :=
  serveStore (deliverRead c data erased (endOp s))

/-- An attempt of a page read mismatches, or its busy limit expires: the retry within the same grant, or ReadError
(R175). -/
def readMismatch (c : ArrayClient) (p : Nat) (second : Bool) (s : State) : State :=
  if second then finishRead c none false s
  else s.modStore fun st => { st with op := some (.read c p true) }

/-! ## Surveys and mark checks (R170, R177) -/

/-- The mark check of an erase has found no mark: the erase is requested again, or checked again where the turn-ahead
list was replaced meanwhile (R177, 10 R196, log entry 27). -/
def markCheckPassed (s : State) : State :=
  if s.executor.recheck then startBlock s.executor.block s else postRequest (.erase s.executor.block true) s

/-- A survey has settled its block: the fill is entered and the requester goes on (R170, R176, R177, 10 R187, R199). A
mark check settles a block when it finds the mark, and the erase is refused with Retired. -/
def surveySettled (why : RawWhy) (s : State) : State :=
  match why with
  | .ingest      => ingestKnown s
  | .storeSurvey => surveyDone true s
  | .program p d => postRequest (.program p d) s
  | .erase       => refuseGrant .retiredBlock s

/-- A raw read's busy limit has expired twice: the survey or the mark check has failed (R170, R176, R177). -/
def surveyFailed (why : RawWhy) (s : State) : State :=
  match why with
  | .ingest      => finishExecutor .readError 0#32 0 s
  | .storeSurvey => surveyDone false s
  | .program _ _ => finishExecutor .readError 0#32 s.executor.progress s
  | .erase       => finishExecutor .readError 0#32 s.executor.progress s

/-- The fill of a block is entered, and the survey is settled. -/
def settleFill (b : Nat) (f : Fill) (why : RawWhy) (s : State) : State :=
  surveySettled why (s.modStore fun st => st.setFill b f)

/-- A raw read has returned page p: the survey settles the block or reads the next page; a mark check reads page 0
alone (R170, R177). -/
def surveyPage (p : Nat) (why : RawWhy) (page : RawPage) (s : State) : State :=
  if p % 64 = 0 && page.retired then settleFill (p / 64) .retired why s
  else if why = .erase then markCheckPassed s
  else if pageErased page then settleFill (p / 64) (.mark (p % 64)) why s
  else if p % 64 = 63 then settleFill (p / 64) (.mark 64) why s
  else postRequest (.raw (p + 1) why) s

/-! ## Programs, erases and mark writes (R176 to R178) -/

/-- A page program has succeeded: the page holds the data, its retirement field stays as it was, and the fill mark
rises by 1 (R164, R171, R176). -/
def programSucceeded (p : Nat) (data : List Byte) (s : State) : State :=
  ingestPageDone
    (s.modStore fun st =>
      { st.setFill (p / 64) (.mark (p % 64 + 1)) with
          array := sparsePut p { st.page p with data := .written data (crc32 data) } st.array })

/-- A page program has failed: the page is undefined and the executor retires the block (R176, 10 R191). -/
def programFailed (p : Nat) (s : State) : State :=
  beginRetiring (p / 64) (s.modStore fun st => { st with array := sparsePut p .undefined st.array })

/-- An erase has succeeded: the block is ERASED with fill mark 0 (R171, R177). -/
def eraseSucceeded (b : Nat) (s : State) : State :=
  blockErased (s.modStore fun st =>
    { st.setFill b (.mark 0) with erase := none, array := fillBlock b .erased st.array })

/-- An erase has failed: the block's pages are undefined, its entry is kept, and the executor retires it (R177, 10
R197). -/
def eraseFailed (b : Nat) (s : State) : State :=
  beginRetiring b (s.modStore fun st => { st with erase := none, array := fillBlock b .undefined st.array })

/-- A mark write has ended: the entry is RETIRED, whatever the outcome, and page 0's retirement field holds the mark, or
after a failure is undefined (R164, R178, 10 R192). -/
def markEnded (b : Nat) (success : Bool) (s : State) : State :=
  retiringDone (s.modStore fun st =>
    { st.setFill b .retired with array := st.setField b (if success then .marked else .undefined) })

end Sys2Proof.Machine
end

