-- ==== Sys2Proof/Machine/TurnOps.lean ====
section
/-!
DEFINITION. The Turn-Ahead Unit's operations (07): the head press and a turn's start, a turn's failure, the check of a
stored page image and its decoding, TURN_LOAD and TURN_ARM.
-/

namespace Sys2Proof.Machine

open Sys2Proof

/-! ## The head press (R134 to R136) -/

/-- The target a press names, where it lies inside the list (R134). -/
def Turn.targetOf (t : Turn) : TurnKey → Option Nat
  | .fwd  => if t.cursor + 1 < t.entries.length then some (t.cursor + 1) else none
  | .back => if 0 < t.cursor then some (t.cursor - 1) else none

/-- The press at the head ends the queue: every press is discarded, the cause is set, and the Power Controller takes it
as a wake in the DOZE states (R134, R135, R141). -/
def discardPresses (c : Cause) (r : WakeReason) (s : State) : State :=
  wakeEvent r (setCause c (s.modTurn fun t => { t with queue := [] }))

/-- The staging frame a turn takes: A if it is FREE, otherwise B if it is FREE (R136). -/
def Turn.takeFrame (t : Turn) : Option Frame :=
  if t.frameA = .free then some .a else if t.frameB = .free then some .b else none

/-- A turn starts (R136): the press leaves the queue, the frame is FILLING, the target is latched, and the first page
is requested (R137). -/
def startTurn (key : TurnKey) (target : Nat) (e : TurnEntry) (f : Frame) (s : State) : State :=
  let t := s.modTurn fun x =>
    { x.setFrame f .filling with
        queue := x.queue.tail, target := target, extentFirst := e.block * 64 + e.first, extentCount := e.count,
        mode := e.mode, key := key, frame := f, state := .reading, nextPage := 1, written := 0, arrived := [] }
  serveStore (t.modStore fun st => { st with ta := some (e.block * 64 + e.first) })

/-- The press at the head of the key queue is considered (R134 to R136). -/
def considerHead (s : State) : State :=
  let t := s.turn
  if t.state = .idle ∧ t.load = none ∧ t.arm = none then
    match t.queue with
    | []       => s
    | key :: _ =>
      match t.targetOf key with
      | none        => discardPresses turnEndCause .turnEnd s
      | some target =>
        match t.entries[target]? with
        | none   => discardPresses turnEndCause .turnEnd s
        | some e =>
          if e.bad || !modeInForce e.mode s then discardPresses turnErrorCause .turnError s
          else match t.takeFrame with
            | none   => s
            | some f => startTurn key target e f s
  else s

/-- A FWD or BACK press is offered to the key queue (R129); a press that joins withdraws a drain (03 R49) and takes
DOZE_QUIET to DOZE_TURNING (03 R51). A press found while a descent waits for a decode is discarded (03 R63). -/
def joinQueue (k : TurnKey) (s : State) : State :=
  if s.power.descentPending || Config.keyQueueCapacity ≤ s.turn.queue.length then s
  else
    let t := withdrawDrain (s.modTurn fun x => { x with queue := x.queue ++ [k] })
    if t.power.state = .dozeQuiet then setPower .dozeTurning (leaveSelfRefresh t) else t

/-- What follows a change of the list, the slots, the queue or the turn: a descent that waited for the decode (03 R63),
starts, a waiting offer, and the head press (06 R101, 07 R134, R140). The descent comes first, so that the update whose
decode it waited for is refused and never joins; 07 R143 leaves refused or removed open (DESIGN CHOICE, log entry 24). -/
def settleAll (s : State) : State := considerHead (settlePanel (finishDescent s))

/-! ## A turn's end (R141) -/

/-- Mark an entry of the list Bad. -/
def markBad : Nat → List TurnEntry → List TurnEntry
  | _, []         => []
  | 0, e :: l     => { e with bad := true } :: l
  | n + 1, e :: l => e :: markBad n l

/-- A turn fails (R141): the Bad mark, the frame FREE, the queue discarded, TURN_ERROR, IDLE. -/
def failTurn (s : State) : State :=
  let t := s.modTurn fun x =>
    { x.setFrame x.frame .free with entries := markBad x.target x.entries, state := .idle, arrived := [] }
  discardPresses turnErrorCause .turnError (t.modStore fun st => { st with ta := none })

/-! ## The stored page image (R138, R139; 11, section 11.8) -/

/-- The signature of a page image. -/
def imageSignature : List Byte := [0x56#8, 0x4A#8, 0x50#8, 0x49#8]

/-- The data length of an image. -/
def imageLength (d : List Byte) : Nat := wordNat d 8

/-- The code bytes of an image. -/
def imageCode (d : List Byte) : List Byte := (d.drop 32).take (imageLength d)

/-- The header and the CRC pass (R138), for an extent of `pages` pages. -/
def imageOk (d : List Byte) (pages : Nat) : Bool :=
  d.take 4 == imageSignature && half d 4 == 1600 && half d 6 == 1200
    && 1 ≤ imageLength d && 32 + imageLength d ≤ pages * 4096
    && crc32 (imageCode d) == word d 12

/-- The whole runs of a list of code bytes: levels and lengths (07, section 7.6.1). -/
def decodeRuns : List Byte → List (BitVec 4 × Nat)
  | []        => []
  | c :: rest =>
    if c.toNat % 16 = 15 then
      match rest with
      | []        => []
      | n :: more => (BitVec.ofNat 4 (c.toNat / 16), 16 + n.toNat) :: decodeRuns more
    else (BitVec.ofNat 4 (c.toNat / 16), c.toNat % 16 + 1) :: decodeRuns rest

/-- The code bytes end with a whole run: the last byte does not lack its extension (R139). -/
def endsWhole : List Byte → Bool
  | []        => true
  | c :: rest =>
    if c.toNat % 16 = 15 then
      match rest with
      | []        => false
      | _ :: more => endsWhole more
    else endsWhole rest

/-- The pixels a list of runs covers. -/
def runsLength : List (BitVec 4 × Nat) → Nat
  | []     => 0
  | r :: l => r.2 + runsLength l

/-- The levels a list of runs gives, in panel order. -/
def runsLevels : List (BitVec 4 × Nat) → List (BitVec 4)
  | []     => []
  | r :: l => List.replicate r.2 r.1 ++ runsLevels l

/-- The runs that are written: those before a run that would carry the count past the limit (R139). -/
def runsWithin : Nat → List (BitVec 4 × Nat) → List (BitVec 4 × Nat)
  | _, []         => []
  | room, r :: l  => if r.2 ≤ room then r :: runsWithin (room - r.2) l else []

/-- The decoding of code bytes into a frame of `pixels` pixels succeeds: the bytes are exhausted, every run whole, with
exactly that many pixels written (R139). -/
def decodeOk (pixels : Nat) (code : List Byte) : Bool :=
  endsWhole code && runsLength (decodeRuns code) == pixels

/-- The levels a decode writes (R139). -/
def decodeLevels (pixels : Nat) (code : List Byte) : List (BitVec 4) :=
  runsLevels (runsWithin pixels (decodeRuns code))

/-- The Decoder writes its staging frame (R139). -/
def writeDecoded (s : State) : State :=
  s.modWm fun w => w.writeFrame s.turn.frame (decodeLevels Config.panelPixels (imageCode w.decode))

/-- The update being offered is full: decided once, when the offer is first made (R140). -/
def Turn.isFull (t : Turn) : Bool := 0 < t.interval && (t.owed || t.counter + 1 == t.interval)

/-- A decode has succeeded: the frame is complete and the update is offered (R139, R140). -/
def beginOffer (s : State) : State :=
  s.modTurn fun t => { t with state := .offering, offerFull := t.isFull }

/-! ## TURN_LOAD and TURN_ARM (R131 to R133; 11, section 11.4) -/

/-- A TURN_LOAD's body passes the checks of R131. -/
def turnBodyOk (b : List Byte) : Bool :=
  byteAt b 36 ≤ 24 && byteAt b 39 ≤ 15 && byteAt b 38 ≤ 1
    && (if byteAt b 36 = 0 then byteAt b 37 == 0 else byteAt b 37 < byteAt b 36)

/-- The entry at a place of the array as it is checked (R132): the entry, or the result that refuses it. -/
def turnEntryAt (a : List Byte) (i : Nat) : TurnEntry ⊕ ResultCode :=
  let block := half a (8 * i)
  let first := byteAt a (8 * i + 2)
  let count := byteAt a (8 * i + 3)
  if 4095 < block || 63 < first || count < 1 || 64 < count then .inr .range
  else if 262144 < block * 64 + first + count then .inr .range
  else match modeOfCode (byteAt a (8 * i + 4)) with
    | some .gray16 => .inl { block := block, first := first, count := count, mode := .gray16, bad := false }
    | some .gray4  => .inl { block := block, first := first, count := count, mode := .gray4, bad := false }
    | some .mono   => .inl { block := block, first := first, count := count, mode := .mono, bad := false }
    | some .clear  => .inr .badMode
    | none         => .inr .badMode

/-- The entries of an array from a place on, `n` of them: all, or the first failing place and its result (R132). -/
def turnEntries (a : List Byte) : Nat → Nat → List TurnEntry ⊕ (Nat × ResultCode)
  | _, 0     => .inl []
  | i, n + 1 =>
    match turnEntryAt a i with
    | .inr result => .inr (i, result)
    | .inl e =>
      match turnEntries a (i + 1) n with
      | .inl l => .inl (e :: l)
      | .inr f => .inr f

/-- A turn in OFFERING is abandoned: its offer is withdrawn and its frame becomes FREE (R132). -/
def Turn.withdrawOffer (t : Turn) : Turn :=
  if t.state = .offering then { t.setFrame t.frame .free with state := .idle } else t

/-- The list is replaced as one step (R132), and a waiting erase is checked again (10 R196). -/
def replaceList (b : List Byte) (entries : List TurnEntry) (s : State) : State :=
  serveStore (recheckErase (s.modTurn fun t =>
    { t.withdrawOffer with
        entries := entries, cursor := byteAt b 37, armed := byteAt b 38 == 1, interval := byteAt b 39, counter := 0,
        owed := false, queue := [] }))

/-- A TURN_LOAD ends: its record completes, and turns start again from the queue (R131). -/
def endTurnLoad (result : ResultCode) (progress : Nat) (s : State) : State :=
  match s.turn.load with
  | none   => s
  | some l =>
    considerHead
      (completeRecord .control l.record.addr result 0#32 progress (s.modTurn fun t => { t with load := none }))

/-- The entry array has been read: the entries are checked, and the list is replaced or the record refused (R132). -/
def takeEntries (l : TurnLoad) (a : List Byte) (s : State) : State :=
  let b := l.record.bytes
  match turnEntries a 0 (byteAt b 36) with
  | .inl entries       => endTurnLoad .ok (byteAt b 36) (replaceList b entries s)
  | .inr (i, result)   => endTurnLoad result i s

end Sys2Proof.Machine
end

