-- ==== Sys2Proof/Machine/ResetOps.lean ====
section
/-!
DEFINITION. Full Reset (01 R1, R6, R20; 02 R38; 03 R46; 04 R67; 07 R125; 08 R148; 09 R182), and the step at which a
sweep ends.
-/

namespace Sys2Proof.Machine

open Sys2Proof

/-- The Key Unit after Full Reset, the inputs at the levels they have (07 R125, R126, log entry 12). -/
def Keys.afterReset (k : Keys) : Keys :=
  { Keys.reset with
      fwd := .resetAt k.fwd.level, back := .resetAt k.back.level, menu := .resetAt k.menu.level,
      power := .resetAt k.power.level, cover := .resetAt k.cover.level, charger := .resetAt k.charger.level }

/-- Full Reset: every block at its Full Reset values. What lies outside the part stays: the levels at its pins, shared
memory, the array, and the commands that wait. -/
def fullReset (s : State) : State :=
  { State.reset with
      wm := .initialising (s.wm.epoch + 1), panel := .resetFrom s.panel.nextId, pins := s.pins,
      keys := s.keys.afterReset, store := .resetFrom 200 s.store.abandoned, shared := s.shared,
      pending := s.pending }

/-- The new-value events of a sweep that has ended (02 R33): where they were covered, the temperature's, while the main
domain is on, and the ambient value's, and the battery's. R33 gives them no order among themselves; the model takes the
temperature's first, so that a start which a class change releases latches the range of the temperature presented (05
R94), and the ambient value's last (DESIGN CHOICE, log entry 44). -/
def sweepEvents (full : Bool) (s : State) : State :=
  let t := batteryEvent (if full && s.power.vddMain then rangeEvent s else s)
  let u := if t.power.cls = s.power.cls then t else considerHead t
  if full then u.modLight (Light.takeAmbient u.power.cls u.sense.shown.ambient) else u

/-- A sweep ends: its values are presented, its events follow, a page write (01 R17), and a sweep that is owed (02 R23,
R24, R33). -/
def endSweep (full : Bool) (s : State) : State :=
  let t := requestPage (sweepEvents full (s.modSense fun n => { n with sweep := none }.present))
  t.modSense (Sense.startOwed t.power.state)

end Sys2Proof.Machine
end

