-- ==== Sys2Proof/Machine/ArraySteps.lean ====
section
/-!
DEFINITION. The steps of the Store Controller (09).
-/

namespace Sys2Proof.Machine

open Sys2Proof

/-- ARRAY_POWER_UP_END: the array is ON and the arbiter chooses (R167). -/
def execArrayPowerUpEnd (s : State) : Result :=
  if s.store.power = .poweringUp then commit s (serveStore (s.modStore fun st => { st with power := .on }))
  else commit s s

/-- ARRAY_IDLE_TIMER_EXPIRY (R167). -/
def execArrayIdleTimerExpiry (s : State) : Result :=
  if s.store.power = .on ∧ s.store.idle.isSome then commit s (powerOffArray s) else commit s s

/-- PAGE_READ_END: the attempt is classified (R175). -/
def execPageReadEnd (page : RawPage) (s : State) : Result :=
  match s.store.op with
  | some (.read c p second) =>
    match classifyPage page with
    | .erased   => commit s (finishRead c (some (List.replicate 4096 0xFF#8)) true s)
    | .sound    => commit s (finishRead c (some (sized 4096 page.data)) false s)
    | .mismatch => commit s (readMismatch c p second s)
  | _ => commit s s

/-- RAW_READ_END (R170, R177). -/
def execRawReadEnd (page : RawPage) (s : State) : Result :=
  match s.store.op with
  | some (.raw p why _) => commit s (serveStore (surveyPage p why page (endOp s)))
  | _ => commit s s

/-- PAGE_PROGRAM_END (R176). -/
def execPageProgramEnd (success : Bool) (s : State) : Result :=
  match s.store.op with
  | some (.program p data) =>
    commit s (serveStore (if success then programSucceeded p data (endOp s) else programFailed p (endOp s)))
  | _ => commit s s

/-- The erase that the array runs: RUNNING, or with its suspension not yet reported (R180). -/
def runningErase (st : Store) : Option Erase := st.erase.filter fun e => st.op.isNone && e.phase != .suspended

/-- ERASE_END (R177). -/
def execEraseEnd (success : Bool) (s : State) : Result :=
  match runningErase s.store with
  | some e => commit s (serveStore (if success then eraseSucceeded e.block s else eraseFailed e.block s))
  | none   => commit s s

/-- ERASE_SUSPENDED: the count rises, and the waiting reads are served (R180). -/
def execEraseSuspended (s : State) : Result :=
  match s.store.erase with
  | some e =>
    if e.phase = .suspending then
      commit s (serveStore (s.modStore fun st =>
        { st with erase := some { e with phase := .suspended, count := e.count + 1 } }))
    else commit s s
  | none => commit s s

/-- MARK_WRITE_END (R178). -/
def execMarkWriteEnd (success : Bool) (s : State) : Result :=
  match s.store.op with
  | some (.mark b) => commit s (serveStore (markEnded b success (endOp s)))
  | _ => commit s s

/-- BUSY_LIMIT_EXPIRY: the operation in flight, or the running erase, is abandoned and treated as failed (R166). The
repeat of a raw read (R170) is made in the same grant, as R175 says of a page read (DESIGN CHOICE, log entry 49). -/
def execBusyLimitExpiry (s : State) : Result :=
  match s.store.op with
  | some (.read c p second)   => commit s (readMismatch c p second s)
  | some (.raw p why second)  =>
    if second then commit s (serveStore (surveyFailed why (endOp s)))
    else commit s (s.modStore fun st => { st with op := some (.raw p why true) })
  | some (.program p _)       => commit s (serveStore (programFailed p (endOp s)))
  | some (.mark b)            => commit s (serveStore (markEnded b false (endOp s)))
  | none =>
    match runningErase s.store with
    | some e => commit s (serveStore (eraseFailed e.block s))
    | none   => commit s s

/-- GUARD_CHANGE: the level, and its effect on the pinned blocks while the main domain is powered (R174). -/
def execGuardChange (asserted : Bool) (s : State) : Result :=
  let t := s.modPins fun p => { p with guard := asserted }
  if s.power.vddMain && s.pins.guard != asserted then commit s (t.modStore (Store.takeGuard asserted)) else commit s t

end Sys2Proof.Machine
end

