-- ==== Sys2Proof/Machine/LinkSteps.lean ====
section
/-!
DEFINITION. The Link Engine's steps (01): the ends of its bus accesses, the scan tick, the release of a HELD lane. Each
acts on the access the port is making; where that is another access nothing changes (log entry 2).
-/

namespace Sys2Proof.Machine

open Sys2Proof

/-- What the end of the Anchor Block read makes of its answer (R3, R4). An Attach that succeeds outside RUN enters
DETACHING at once (log entry 21). -/
def anchorRead (addr : Word) (answer : BusRead) (s : State) : State :=
  match answer with
  | .busError   => attachFails s
  | .data bytes =>
    if anchorOk addr bytes then
      let t := attachSucceeds bytes s
      if t.power.state = .run then t else enterDetaching t
    else attachFails s

/-- The read of an Anchor Block. -/
def BusAccess.isAnchorRead : BusAccess → Bool
  | .anchorRead _ => true
  | _             => false

/-- The read of a record to take it. -/
def BusAccess.isRecordRead : BusAccess → Bool
  | .recordRead .. => true
  | _              => false

/-- The read of a lane's link. -/
def BusAccess.isAnyLinkRead : BusAccess → Bool
  | .linkRead .. => true
  | _            => false

/-- ANCHOR_BLOCK_READ_END (R3, R4). -/
def execAnchorBlockReadEnd (answer : BusRead) (s : State) : Result :=
  match endAccess BusAccess.isAnchorRead s with
  | some (.anchorRead addr, t) => commit s (anchorRead addr answer t)
  | _ => commit s s

/-- SCAN_TICK: the link of every PARKED lane is read again (R13). -/
def execScanTick (s : State) : Result :=
  if s.link.state = .attached ∧ s.link.scanOn then
    commit s (tickLane .control (tickLane .store (tickLane .display s)))
  else commit s s

/-- RECORD_READ_END (R9, R10, R14). -/
def execRecordReadEnd (answer : BusRead) (s : State) : Result :=
  match endAccess BusAccess.isRecordRead s with
  | some (.recordRead i addr, t) => commit s (recordRead i addr answer t)
  | _ => commit s s

/-- HELD_RELEASE (R10). -/
def execHeldRelease (lane : LaneId) (s : State) : Result := commit s (releaseHeld lane s)

/-- LINK_READ_END (R12, R13, R14). -/
def execLinkReadEnd (value : Word) (s : State) : Result :=
  match endAccess BusAccess.isAnyLinkRead s with
  | some (.linkRead i _ _, t) => commit s (linkRead i value t)
  | _ => commit s s

/-- RECORD_HEADER_WRITE_END (R11, R15, R16). -/
def execRecordHeaderWriteEnd (busError : Bool) (s : State) : Result :=
  match endAccess BusAccess.isHeaderWrite s with
  | some (a, t) => commit s (headerWritten a busError t)
  | none        => commit s s

/-- A page write ends: the snapshot it began with reaches shared memory, unless the bus refused it (R17). After a bus
error the page stays as it was: 12 R204 says so of the last write of a DETACHING, and R17 leaves the others open (DESIGN
CHOICE, log entry 48). -/
def pageWritten (busError : Bool) (snapshot : Option (List Byte)) (s : State) : State :=
  match snapshot with
  | some page => if busError then s else s.modShared (writeShared s.link.statusAddr.toNat page)
  | none      => s

/-- DETACH_FINAL_PAGE: the last whole-page write of a DETACHING ends, and the link becomes DETACHED (R5). -/
def execDetachFinalPage (busError : Bool) (s : State) : Result :=
  match endAccess (· == .finalPage) s with
  | some (_, t) =>
    commit s ((pageWritten busError s.bus.snapshot t).modLink fun l => { l with state := .detached })
  | none => commit s s

/-- STATUS_PAGE_WRITE_END (R17). -/
def execStatusPageWriteEnd (busError : Bool) (s : State) : Result :=
  match endAccess (· == .statusPage) s with
  | some (_, t) => commit s (pageWritten busError s.bus.snapshot t)
  | none        => commit s s

end Sys2Proof.Machine
end

