-- ==== Sys2Proof/Machine/MemorySteps.lean ====
section
/-!
DEFINITION. The steps of the Working Memory Controller (04).
-/

namespace Sys2Proof.Machine

open Sys2Proof

/-- A refresh falls due: the debt rises by 1 and an idle memory refreshes (R70). The debt stays in 0..8 (log entry
19). -/
def WorkMem.refreshDue (w : WorkMem) : WorkMem := { w with debt := min Config.forcedDebt (w.debt + 1) }.decide

/-- REFRESH_DUE (R70). -/
def execRefreshDue (s : State) : Result :=
  if s.wm.serves then commit s (s.modWm WorkMem.refreshDue) else commit s s

/-- A burst is running. -/
def WorkMem.bursting (w : WorkMem) : Bool :=
  match w.running with
  | some (.burst _) => true
  | some .refresh   => false
  | none            => false

/-- BURST_END: the clients that ask for a further burst start to wait, and the arbiter decides (R68). -/
def execBurstEnd (requests : List WmClient) (s : State) : Result :=
  if s.wm.bursting then commit s (wmGoOn requests s) else commit s s

/-- REFRESH_END: the arbiter decides again (R68, R70). The refresh took its 1 from the debt when it was issued. -/
def execRefreshEnd (requests : List WmClient) (s : State) : Result :=
  if s.wm.running = some .refresh then commit s (wmGoOn requests s) else commit s s

/-- Self-refresh can be entered: debt 0, nothing running, no client waiting (R71). -/
def WorkMem.entryReady (w : WorkMem) : Bool :=
  w.state == .entering && w.debt == 0 && w.running.isNone && w.waiting.isEmpty

/-- SELF_REFRESH_ENTRY: self-refresh is entered and reported, which may bring DOZE_QUIET (R71, 03 R49). -/
def execSelfRefreshEntry (s : State) : Result :=
  if s.wm.entryReady then commit s (reachDozeQuiet (s.modWm fun w => { w with state := .selfRefresh })) else commit s s

/-- MEMORY_LEAVE_END: ACTIVE after LEAVING (R73); an Engine Reset that the wake carries is then made (R67, 03 R53). -/
def execMemoryLeaveEnd (s : State) : Result :=
  if s.wm.state = .leaving then
    let t := s.modWm WorkMem.activate
    commit s (if t.power.resetPending then engineReset t else t)
  else commit s s

/-- INITIALISING_END: the contents-lost event reaches the three blocks, and then the state is ACTIVE (R67, R74, R75). -/
def execInitialisingEnd (s : State) : Result :=
  if s.wm.state = .initialising then
    commit s ((turnLost (waveLost (panelLost s))).modWm WorkMem.activate)
  else commit s s

end Sys2Proof.Machine
end

