-- ==== Sys2Proof/Machine/PanelSteps.lean ====
section
/-!
DEFINITION. The steps of the Panel Update Engine (06).
-/

namespace Sys2Proof.Machine

open Sys2Proof

/-! ## PANEL_UPDATE (06, section 6.2; 11, section 11.4) -/

/-- The warning clipping gives (R96). -/
def clipDetail (b : List Byte) : Word := warnIf (rawRect b).wasClipped warnClipped

/-- The checks of R98 in order: the mode of a record that passes, or the result that ends it. -/
def updateCheck (b : List Byte) (s : State) : Mode ⊕ ResultCode :=
  match modeOfCode (byteAt b 46) with
  | none   => .inr .badMode
  | some m =>
    if !s.wave.validA && !s.wave.validB then .inr .noWaveform
    else if !modeInForce m s then .inr .badMode
    else if (rawRect b).isEmpty then .inr .empty
    else if half b 44 < (rawRect b).clip.w then .inr .range
    else if s.power.forced then .inr .lowSupply
    else if flushInForce s then .inr .panelHalted
    else .inl m

/-- The pending entry a PANEL_UPDATE becomes (R98). -/
def entryOf (r : RecordCopy) (m : Mode) (id : Nat) : Entry :=
  { id := id, src := .record r.addr, rect := (rawRect r.bytes).clip, mode := m, changedOnly := bitAt r.bytes 47 0,
    maySupersede := bitAt r.bytes 47 1, image := word r.bytes 40, stride := half r.bytes 44,
    detail := clipDetail r.bytes }

/-- A PANEL_UPDATE accepted: it completes, or joins the list, and starts are evaluated (R98 to R101). -/
def takeUpdate (r : RecordCopy) (s : State) : State :=
  match updateCheck r.bytes s with
  | .inr result => completeRecord .display r.addr result (clipDetail r.bytes) 0 s
  | .inl m      => settleAll (joinList (entryOf r m s.panel.nextId) s)

/-- PANEL_UPDATE (R98). -/
def execPanelUpdate (s : State) : Result := onRecord .panelUpdate takeUpdate s

/-! ## The life of a slot (06, section 6.4) -/

/-- The slot the Image Copier copies for: the COPYING slot that started first (R104). -/
def copyingSlot (s : State) : Option (Nat × Slot) :=
  match s.panel.copyQueue with
  | []     => none
  | n :: _ => (sparseGet n s.panel.slots).map fun sl => (n, sl)

/-- The copy has ended: the slot is READY, and the record is Running or the staging frame free (R105). -/
def copyEnded (n : Nat) (sl : Slot) (s : State) : State :=
  let t := (modSlot n (fun x => { x with state := .ready }) s).modPanel fun p => { p with copyQueue := p.copyQueue.tail }
  match sl.src with
  | .record addr => copyOn (markRunning .display addr t)
  | .internal f  => considerHead (reportCopied f (copyOn t))

/-- The last row of a slot's image has been read: the state without the port's access. A copy from a staging frame
reads nothing through the port (01 R8; R104). -/
def rowsRead (n : Nat) (sl : Slot) (s : State) : Option State :=
  match sl.src with
  | .record _   => endTransfer (BusAccess.isRows n) s
  | .internal _ => some s

/-- IMAGE_COPY_END (R104, R105). The image operand is the bytes of shared memory from the image address on, up to the
extent of R97; a copy from a staging frame does not read it. -/
def execImageCopyEnd (image : List Byte) (s : State) : Result :=
  match copyingSlot s with
  | none         => commit s s
  | some (n, sl) =>
    match rowsRead n sl s with
    | none   => commit s s
    | some t => if s.wm.serves then commit s (copyEnded n sl (copyTargets n sl image t)) else commit s s

/-- IMAGE_COPY_BUS_ERROR: the copy of a record's image stops and the slot is aborted with BadAddress (R105). -/
def execImageCopyBusError (s : State) : Result :=
  match copyingSlot s with
  | none         => commit s s
  | some (n, _) =>
    match endTransfer (BusAccess.isRows n) s with
    | none   => commit s s
    | some t => commit s (abortSlot .badAddress n t)

/-- A READY slot becomes RUNNING with frame index 0 (R105). -/
def Slot.run (sl : Slot) : Slot := if sl.state = .ready then { sl with state := .running, frame := 0 } else sl

/-- READY slots become RUNNING, and a scan starts if any slot is RUNNING (R105). -/
def startFrame (s : State) : State :=
  let t := s.modPanel fun p => { p with slots := sparseMap (fun _ sl => sl.run) p.slots }
  if t.panel.slots.any fun e => e.2.state == .running then
    wmRequest .frameScan (t.modPanel fun p => { p with scan := true })
  else t

/-- Stops awaiting the tick take effect, and starts are evaluated after them (R101, R114). -/
def tickStops (s : State) : State :=
  if s.panel.stops.any fun st => !st.effect then settleAll (effectStops s) else s

/-- FRAME_TICK: awaiting stops take effect, then READY slots run and one scan starts (R105, R109, R114). -/
def execFrameTick (s : State) : Result :=
  if s.panel.engine = .driving ∧ s.panel.scan = false then commit s (startFrame (tickStops s)) else commit s s

/-- A RUNNING slot after the scan of a frame (R105, R106). -/
def Slot.advance (sl : Slot) : Slot :=
  if sl.state = .running then
    { sl with frame := sl.frame + 1, driven := sl.driven + 1,
              state := if sl.frames ≤ sl.frame + 1 then .retiring else .running }
  else sl

/-- A scan has ended: frame indices rise, and slots past frame F-1 become RETIRING in slot order (R105, R106). -/
def scanEnded (s : State) : State :=
  let out := s.panel.slotsWhere fun sl => sl.state == .running && sl.frames ≤ sl.frame + 1
  let t := (wmDrop .frameScan s).modPanel fun p =>
    { p with scan := false, slots := sparseMap (fun _ sl => sl.advance) p.slots, passQueue := p.passQueue ++ out }
  if out.isEmpty then t else wmRequest .retirePass t

/-- FRAME_SCAN_END (R105, R106). -/
def execFrameScanEnd (s : State) : Result := if s.panel.scan then commit s (scanEnded s) else commit s s

/-- The slot the Retire Pass serves (R106). -/
def passSlot (s : State) : Option (Nat × Slot) :=
  match s.panel.passQueue with
  | []     => none
  | n :: _ => (sparseGet n s.panel.slots).map fun sl => (n, sl)

/-- A retire pass has ended (R106). -/
def retireEnded (n : Nat) (sl : Slot) (s : State) : State :=
  let t := (passOver n sl true s).modPanel fun p => p.cleared sl
  settleAll (freeSlot n sl.id (completeSlot sl t))

/-- RETIRE_PASS_END (R106). -/
def execRetirePassEnd (s : State) : Result :=
  match passSlot s with
  | none         => commit s s
  | some (n, sl) =>
    if sl.state = .retiring ∧ s.wm.serves then commit s (retireEnded n sl s) else commit s s

/-- A clearing pass has ended: a record completes with the abort result and the frames driven (R107). -/
def clearingEnded (n : Nat) (sl : Slot) (s : State) : State :=
  let t := passOver n sl false s
  let u := match sl.src with
    | .record addr => completeRecord .display addr sl.abort sl.detail sl.driven t
    | .internal _  => t
  settleAll (freeSlot n sl.id u)

/-- CLEARING_PASS_END (R107). -/
def execClearingPassEnd (s : State) : Result :=
  match passSlot s with
  | none         => commit s s
  | some (n, sl) =>
    if sl.state = .clearing ∧ s.wm.serves then commit s (clearingEnded n sl s) else commit s s

/-! ## Rails (06, section 6.5) -/

/-- RAIL_GOOD_ASSERT: RAIL_GOOD is found asserted; in RISING the engine drives, or goes on to HOLDING with no slot
active (R108). -/
def execRailGoodAssert (s : State) : Result :=
  let t := s.modPins fun p => { p with railGood := true }
  if s.panel.engine = .rising then
    commit s (considerHead (leaveDriving (t.modPanel fun p => { p with engine := .driving, risingTimer := false })))
  else commit s t

/-- RAIL_GOOD_DEASSERT: HALTED from DRIVING or HOLDING (R111). -/
def execRailGoodDeassert (s : State) : Result :=
  let t := s.modPins fun p => { p with railGood := false }
  if s.panel.engine = .driving ∨ s.panel.engine = .holding then commit s (settleAll (railFault t)) else commit s t

/-- RISING_TIMER_EXPIRY (R108, R111). -/
def execRisingTimerExpiry (s : State) : Result :=
  if s.panel.engine = .rising ∧ s.panel.risingTimer = true then commit s (settleAll (railFault s)) else commit s s

/-- HOLD_TIMER_EXPIRY (R110). -/
def execHoldTimerExpiry (s : State) : Result :=
  if s.panel.engine = .holding ∧ s.panel.holdTimer.isSome then commit s (s.modPanel Panel.fall) else commit s s

/-- FALLING_TIMER_EXPIRY: OFF, and starts are evaluated (R110). -/
def execFallingTimerExpiry (s : State) : Result :=
  if s.panel.engine = .falling ∧ s.panel.fallingTimer = true then
    commit s (settleAll (s.modPanel fun p => { p with engine := .off, fallingTimer := false }))
  else commit s s

/-! ## PANEL_STOP, PANEL_RESUME, PANEL_SETUP -/

/-- The stop a PANEL_STOP becomes: it marks the intersecting entries and slots (R113). -/
def stopOf (r : RecordCopy) (p : Panel) : Stop :=
  let rect := (rawRect r.bytes).clip
  { addr := r.addr, detail := clipDetail r.bytes,
    marks := ((p.pending.filter fun e => e.rect.intersects rect).map (·.id))
      ++ ((p.slots.filter fun e => e.2.abortable && e.2.eff.intersects rect).map fun e => e.2.id),
    effect := false, stopped := 0, waits := [] }

/-- A PANEL_STOP accepted (R113, R114). -/
def takeStop (r : RecordCopy) (s : State) : State :=
  if (rawRect r.bytes).isEmpty then completeRecord .display r.addr .empty (clipDetail r.bytes) 0 s
  else
    let t := s.modPanel fun p => { p with stops := p.stops ++ [stopOf r p] }
    if s.panel.engine = .driving then t else settleAll (effectStops t)

/-- PANEL_STOP (R113). -/
def execPanelStop (s : State) : Result := onRecord .panelStop takeStop s

/-- PANEL_RESUME: outside HALTED it completes OK at once; in HALTED it waits (R112). Its progress and detail are 0
(DESIGN CHOICE, log entry 58). -/
def execPanelResume (s : State) : Result :=
  onRecord .panelResume (fun r t =>
    if t.panel.engine = .halted then t.modPanel fun p => { p with resumes := p.resumes ++ [r.addr] }
    else completeRecord .display r.addr .ok 0#32 0 t) s

/-- HALTED is left: the engine is OFF, the waiting records complete, and starts are evaluated (R112). Their progress and
detail are 0 (DESIGN CHOICE, log entry 58). -/
def resumeEngine (s : State) : State :=
  let t := s.modPanel fun p => { p with engine := .off, resumes := [], flushed := false }
  settleAll (s.panel.resumes.foldl (fun u a => completeRecord .display a .ok 0#32 0 u) t)

/-- PANEL_RESUME_COMPLETE: no slot is active in HALTED (R112). -/
def execPanelResumeComplete (s : State) : Result :=
  if s.panel.engine = .halted ∧ s.panel.resumes ≠ [] ∧ s.panel.slots = [] then commit s (resumeEngine s)
  else commit s s

/-- PANEL_SETUP (R115). -/
def execPanelSetup (s : State) : Result :=
  onRecord .panelSetup (fun r t =>
    completeRecord .display r.addr .ok (warnIf (5000 < half r.bytes 32) warnClamped) 0
      (t.modPanel fun p => { p with holdTime := min (half r.bytes 32) 5000 })) s

end Sys2Proof.Machine
end

