-- ==== Sys2Proof/Machine/PowerSteps.lean ====
section
/-!
DEFINITION. The steps of the Power Controller (03) and of the Key Unit (07, sections 7.1 and 7.2).
-/

namespace Sys2Proof.Machine

open Sys2Proof

/-! ## Records (03, sections 3.3 and 3.5; 11, section 11.4) -/

/-- A threshold lies in 1..5118 mV (R44). -/
def thresholdOk (v : Nat) : Bool := 1 ≤ v && v ≤ 5118

/-- The thresholds group passes R44. -/
def thresholdsOk (b : List Byte) : Bool :=
  thresholdOk (half b 34) && thresholdOk (half b 36) && thresholdOk (half b 38) && thresholdOk (half b 40)
    && thresholdOk (half b 42) && thresholdOk (half b 44)
    && half b 38 < half b 34 && half b 42 < half b 38
    && half b 34 + 20 ≤ half b 36 && half b 38 + 20 ≤ half b 40 && half b 42 + 20 ≤ half b 44

/-- The times group passes R44. -/
def timesOk (b : List Byte) : Bool :=
  1 ≤ half b 46 && half b 46 ≤ 60 && 1 ≤ half b 48 && half b 48 ≤ 240 && 10 ≤ half b 50 && half b 50 ≤ 10000

/-- A POWER_SETUP passes R44. -/
def powerSetupOk (b : List Byte) : Bool :=
  (!bitAt b 32 0 || thresholdsOk b) && (!bitAt b 32 1 || timesOk b) && (!bitAt b 32 2 || byteAt b 33 ≤ 1)

/-- The present groups of a POWER_SETUP replace their values (R45). -/
def Power.applySetup (b : List Byte) (p : Power) : Power :=
  let q := if bitAt b 32 0 then
      { p with eReduced := half b 34, xReduced := half b 36, eCritical := half b 38, xCritical := half b 40,
               eExhausted := half b 42, xExhausted := half b 44 }
    else p
  let r := if bitAt b 32 1 then
      { q with graceTime := half b 46, dozeTimeout := half b 48, storeIdle := half b 50 }
    else q
  if bitAt b 32 2 then { r with coverAction := if byteAt b 33 = 0 then .deepOnClose else .none } else r

/-- POWER_SETUP (R44, R45). A new store idle time is handed to the Store Controller. -/
def execPowerSetup (s : State) : Result :=
  onRecord .powerSetup (fun r t =>
    if powerSetupOk r.bytes then
      let u := t.modPower (Power.applySetup r.bytes)
      completeRecord .control r.addr .ok 0#32 0 (u.modStore fun st => { st with idleTime := u.power.storeIdle })
    else completeRecord .control r.addr .badSetup 0#32 0 t) s

/-- The depth a code names (11, section 11.4). -/
def depthOfCode : Nat → Option SleepDepth
  | 0 => some .doze
  | 1 => some .deep
  | _ => none

/-- DOZE_ENTRY is entered (R48). -/
def enterDozeEntry (s : State) : State := applyHoldCut (setPower .dozeEntry s)

/-- An accepted POWER_SLEEP: depth and wake time latched, DETACHING, the power state, and only then OK (R47). -/
def acceptSleep (r : RecordCopy) (d : SleepDepth) (s : State) : State :=
  let t := detachIfAttached (s.modPower fun p => { p with depth := d, wakeSetting := half r.bytes 34 })
  completeRecord .control r.addr .ok 0#32 0 (match d with | .doze => enterDozeEntry t | .deep => enterDeepEntry t)

/-- The checks of R47 in order. A refused record has progress and detail 0 (DESIGN CHOICE, log entry 58). -/
def sleepChecks (r : RecordCopy) (s : State) : State :=
  match depthOfCode (byteAt r.bytes 32) with
  | none   => completeRecord .control r.addr .range 0#32 0 s
  | some d =>
    if 10080 < half r.bytes 34 then completeRecord .control r.addr .range 0#32 0 s
    else if s.power.state ≠ .run then completeRecord .control r.addr .lowSupply 0#32 0 s
    else if s.panel.engine = .halted then completeRecord .control r.addr .panelHalted 0#32 0 s
    else if s.power.cls = .exhausted then completeRecord .control r.addr .lowSupply 0#32 0 s
    else acceptSleep r d s

/-- POWER_SLEEP (R47). -/
def execPowerSleep (s : State) : Result := onRecord .powerSleep (fun r t => settleAll (sleepChecks r t)) s

/-! ## Timers -/

/-- GRACE_TIMER_EXPIRY (R62). -/
def execGraceTimerExpiry (s : State) : Result :=
  if s.power.graceTimer.isSome then
    commit s (settleAll (beginForcedDescent (s.modPower fun p => { p with graceTimer := none })))
  else commit s s

/-- DOZE_TIMER_EXPIRY (R52). A descent that waits for a decode goes on to wait (log entry 24). -/
def execDozeTimerExpiry (s : State) : Result :=
  if s.power.dozeTimer.isSome then
    let t := s.modPower fun p => { p with dozeTimer := none }
    if s.power.descentPending then commit s t else commit s (settleAll (enterDeepEntry t))
  else commit s s

/-- WAKE_TIMER_EXPIRY (R55). -/
def execWakeTimerExpiry (s : State) : Result :=
  if s.power.wakeTimer.isSome then
    commit s (wakeEvent .timer (s.modPower fun p => { p with wakeTimer := none }))
  else commit s s

/-! ## Drains (R49, R51, R58) -/

/-- No turn is in progress and the key queue is empty. -/
def turnQuiet (s : State) : Bool := s.turn.state == .idle && s.turn.queue.isEmpty

/-- No array operation is in flight or suspended. -/
def arrayQuiet (s : State) : Bool := s.store.op.isNone && s.store.erase.isNone && !s.store.waiting

/-- The drain conditions of DOZE_ENTRY and of DOZE_TURNING (R49, R51). -/
def dozeDrained (s : State) : Bool :=
  s.panel.engine == .off && turnQuiet s && arrayQuiet s &&
    (s.power.state == .dozeTurning && !s.power.descentPending
      || s.power.state == .dozeEntry && s.link.state == .detached && s.executor.phase == .idle)

/-- DOZE_DRAIN_COMPLETE: self-refresh is requested and the array is powered off at once (R49, R51, 09 R168). -/
def execDozeDrainComplete (s : State) : Result :=
  if dozeDrained s && !s.power.drainAsked then
    commit s (reachDozeQuiet
      (powerOffArray (askSelfRefresh (s.modPower fun p => { p with drainAsked := true }))))
  else commit s s

/-- The panel condition of DEEP: OFF, or a flushed HALTED engine with no slot active (R58, 06 R120). -/
def panelQuiet (s : State) : Bool :=
  s.panel.engine == .off || s.panel.engine == .halted && s.panel.flushed && s.panel.slots.isEmpty

/-- The conditions of R58 hold together; an Attach being carried out is waited for (log entry 21). -/
def deepDrained (s : State) : Bool :=
  s.power.state == .deepEntry && (s.link.state == .detached || s.link.state == .fault) && !s.link.attaching
    && panelQuiet s && turnQuiet s && arrayQuiet s && s.executor.phase == .idle

/-- DEEP is entered (R58): the array off, VDD_MAIN off, the forced-descent flag cleared, and after a POWER_SLEEP(DEEP)
the wake timer started (R55, log entry 25). -/
def enterDeep (s : State) : State :=
  let t := setPower .deep
    (s.modPower fun p =>
      { p with vddMain := false, forced := false, drainAsked := false,
               wakeTimer := if p.depth = .deep ∧ p.wakeSetting ≠ 0 then p.wakeTimer.or (some p.wakeSetting)
                            else p.wakeTimer })
  wmUnpower (resetMain (powerOffArray t))

/-- A wake remembered in DEEP_ENTRY is taken in DEEP (R58, R59). -/
def takeRemembered (s : State) : State :=
  match s.power.remembered with
  | none   => s
  | some r => wakeEvent r (s.modPower fun p => { p with remembered := none })

/-- DEEP_ENTRY_COMPLETE (R58). -/
def execDeepEntryComplete (s : State) : Result :=
  if deepDrained s then commit s (takeRemembered (enterDeep s)) else commit s s

/-- RUN is reached (R53, R60, R61): the fade clears, the grace starts under Exhausted, a waiting Attach is carried
out. -/
def reachRun (s : State) : State :=
  let t := (setPower .run s).modLight fun l => { l with fade := false }
  let u := if t.power.cls = .exhausted then startGrace t else t
  if u.regs.attachWaits then startAttach u else u

/-- WAKING_COMPLETE: working memory is active and any reset is done (R50, R53, R60). -/
def execWakingComplete (s : State) : Result :=
  if s.power.state = .waking ∧ s.wm.state = .active ∧ s.power.resetPending = false then commit s (reachRun s)
  else commit s s

/-! ## Inputs (07 R125 to R128, 03 R56) -/

/-- One input by name. -/
def Keys.input (k : Keys) : InputId → InputState
  | .fwd     => k.fwd
  | .back    => k.back
  | .menu    => k.menu
  | .power   => k.power
  | .cover   => k.cover
  | .charger => k.charger

/-- Change one input. -/
def Keys.setInput (k : Keys) (i : InputId) (x : InputState) : Keys :=
  match i with
  | .fwd     => { k with fwd := x }
  | .back    => { k with back := x }
  | .menu    => { k with menu := x }
  | .power   => { k with power := x }
  | .cover   => { k with cover := x }
  | .charger => { k with charger := x }

/-- A level change at an input: a measurement starts, or the one in progress is dropped (07 R125). -/
def InputState.change (x : InputState) (level : Bool) : InputState :=
  if x.level = level then x
  else { x with level := level, measuring := if x.settled && level == x.debounced then none else some level }

/-- INPUT_CHANGE (07 R125). -/
def execInputChange (input : InputId) (level : Bool) (s : State) : Result :=
  commit s (s.modKeys fun k => k.setInput input ((k.input input).change level))

/-- A press is counted (07 R126). -/
def Keys.count (k : Keys) : InputId → Keys
  | .fwd     => { k with countFwd := k.countFwd + 1#16 }
  | .back    => { k with countBack := k.countBack + 1#16 }
  | .menu    => { k with countMenu := k.countMenu + 1#16 }
  | .power   => { k with countPower := k.countPower + 1#16 }
  | .cover   => k
  | .charger => k

/-- A press restarts the doze inactivity timer where it runs (03 R52, 07 R126). -/
def restartDoze (s : State) : State :=
  s.modPower fun p => if p.dozeTimer.isSome then { p with dozeTimer := some p.dozeTimeout } else p

/-- A press found: counted, KEY in RUN, the doze timer restarted (07 R126). -/
def pressFound (i : InputId) (s : State) : State :=
  let t := restartDoze (s.modKeys fun k => k.count i)
  if t.power.state = .run then setCause keyCause t else t

/-- A FWD or BACK press is routed (07 R127). -/
def routeTurn (k : TurnKey) (r : WakeReason) (s : State) : State :=
  match s.power.state with
  | .run | .waking => if s.turn.armed then joinQueue k s else s
  | .dozeEntry | .dozeQuiet | .dozeTurning => if s.turn.armed then joinQueue k s else wakeEvent r s
  | .deepEntry | .deep => s

/-- The cover has closed (03 R52, 07 R128). -/
def coverClosed (s : State) : State :=
  if s.power.state.isDoze && s.power.coverAction == .deepOnClose && !s.power.descentPending then enterDeepEntry s else s

/-- A cover change found: COVER in RUN, then the Power Controller (07 R126, R128). -/
def coverFound (closed : Bool) (s : State) : State :=
  let t := if s.power.state = .run then setCause coverCause s else s
  if closed then coverClosed t else wakeEvent .coverOpen t

/-- What a change of a debounced state does (07 R125, R127, R128; 03 R56). -/
def inputFound (i : InputId) (level : Bool) (s : State) : State :=
  match i with
  | .fwd     => if level then routeTurn .fwd .fwd (pressFound .fwd s) else s
  | .back    => if level then routeTurn .back .back (pressFound .back s) else s
  | .menu    => if level then wakeEvent .menu (pressFound .menu s) else s
  | .power   => if level then wakeEvent .power (pressFound .power s) else s
  | .cover   => coverFound level s
  | .charger => if level then wakeEvent .charger s else s

/-- DEBOUNCE_END: the input has been steady for 20 ms. The first steady reading after Full Reset is no event (07 R125,
03 R56). -/
def execDebounceEnd (input : InputId) (s : State) : Result :=
  let x := s.keys.input input
  match x.measuring with
  | none   => commit s s
  | some l =>
    let t := s.modKeys fun k => k.setInput input { x with debounced := l, settled := true, measuring := none }
    if x.settled && x.debounced != l then commit s (settleAll (inputFound input l t)) else commit s t

end Sys2Proof.Machine
end

