-- ==== Sys2Proof/Machine/RegisterSteps.lean ====
section
/-!
DEFINITION. The steps the host makes through the register window (01, section 1.1; 11, section 11.1), the CONTROL write
that waited, and Full Reset.
-/

namespace Sys2Proof.Machine

open Sys2Proof

/-- ATTACH: a CONTROL write of code 1 (01 R2, R3, R20). -/
def execAttach (s : State) : Result := commit s (controlWrite .attach (writeAnswered s))

/-- DETACH: a CONTROL write of code 2 (01 R2, R5). -/
def execDetach (s : State) : Result := commit s (settleAll (controlWrite .detach (writeAnswered s)))

/-- ENGINE_RESET: a CONTROL write of code 3 (01 R2, R6; 03 R46, R53). -/
def execEngineReset (s : State) : Result := commit s (controlWrite .engineReset (writeAnswered s))

/-- WAITING_COMMAND_TAKEN: the CONTROL write that waited is taken once the Attach before it has finished (01 R2). -/
def execWaitingCommandTaken (s : State) : Result :=
  match s.regs.waiting with
  | none   => commit s s
  | some c =>
    if s.link.attaching then commit s s
    else commit s (settleAll (takeCommand c (s.modRegs fun r => { r with waiting := none })))

/-- ANCHOR_WRITE (01 R1). -/
def execAnchorWrite (value : Word) (s : State) : Result := commit s (writeAnchor value (writeAnswered s))

/-- NUDGE (01 R13). -/
def execNudge (mask : Word) (s : State) : Result := commit s (writeNudge mask (writeAnswered s))

/-- CAUSE_CLEAR (01 R18). -/
def execCauseClear (value : Word) (s : State) : Result := commit s (clearCauses value (writeAnswered s))

/-- CAUSEMASK_WRITE (01 R19). -/
def execCausemaskWrite (value : Word) (s : State) : Result := commit s (writeCausemask value (writeAnswered s))

/-- The CONTROL command a write's value names, by its low eight bits (11, section 11.1; R202). -/
def commandOf (value : Word) : Option ControlCommand :=
  match value.toNat % 256 with
  | 1 => some .attach
  | 2 => some .detach
  | 3 => some .engineReset
  | _ => none

/-- An aligned 32-bit write at an offset of the window (11 R202, 01 R2). -/
def wordWrite (offset : Nat) (value : Word) (s : State) : State :=
  match offset with
  | 0x04 => writeAnchor value s
  | 0x08 =>
    match commandOf value with
    | some c => settleAll (controlWrite c s)
    | none   => s
  | 0x0C => writeNudge value s
  | 0x10 => clearCauses value s
  | 0x14 => writeCausemask value s
  | _    => s

/-- REGISTER_WRITE_OTHER: a narrow or unaligned write is answered with an error and changes no register; ID, the unused
words and a code that names no command are ignored (01 R1, R2; 11 R202). -/
def execRegisterWriteOther (offset width : Nat) (value : Word) (s : State) : Result :=
  if width = 4 ∧ offset % 4 = 0 then commit s (wordWrite offset value (writeAnswered s)) else commit s (writeRefused s)

/-- FULL_RESET (03 R46). -/
def execFullReset (s : State) : Result := commit s (fullReset s)

end Sys2Proof.Machine
end

