-- ==== Sys2Proof/Machine/SenseSteps.lean ====
section
/-!
DEFINITION. The steps of the Sense Front End (02) and of the Front Light Controller (08).
-/

namespace Sys2Proof.Machine

open Sys2Proof

/-- PWM_PERIOD_START: the duties are latched, and an AMB signal sample that waited for the dark window begins (08 R146,
02 R25). -/
def execPwmPeriodStart (s : State) : Result :=
  commit s ((s.modLight Light.latch).modSense fun n =>
    { n with sweep := n.sweep.map fun w => if w.stage = .awaitDark then { w with stage := .signal } else w })

/-- SWEEP_TIMER_EXPIRY (02 R23). -/
def execSweepTimerExpiry (s : State) : Result :=
  if s.sense.timer.isSome then commit s (s.modSense (Sense.expire s.power.state)) else commit s s

/-- A zero sample has been taken: the signal sample is next, and one of AMB waits for the dark window while the light
is on (02 R22, R25). -/
def zeroTaken (w : Sweep) (raw : Nat) (s : State) : State :=
  let waits := w.chan == .amb && 0 < s.light.output
  s.modSense fun n => { n with sweep := some { w with zero := raw, stage := if waits then .awaitDark else .signal } }

/-- A signal sample has been taken: the channel's chain runs, and the next channel's zero sample is next, or the sweep
ends (02 R22, R26 to R33). What the sweep has derived is presented at its end (02 R33, R34; log entry 43). -/
def signalTaken (w : Sweep) (raw : Nat) (s : State) : State :=
  let t := s.modSense fun n => n.take w.chan w.zero raw
  match w.nextChannel with
  | some c => t.modSense fun n => { n with sweep := some { w with chan := c, stage := .zero, zero := 0 } }
  | none   => endSweep w.full t

/-- CONVERSION_END (02 R21). -/
def execConversionEnd (raw : BitVec 12) (s : State) : Result :=
  match s.sense.sweep with
  | none   => commit s s
  | some w =>
    match w.stage with
    | .zero      => commit s (zeroTaken w raw.toNat s)
    | .awaitDark => commit s s
    | .signal    => commit s (signalTaken w raw.toNat s)

/-- SENSE_SETUP: taken, to be checked and applied once no sweep runs (02 R35). -/
def execSenseSetup (s : State) : Result :=
  onRecord .senseSetup (fun r t => t.modSense fun n => { n with setup := some r }) s

/-- The setup checked, applied as one step or refused, and completed (02 R35 to R37). -/
def applySetup (r : RecordCopy) (s : State) : State :=
  let t := s.modSense fun n => { n with setup := none }
  if senseSetupOk r.bytes then
    completeRecord .control r.addr .ok (setupDetail r.bytes) 0 (t.modSense (Sense.applySetup s.power.state r.bytes))
  else completeRecord .control r.addr .badSetup 0#32 0 t

/-- SENSE_SETUP_APPLY (02 R35, R36, R37). -/
def execSenseSetupApply (s : State) : Result :=
  match s.sense.setup with
  | none   => commit s s
  | some r =>
    if s.sense.sweep.isSome then commit s s
    else commit s ((applySetup r s).modSense (Sense.startOwed s.power.state))

/-- LIGHT_SET (08 R149, R150). -/
def execLightSet (s : State) : Result :=
  onRecord .lightSet (fun r t =>
    match lightSetMode r.bytes t.light with
    | none   => completeRecord .control r.addr .badSetup 0#32 0 t
    | some m =>
      completeRecord .control r.addr .ok (warnIf (lightSetClamped r.bytes) warnClamped) 0
        (t.modLight (Light.applySet t.power.cls r.bytes m))) s

/-- LIGHT_CURVE (08 R151, R152). -/
def execLightCurve (s : State) : Result :=
  onRecord .lightCurve (fun r t =>
    if lightCurveOk r.bytes then
      completeRecord .control r.addr .ok 0#32 0 (t.modLight (Light.applyCurve t.power.cls (lightPoints r.bytes)))
    else completeRecord .control r.addr .badSetup 0#32 0 t) s

/-- RAMP_TICK (08 R156). -/
def execRampTick (s : State) : Result := commit s (s.modLight Light.tick)

end Sys2Proof.Machine
end

