-- ==== Sys2Proof/Machine/StoreLaneSteps.lean ====
section
/-!
DEFINITION. The steps of the Store Lane Executor (10).
-/

namespace Sys2Proof.Machine

open Sys2Proof

/-- STORE_INGEST (R187). -/
def execStoreIngest (s : State) : Result :=
  onRecord .storeIngest (fun r t => serveStore (ingestChecks (beginExecutor .storeIngest r t))) s

/-- The access of the executor's buffer, of a given use. -/
def BusAccess.isBuffer (use : BufferUse) : BusAccess → Bool
  | .buffer u _ _ => u == use
  | _             => false

/-- INGEST_VERIFY_END: the first pass ends (R188); a bus error ends the record with BadAddress (R186). -/
def execIngestVerifyEnd (answer : BusRead) (s : State) : Result :=
  match endTransfer (BusAccess.isBuffer .payload) s with
  | none   => commit s s
  | some t =>
    if s.executor.phase = .verifying then
      match answer with
      | .busError   => commit s (finishExecutor .badAddress 0#32 0 t)
      | .data bytes => commit s (ingestVerified bytes t)
    else commit s s

/-- INGEST_PAGE_DATA_READ: a page's payload is in the buffer and its program is requested (R189); a bus error ends the
record with BadAddress (R186). -/
def execIngestPageDataRead (answer : BusRead) (s : State) : Result :=
  match endAccess (BusAccess.isBuffer .payloadPage) s with
  | none        => commit s s
  | some (_, t) =>
    if s.executor.phase = .programming ∧ s.executor.buf = [] then
      match answer with
      | .busError   => commit s (finishExecutor .badAddress 0#32 s.executor.progress t)
      | .data bytes => commit s (serveStore (ingestPageRead bytes t))
    else commit s s

/-- STORE_READ (R193). -/
def execStoreRead (s : State) : Result :=
  onRecord .storeRead (fun r t => serveStore (readChecks (beginExecutor .storeRead r t))) s

/-- STORE_READ_DEST_WRITE_END (R193, R194); a bus error ends the record with BadAddress (R186), and of the page that
may be partly written then no byte is (DESIGN CHOICE, log entry 48). -/
def execStoreReadDestWriteEnd (busError : Bool) (s : State) : Result :=
  match endAccess (BusAccess.isBuffer .destination) s with
  | none        => commit s s
  | some (_, t) =>
    if s.executor.phase = .reading ∧ s.executor.buf ≠ [] then
      if busError then commit s (finishExecutor .badAddress s.executor.detail s.executor.progress t)
      else commit s (serveStore (readPageWritten t))
    else commit s s

/-- STORE_ERASE (R195). -/
def execStoreErase (s : State) : Result :=
  onRecord .storeErase (fun r t => serveStore (eraseChecks (beginExecutor .storeErase r t))) s

/-- STORE_PROTECT (R198). The record's first block stands at offset 34; it is the block reported (R201; DESIGN CHOICE, log
entry 53). -/
def execStoreProtect (s : State) : Result :=
  onRecord .storeProtect (fun r t =>
    protectChecks ((beginExecutor .storeProtect r t).modExecutor fun x => { x with block := half r.bytes 34 })) s

/-- STORE_SURVEY (R199). -/
def execStoreSurvey (s : State) : Result :=
  onRecord .storeSurvey (fun r t => serveStore (surveyChecks (beginExecutor .storeSurvey r t))) s

/-- SURVEY_REPORT_WRITE_END (R200); a bus error ends the record with BadAddress (R186, R200), and no byte of the report
is written then (DESIGN CHOICE, log entry 48). -/
def execSurveyReportWriteEnd (busError : Bool) (s : State) : Result :=
  match endAccess (BusAccess.isBuffer .report) s with
  | none        => commit s s
  | some (_, t) =>
    if s.executor.phase = .reporting then
      if busError then commit s (finishExecutor .badAddress 0#32 s.executor.progress t) else commit s (reportDone t)
    else commit s s

end Sys2Proof.Machine
end

