-- ==== Sys2Proof/Machine/TurnSteps.lean ====
section
/-!
DEFINITION. The steps of the Turn-Ahead Unit (07, sections 7.5 and 7.6).
-/

namespace Sys2Proof.Machine

open Sys2Proof

/-- TURN_LOAD: accepted; from here on no turn starts (R131). -/
def execTurnLoad (s : State) : Result :=
  onRecord .turnLoad (fun r t => t.modTurn fun x => { x with load := some { record := r, reading := false } }) s

/-- The body is checked: Range, or the array's read, or for a count of 0 the list's replacement at once (R131,
R132). A body refused gives progress 0 (DESIGN CHOICE, log entry 58). -/
def checkTurnLoad (l : TurnLoad) (s : State) : State :=
  if turnBodyOk l.record.bytes then
    if byteAt l.record.bytes 36 = 0 then takeEntries l [] (markRunning .control l.record.addr s)
    else enqueue (.buffer .entryArray (wordNat l.record.bytes 32) (byteAt l.record.bytes 36 * 8))
      (s.modTurn fun t => { t with load := some { l with reading := true } })
  else endTurnLoad .range 0 s

/-- The read of a TURN_LOAD's entry array. -/
def BusAccess.isEntryArray : BusAccess → Bool
  | .buffer .entryArray _ _ => true
  | _                       => false

/-- TURN_LOAD_CHECK: no decode is in progress (R131). -/
def execTurnLoadCheck (s : State) : Result :=
  match s.turn.load with
  | none   => commit s s
  | some l => if l.reading || s.turn.decoding then commit s s else commit s (checkTurnLoad l s)

/-- TURN_LOAD_ARRAY_READ_END: the port ends the array's read (01 R8); Running is written and the entries are checked,
or a bus error ends the record with BadAddress (R131, R132, 01 R15), with progress 0 (DESIGN CHOICE, log entry 58). -/
def execTurnLoadArrayReadEnd (answer : BusRead) (s : State) : Result :=
  match s.turn.load, endAccess BusAccess.isEntryArray s with
  | some l, some (_, t) =>
    if l.reading then
      match answer with
      | .busError   => commit s (endTurnLoad .badAddress 0 t)
      | .data bytes => commit s (takeEntries l bytes (markRunning .control l.record.addr t))
    else commit s s
  | _, _ => commit s s

/-- A TURN_ARM accepted (R133). -/
def takeArm (r : RecordCopy) (s : State) : State :=
  if byteAt r.bytes 32 = 1 then
    completeRecord .control r.addr .ok 0#32 0 (s.modTurn fun t => { t with armed := true })
  else if byteAt r.bytes 32 = 0 then s.modTurn fun t => { t with armed := false, queue := [], arm := some r.addr }
  else completeRecord .control r.addr .range 0#32 0 s

/-- TURN_ARM (R133). -/
def execTurnArm (s : State) : Result := onRecord .turnArm takeArm s

/-- TURN_ARM_COMPLETE: the turn state is IDLE and the clearing TURN_ARM completes (R133). -/
def execTurnArmComplete (s : State) : Result :=
  match s.turn.arm with
  | none      => commit s s
  | some addr =>
    if s.turn.state = .idle then
      commit s (considerHead
        (completeRecord .control addr .ok 0#32 0 (s.modTurn fun t => { t with arm := none })))
    else commit s s

/-- The Store Reader has written a page; after the last one the turn is in CHECKING (R137). -/
def pageBuffered (data : List Byte) (s : State) : State :=
  let t := (s.modWm fun w => { w with decode := overlay w.decode (s.turn.written * 4096) data }).modTurn fun x =>
    { x with written := x.written + 1, arrived := x.arrived.tail }
  let u := if t.turn.arrived.isEmpty then wmDrop .storeReader t else wmRequest .storeReader t
  if u.turn.written < u.turn.extentCount then u
  else wmRequest .decoder (u.modTurn fun x => { x with state := .checking })

/-- TURN_PAGE_READ_END: a page is written into the decode buffer, or a failed read fails the turn (R137, R141). -/
def execTurnPageReadEnd (s : State) : Result :=
  if s.turn.state = .reading then
    match s.turn.arrived with
    | []             => commit s s
    | some data :: _ => if s.wm.serves then commit s (pageBuffered data s) else commit s s
    | none :: _      => commit s (settleAll (failTurn (wmDrop .storeReader s)))
  else commit s s

/-- TURN_IMAGE_CHECK_END: the header and the CRC pass and DECODING starts, or the turn fails (R138, R141). -/
def execTurnImageCheckEnd (s : State) : Result :=
  if s.turn.state = .checking ∧ s.wm.serves then
    if imageOk s.wm.decode s.turn.extentCount then
      commit s (wmRequest .decoder (s.modTurn fun t => { t with state := .decoding }))
    else commit s (settleAll (failTurn (wmDrop .decoder s)))
  else commit s s

/-- DECODE_END: exact, and the update is offered; or overflow or shortfall, and the turn fails (R139 to R141). -/
def execDecodeEnd (s : State) : Result :=
  if s.turn.state = .decoding ∧ s.wm.serves then
    let t := wmDrop .decoder (writeDecoded s)
    if decodeOk Config.panelPixels (imageCode s.wm.decode) then commit s (settleAll (beginOffer t))
    else commit s (settleAll (failTurn t))
  else commit s s

end Sys2Proof.Machine
end

