-- ==== Sys2Proof/Machine/WaveSteps.lean ====
section
/-!
DEFINITION. The steps of the Waveform Unit (05, section 5.3).
-/

namespace Sys2Proof.Machine

open Sys2Proof

/-- The extent a WAVEFORM_LOAD names is in range (R81 steps 1 and 2). -/
def loadInRange (b : List Byte) : Bool :=
  half b 32 ≤ 4095 && byteAt b 34 ≤ 63 && 1 ≤ half b 36 && half b 36 ≤ 256
    && half b 32 * 64 + byteAt b 34 + half b 36 ≤ 262144

/-- The load a record asks for, in LIST_WAIT (R81). -/
def loadOf (r : RecordCopy) : Load :=
  { addr := r.addr, block := half r.bytes 32, first := byteAt r.bytes 34, count := half r.bytes 36,
    stage := .listWait, progress := 0, detail := 0#32, needed := 0, page := none }

/-- The checks of R81 in order; a load that passes enters LIST_WAIT. -/
def loadChecks (r : RecordCopy) (s : State) : State :=
  if !loadInRange r.bytes then completeRecord .display r.addr .range 0#32 0 s
  else if s.power.forced then completeRecord .display r.addr .lowSupply 0#32 0 s
  else if s.panel.engine = .halted then completeRecord .display r.addr .panelHalted 0#32 0 s
  else s.modWave fun v => { v with load := some (loadOf r) }

/-- WAVEFORM_LOAD (R81). -/
def execWaveformLoad (s : State) : Result := onRecord .waveformLoad loadChecks s

/-- Change the load in progress. -/
def Wave.modLoad (v : Wave) (f : Load → Load) : Wave := { v with load := v.load.map f }

/-- WAVEFORM_LIST_EMPTY: LIST_WAIT passes to BANK_WAIT (R82). -/
def execWaveformListEmpty (s : State) : Result :=
  if s.wave.load.any (·.stage == .listWait) && s.panel.pending.isEmpty then
    commit s (s.modWave fun v => v.modLoad fun l => { l with stage := .bankWait })
  else commit s s

/-- The Waveform Loader asks the arbiter for the page it is at (R84). -/
def requestLoadPage (l : Load) (s : State) : State := serveStore (s.modStore fun st => { st with wf := some l.nextPage })

/-- WAVEFORM_BANK_FREE: the inactive bank is marked invalid and READING starts (R83, R84). -/
def execWaveformBankFree (s : State) : Result :=
  match s.wave.load with
  | none   => commit s s
  | some l =>
    if l.stage = .bankWait ∧ bankReferenced s.wave.active.other s = false then
      commit s (requestLoadPage l
        (s.modWave fun v => (v.setValid v.active.other false).modLoad fun l => { l with stage := .reading }))
    else commit s s

/-- After a page has been written: the header is checked after the first (R85), the next page is requested, or CHECKING
starts after the P-th (R84, R86). -/
def pageLoaded (s : State) : State :=
  match s.wave.load with
  | none   => s
  | some l =>
    let h := s.wm.header s.wave.active.other
    if l.progress = 1 ∧ headerOk h l.count = false then endLoad .badWaveform s
    else
      let p := if l.progress = 1 then setPages h else l.needed
      let t := s.modWave fun v => v.modLoad fun l => { l with needed := p }
      if l.progress < p then requestLoadPage l t
      else wmRequest .waveformLoader (t.modWave fun v => v.modLoad fun l => { l with stage := .checking })

/-- WAVEFORM_PAGE_WRITTEN: the page is in the bank and progress rises (R84). -/
def execWaveformPageWritten (s : State) : Result :=
  match s.wave.load with
  | none   => commit s s
  | some l =>
    match l.page with
    | none      => commit s s
    | some data =>
      if s.wm.serves then
        let t := wmDrop .waveformLoader
          (s.modWm fun w => w.writeBank s.wave.active.other (l.progress * 4096) data)
        commit s (pageLoaded (t.modWave fun v => v.modLoad fun l => { l with progress := l.progress + 1, page := none }))
      else commit s s

/-- WAVEFORM_CRC_CHECK_END: the flip on a match, BadWaveform on a mismatch (R86, R87, R88). -/
def execWaveformCrcCheckEnd (s : State) : Result :=
  if s.wave.load.any (·.stage == .checking) && s.wm.serves then
    let t := wmDrop .waveformLoader s
    commit s (if bankCrcOk t then endLoad .ok (flip t) else endLoad .badWaveform t)
  else commit s s

end Sys2Proof.Machine
end

