-- ==== Sys2Proof/Machine/Dispatch.lean ====
section
/-!
DEFINITION. One arm for each command: its meaning.
-/

namespace Sys2Proof.Machine

open Sys2Proof

def exec (i : Instr) (s : State) : Host.Outcome State Fault Refusal :=
  match i with
  | .attach => Sys2Proof.Machine.execAttach s
  | .detach => Sys2Proof.Machine.execDetach s
  | .engineReset => Sys2Proof.Machine.execEngineReset s
  | .waitingCommandTaken => Sys2Proof.Machine.execWaitingCommandTaken s
  | .anchorWrite value => Sys2Proof.Machine.execAnchorWrite value s
  | .nudge mask => Sys2Proof.Machine.execNudge mask s
  | .causeClear value => Sys2Proof.Machine.execCauseClear value s
  | .causemaskWrite value => Sys2Proof.Machine.execCausemaskWrite value s
  | .registerWriteOther offset width value => Sys2Proof.Machine.execRegisterWriteOther offset width value s
  | .fullReset => Sys2Proof.Machine.execFullReset s
  | .anchorBlockReadEnd answer => Sys2Proof.Machine.execAnchorBlockReadEnd answer s
  | .scanTick => Sys2Proof.Machine.execScanTick s
  | .recordReadEnd answer => Sys2Proof.Machine.execRecordReadEnd answer s
  | .heldRelease lane => Sys2Proof.Machine.execHeldRelease lane s
  | .linkReadEnd value => Sys2Proof.Machine.execLinkReadEnd value s
  | .recordHeaderWriteEnd busError => Sys2Proof.Machine.execRecordHeaderWriteEnd busError s
  | .detachFinalPage busError => Sys2Proof.Machine.execDetachFinalPage busError s
  | .statusPageWriteEnd busError => Sys2Proof.Machine.execStatusPageWriteEnd busError s
  | .pwmPeriodStart => Sys2Proof.Machine.execPwmPeriodStart s
  | .sweepTimerExpiry => Sys2Proof.Machine.execSweepTimerExpiry s
  | .conversionEnd raw => Sys2Proof.Machine.execConversionEnd raw s
  | .senseSetup => Sys2Proof.Machine.execSenseSetup s
  | .senseSetupApply => Sys2Proof.Machine.execSenseSetupApply s
  | .powerSetup => Sys2Proof.Machine.execPowerSetup s
  | .powerSleep => Sys2Proof.Machine.execPowerSleep s
  | .graceTimerExpiry => Sys2Proof.Machine.execGraceTimerExpiry s
  | .dozeTimerExpiry => Sys2Proof.Machine.execDozeTimerExpiry s
  | .wakeTimerExpiry => Sys2Proof.Machine.execWakeTimerExpiry s
  | .dozeDrainComplete => Sys2Proof.Machine.execDozeDrainComplete s
  | .deepEntryComplete => Sys2Proof.Machine.execDeepEntryComplete s
  | .wakingComplete => Sys2Proof.Machine.execWakingComplete s
  | .inputChange input level => Sys2Proof.Machine.execInputChange input level s
  | .debounceEnd input => Sys2Proof.Machine.execDebounceEnd input s
  | .refreshDue => Sys2Proof.Machine.execRefreshDue s
  | .burstEnd requests => Sys2Proof.Machine.execBurstEnd requests s
  | .refreshEnd requests => Sys2Proof.Machine.execRefreshEnd requests s
  | .selfRefreshEntry => Sys2Proof.Machine.execSelfRefreshEntry s
  | .memoryLeaveEnd => Sys2Proof.Machine.execMemoryLeaveEnd s
  | .initialisingEnd => Sys2Proof.Machine.execInitialisingEnd s
  | .waveformLoad => Sys2Proof.Machine.execWaveformLoad s
  | .waveformListEmpty => Sys2Proof.Machine.execWaveformListEmpty s
  | .waveformBankFree => Sys2Proof.Machine.execWaveformBankFree s
  | .waveformPageWritten => Sys2Proof.Machine.execWaveformPageWritten s
  | .waveformCrcCheckEnd => Sys2Proof.Machine.execWaveformCrcCheckEnd s
  | .panelUpdate => Sys2Proof.Machine.execPanelUpdate s
  | .imageCopyEnd image => Sys2Proof.Machine.execImageCopyEnd image s
  | .imageCopyBusError => Sys2Proof.Machine.execImageCopyBusError s
  | .frameTick => Sys2Proof.Machine.execFrameTick s
  | .frameScanEnd => Sys2Proof.Machine.execFrameScanEnd s
  | .retirePassEnd => Sys2Proof.Machine.execRetirePassEnd s
  | .clearingPassEnd => Sys2Proof.Machine.execClearingPassEnd s
  | .railGoodAssert => Sys2Proof.Machine.execRailGoodAssert s
  | .railGoodDeassert => Sys2Proof.Machine.execRailGoodDeassert s
  | .risingTimerExpiry => Sys2Proof.Machine.execRisingTimerExpiry s
  | .holdTimerExpiry => Sys2Proof.Machine.execHoldTimerExpiry s
  | .fallingTimerExpiry => Sys2Proof.Machine.execFallingTimerExpiry s
  | .panelStop => Sys2Proof.Machine.execPanelStop s
  | .panelResume => Sys2Proof.Machine.execPanelResume s
  | .panelResumeComplete => Sys2Proof.Machine.execPanelResumeComplete s
  | .panelSetup => Sys2Proof.Machine.execPanelSetup s
  | .turnLoad => Sys2Proof.Machine.execTurnLoad s
  | .turnLoadCheck => Sys2Proof.Machine.execTurnLoadCheck s
  | .turnLoadArrayReadEnd answer => Sys2Proof.Machine.execTurnLoadArrayReadEnd answer s
  | .turnArm => Sys2Proof.Machine.execTurnArm s
  | .turnArmComplete => Sys2Proof.Machine.execTurnArmComplete s
  | .turnPageReadEnd => Sys2Proof.Machine.execTurnPageReadEnd s
  | .turnImageCheckEnd => Sys2Proof.Machine.execTurnImageCheckEnd s
  | .decodeEnd => Sys2Proof.Machine.execDecodeEnd s
  | .lightSet => Sys2Proof.Machine.execLightSet s
  | .lightCurve => Sys2Proof.Machine.execLightCurve s
  | .rampTick => Sys2Proof.Machine.execRampTick s
  | .arrayPowerUpEnd => Sys2Proof.Machine.execArrayPowerUpEnd s
  | .arrayIdleTimerExpiry => Sys2Proof.Machine.execArrayIdleTimerExpiry s
  | .pageReadEnd page => Sys2Proof.Machine.execPageReadEnd page s
  | .rawReadEnd page => Sys2Proof.Machine.execRawReadEnd page s
  | .pageProgramEnd success => Sys2Proof.Machine.execPageProgramEnd success s
  | .eraseEnd success => Sys2Proof.Machine.execEraseEnd success s
  | .eraseSuspended => Sys2Proof.Machine.execEraseSuspended s
  | .markWriteEnd success => Sys2Proof.Machine.execMarkWriteEnd success s
  | .busyLimitExpiry => Sys2Proof.Machine.execBusyLimitExpiry s
  | .guardChange asserted => Sys2Proof.Machine.execGuardChange asserted s
  | .storeIngest => Sys2Proof.Machine.execStoreIngest s
  | .ingestVerifyEnd answer => Sys2Proof.Machine.execIngestVerifyEnd answer s
  | .ingestPageDataRead answer => Sys2Proof.Machine.execIngestPageDataRead answer s
  | .storeRead => Sys2Proof.Machine.execStoreRead s
  | .storeReadDestWriteEnd busError => Sys2Proof.Machine.execStoreReadDestWriteEnd busError s
  | .storeErase => Sys2Proof.Machine.execStoreErase s
  | .storeProtect => Sys2Proof.Machine.execStoreProtect s
  | .storeSurvey => Sys2Proof.Machine.execStoreSurvey s
  | .surveyReportWriteEnd busError => Sys2Proof.Machine.execSurveyReportWriteEnd busError s

end Sys2Proof.Machine
end

