-- ==== Sys2Proof/Machine/Step.lean ====
section
/-!
DEFINITION. One step: the command at the front of the queue. With nothing waiting the part idles (log entry 3).
-/

namespace Sys2Proof.Machine

open Sys2Proof

/-- The queue without its front. -/
def State.rest (s : State) : State := { s with pending := s.pending.tail }

/-- One step. -/
def step (s : State) : Host.Outcome State Fault Refusal :=
  match s.pending with
  | []     => .next s
  | c :: _ => exec c s.rest

/-- A command put at the front of the queue. -/
def State.withCommand (s : State) (c : Instr) : State := { s with pending := c :: s.pending }

/-- The command a table word spells put at the front of the queue; the table spells none (log entry 3). -/
def State.withFetchWord (s : State) (nbits w : Nat) : State :=
  match decodeTableWord nbits w with
  | some c => s.withCommand c
  | none   => s

end Sys2Proof.Machine
end

