-- ==== Sys2Proof/Safety.lean ====
section
/-!
DEFINITION. The terms the claims are stated in: what a step asks the bus master port for, and the invariants of the
part.
-/

namespace Sys2Proof.Machine

open Sys2Proof

/-! ## What a step asks the port for (01 R8) -/

/-- From waiting accesses `q` and transfers `r` under way, the port of `t` has been asked for the accesses `l`, in that
order and behind `q`, and then for page writes at most; a transfer at the head of the queue has joined those under
way. -/
def PortAsked (q r : List BusAccess) (t : State) (l : List BusAccess) : Prop :=
  ∃ rest, (∀ a ∈ rest, a = .statusPage ∨ a = .finalPage)
    ∧ t.bus.queue = (q ++ l ++ rest).dropWhile BusAccess.repeats
    ∧ t.bus.transfers = r ++ (q ++ l ++ rest).takeWhile BusAccess.repeats

/-- A step from `s` to `t` left `q` of the accesses that waited, and asked the port for `l` behind them. -/
def AsksAfter (s : State) (q : List BusAccess) (t : State) (l : List BusAccess) : Prop :=
  PortAsked q s.bus.transfers t l

/-- A step from `s` to `t` asked the port for `l`, and then for page writes at most. -/
def Asks (s t : State) (l : List BusAccess) : Prop := AsksAfter s s.bus.queue t l

/-- What the acceptance of a record asks for: the state word Taken, and the read of its link (01 R9, R11, R12). -/
def takenAccesses (k : Kind) (r : RecordCopy) (s : State) : List BusAccess :=
  [.stateWrite k.lane r.addr .taken, .linkRead k.lane (linkAddress k.lane s) .taken]

/-- What the completion of a record asks for: result, detail and progress, and the state word Done after them (01
R11). -/
def doneAccesses (i : LaneId) (addr : Word) (result : ResultCode) (detail : Word) (progress : Nat) :
    List BusAccess :=
  [.resultWrite i addr result detail progress, .stateWrite i addr .done]

/-- The completion of a record waits for the port: its result write, and somewhere behind it its Done write. -/
def Completing (t : State) (i : LaneId) (addr : Word) (result : ResultCode) (detail : Word) (progress : Nat) : Prop :=
  ∃ x y z, t.bus.queue = x ++ .resultWrite i addr result detail progress :: y ++ .stateWrite i addr .done :: z

/-- The record of kind `k` that its lane offers is `r`, its consumer can accept it, and no record is under way at its
address (01 R9, R10). -/
abbrev Ready (k : Kind) (r : RecordCopy) (s : State) : Prop :=
  offered k s = some r ∧ canAccept k s = true ∧ openEntry k.lane r.addr s = none

/-- The link once the record has its entry in the lane's table. -/
def takenLink (k : Kind) (r : RecordCopy) (s : State) : Link :=
  s.link.setLane k.lane fun l => { l with table := l.table ++ [newEntry r (some k)], copy := none }

/-- The record under way at an address can still be written. -/
abbrev Writable (i : LaneId) (addr : Word) (s : State) : Prop :=
  (openEntry i addr s).map (·.unwritable) = some false

/-- A change of an input's debounced state to a level is about to be found (07 R125). -/
abbrev Found (i : InputId) (level : Bool) (s : State) : Prop :=
  (s.keys.input i).measuring = some level ∧ (s.keys.input i).settled = true ∧ (s.keys.input i).debounced = !level

/-- The inputs whose presses are counted (07 R126). -/
def isKeyInput : InputId → Bool
  | .fwd | .back | .menu | .power => true
  | .cover | .charger => false

/-- The state once a change of a debounced state has been found, before anything is handed on: a press is counted and
restarts the doze inactivity timer where it runs, and in RUN it sets KEY and a cover change COVER (07 R125, R126; 03
R52). -/
def foundState (i : InputId) (level : Bool) (s : State) : State :=
  let press := level && isKeyInput i
  { s with
      keys := { s.keys.setInput i { s.keys.input i with debounced := level, settled := true, measuring := none } with
        countFwd := s.keys.countFwd + (if level && i == .fwd then 1#16 else 0#16),
        countBack := s.keys.countBack + (if level && i == .back then 1#16 else 0#16),
        countMenu := s.keys.countMenu + (if level && i == .menu then 1#16 else 0#16),
        countPower := s.keys.countPower + (if level && i == .power then 1#16 else 0#16) },
      power := { s.power with dozeTimer :=
        if press then s.power.dozeTimer.map fun _ => s.power.dozeTimeout else s.power.dozeTimer },
      regs := { s.regs with cause := s.regs.cause |||
        (if s.power.state = .run then
          (if press then causeBit keyCause else if i = .cover then causeBit coverCause else 0#13) else 0#13) } }

/-- One channel of the Sense Front End (02, section 2.1). -/
def Sense.channel (n : Sense) : ChannelId → Channel
  | .batt  => n.batt
  | .therm => n.therm
  | .amb   => n.amb

/-- The sweep period in force, in milliseconds (02 R23). -/
def sweepPeriod (s : State) : Nat :=
  match s.power.state with
  | .run | .waking => s.sense.runPeriod
  | .dozeEntry | .dozeQuiet | .dozeTurning | .deepEntry => s.sense.dozePeriod
  | .deep => s.sense.deepPeriod * 1000

/-- The three DOZE states (03, section 3.4). -/
abbrev InDoze (s : State) : Prop :=
  s.power.state = .dozeEntry ∨ s.power.state = .dozeQuiet ∨ s.power.state = .dozeTurning

/-- Nothing waits that the end of a step would take up: no pending update, no turn, no press, no descent that waits. -/
abbrev Quiet (s : State) : Prop :=
  s.panel.pending = [] ∧ s.turn.state = .idle ∧ s.turn.queue = [] ∧ s.power.descentPending = false

/-- The array is ON and serves nothing, and no other client waits for it (09 R167, R179). -/
abbrev ArrayFree (s : State) : Prop :=
  s.store.power = .on ∧ s.store.op = none ∧ s.store.erase = none ∧ s.store.ta = none ∧ s.store.wf = none
    ∧ s.store.ex = none

/-- The page of its extent that a turn in READING asks for as the request before it is granted (09 R179; log entry
28). -/
def nextTurnPage (t : Turn) : Option Nat :=
  if t.state = .reading ∧ t.nextPage < t.extentCount then some (t.extentFirst + t.nextPage) else none

/-- The turn once that page has been asked for. -/
def turnAsked (t : Turn) : Turn := { t with nextPage := t.nextPage + if (nextTurnPage t).isSome then 1 else 0 }

/-- What the Store Controller makes of a Waveform Loader's request for page `p` while the Turn-Ahead reader asks for
none: it waits while the array powers up or serves something else, it powers up an OFF array, and an ON array that
serves nothing reads the page (09 R167, R179). -/
def LoaderAsks (s : State) (p : Nat) (st : Store) : Prop :=
  (s.store.power = .poweringUp ∧ st = { s.store with wf := some p })
    ∨ (s.store.power = .off ∧ s.power.drainAsked = false
        ∧ st = { s.store with power := .poweringUp, idle := none, wf := some p })
    ∨ (s.store.power = .on ∧ s.store.op ≠ none ∧ st = { s.store with wf := some p })
    ∨ (s.store.power = .on ∧ s.store.op = none ∧ s.store.erase = none ∧ s.store.ta = none
        ∧ st = { s.store with op := some (.read .waveform p false), idle := none, wf := none })

/-- A snapshot is held only while a page write is the access being made (01 R17). -/
def SnapshotInUse (s : State) : Prop :=
  s.bus.snapshot ≠ none → ∃ q, s.bus.queue = .statusPage :: q ∨ s.bus.queue = .finalPage :: q

/-- The commands at which the main domain can be reset: Full Reset, Engine Reset, the entry to DEEP, and what wakes out
of DEEP (01 R6; 03 R46, R53, R58 to R60). -/
abbrev ResetsMain (c : Instr) : Prop :=
  c = .fullReset ∨ c = .engineReset ∨ c = .waitingCommandTaken ∨ c = .memoryLeaveEnd ∨ c = .attach
    ∨ c = .wakeTimerExpiry ∨ c = .deepEntryComplete ∨ ∃ i, c = .debounceEnd i

/-- Bytes of shared memory from an address on read as given, and every other byte as before. -/
def SharedWritten (s t : State) (addr : Nat) (bytes : List Byte) : Prop :=
  (∀ i, i < bytes.length → sparseGet (addr + i) t.shared = bytes[i]?)
    ∧ ∀ a, (a < addr ∨ addr + bytes.length ≤ a) → sparseGet a t.shared = sparseGet a s.shared

/-- Once a lane's table has become `m`, the records at its head that can retire have retired: the table is what stays,
the retired address and count follow, and DONE is set where one of them carries Notify (01 R16). `l` and `c` are the
lane and the causes before, `l'` and `c'` those after. -/
def RetiredFrom (i : LaneId) (m : List TakenEntry) (l l' : Lane) (c c' : BitVec 13) : Prop :=
  ∃ out, m = out ++ l'.table
    ∧ (∀ e, e ∈ out → e.done = true ∧ e.followed = true)
    ∧ (∀ e more, l'.table = e :: more → ¬ (e.done = true ∧ e.followed = true))
    ∧ l'.retiredCount = l.retiredCount + BitVec.ofNat 32 out.length
    ∧ l'.retiredAddr = (match out.getLast? with | some e => e.addr | none => l.retiredAddr)
    ∧ c' = if out.any (·.notify) then c ||| causeBit (laneDone i) else c

/-- The checks of 01 R3 on the Anchor Block `b` read at `addr`. -/
structure AnchorChecks (addr : Word) (b : List Byte) : Prop where
  aligned   : addr.toNat % 64 = 0
  signature : b.take 4 = [0x56#8, 0x4A#8, 0x41#8, 0x42#8]
  version   : half b 4 = 1
  window    : wordNat b 8 < wordNat b 12
  page      : wordNat b 16 % 64 = 0 ∧ wordNat b 8 ≤ wordNat b 16 ∧ wordNat b 16 + 256 ≤ wordNat b 12
  firsts    : wordNat b 20 % 128 = 0 ∧ wordNat b 24 % 128 = 0 ∧ wordNat b 28 % 128 = 0

/-- The first-record address of a lane in an Anchor Block (11, section 11.2). -/
def firstRecord (b : List Byte) : LaneId → Word
  | .display => word b 20
  | .store   => word b 24
  | .control => word b 28

/-! ## Canonical form -/

/-- A rectangle lies inside the panel. -/
def Rect.onPanel (r : Rect) : Prop := r.x + r.w ≤ 1600 ∧ r.y + r.h ≤ 1200

/-- Every list of keys and values is in its one canonical form, and every rectangle that drives one lies on the
panel. -/
structure Canonical (s : State) : Prop where
  shared : sparseWf s.shared = true
  pixels : sparseWf s.wm.panel = true
  slots  : sparseWf s.panel.slots = true
  blocks : sparseWf s.store.blocks = true
  blank  : ∀ e ∈ s.store.blocks, e.2 ≠ BlockEntry.blank
  array  : sparseWf s.store.array = true
  found  : ∀ e ∈ s.store.array, e.2 ≠ ArrayPage.found
  rects  : ∀ e ∈ s.panel.slots, e.2.eff.onPanel
  wants  : ∀ e ∈ s.panel.pending, e.rect.onPanel

/-! ## Bounds -/

/-- The light stays under the ceiling of the supply class, and its two duties fit the lit part of a PWM period (03
R43; 08 R154, R155, R157). -/
structure LightBounded (l : Light) (cls : SupplyClass) : Prop where
  manual  : l.manual ≤ 1000
  warmth  : l.warmth ≤ 100
  level   : l.level ≤ 1000
  target  : l.target ≤ lightCeiling cls
  output  : l.output ≤ lightCeiling cls
  duties  : l.warm + l.cool ≤ 3968
  latched : l.latchedWarm + l.latchedCool ≤ 3968

/-- Every list and counter of bounded capacity stays within it, and no two active slots have intersecting rectangles
(04 R70; 06 R99, R101, R116; 07 R129, R131). -/
structure WithinCapacity (s : State) : Prop where
  debt      : s.wm.debt ≤ 8
  pending   : s.panel.pending.length ≤ 16
  slots     : ∀ e ∈ s.panel.slots, e.1 < 8
  uncertain : s.panel.uncertain.length ≤ 8
  hold      : s.panel.holdTime ≤ 5000
  keys      : s.turn.queue.length ≤ 4
  entries   : s.turn.entries.length ≤ 24
  interval  : s.turn.interval ≤ 15
  load      : ∀ l, s.turn.load = some l → l.reading = true → turnBodyOk l.record.bytes = true
  apart     : ∀ a b, a ∈ s.panel.slots → b ∈ s.panel.slots → a.1 ≠ b.1 → a.2.eff.intersects b.2.eff = false

/-- A read that a lane takes its next record with. -/
def BusAccess.takesFor (i : LaneId) : BusAccess → Bool
  | .recordRead j _ => i == j
  | _               => false

/-- The reads of a lane's next record that wait for the port. -/
def recordReads (i : LaneId) (s : State) : Nat := (s.bus.queue.filter (BusAccess.takesFor i)).length

/-- The copy of a record that a lane holds. -/
def copies (i : LaneId) (s : State) : Nat := if (s.link.lane i).copy.isSome then 1 else 0

/-- What a lane and the port keep between them (01 R9, R10, R12 to R14): the taken-record table has room for the one
record that is being read or offered, and its link is read only once that record is in the table. -/
structure LaneAgrees (i : LaneId) (s : State) : Prop where
  room    : (s.link.lane i).table.length + recordReads i s + copies i s ≤ tableCapacity i
  one     : recordReads i s + copies i s ≤ 1
  links   : s.bus.queue.any (BusAccess.isLinkRead i) = true → recordReads i s + copies i s = 0
  held    : (s.link.lane i).state = .held → s.bus.queue.any (BusAccess.readsFor i) = false
  parked  : (s.link.lane i).state = .parked → recordReads i s + copies i s = 0
  stopped : (s.link.lane i).state = .stopped →
    s.bus.queue.any (BusAccess.readsFor i) = false ∧ copies i s = 0
  apart   : s.link.state ≠ .attached → (s.link.lane i).state = .detached ∨ (s.link.lane i).state = .stopped

/-- What the link and the port keep between them (01 R2, R3, R5): the Anchor Block is read for an Attach being carried
out, of which there is one at most, and no lane reads anything while the link is DETACHED or in FAULT, or once the last
page write of a DETACHING has been asked for. -/
structure LinkAgrees (s : State) : Prop where
  lanes  : ∀ i, LaneAgrees i s
  attach : s.link.attaching = true → s.link.state = .detached ∧ s.regs.attachWaits = false
  anchor : (s.bus.queue.filter BusAccess.isAnchorRead).length ≤ if s.link.attaching then 1 else 0
  still  : (s.link.state = .detached ∨ s.link.state = .fault ∨ .finalPage ∈ s.bus.queue) →
    ∀ i, s.bus.queue.any (BusAccess.readsFor i) = false
  final  : .finalPage ∈ s.bus.queue → s.link.state = .detaching

/-- A channel's trim, gain, filter exponent and filtered value lie in their ranges (02, section 2.1, R27 to R29). -/
structure Channel.InRange (c : Channel) : Prop where
  trimLow  : -256 ≤ c.trim
  trimHigh : c.trim ≤ 255
  gainLow  : 128 ≤ c.gain
  gainHigh : c.gain ≤ 511
  k        : c.k ≤ 4
  filtered : c.filtered ≤ 4095

/-- The channels, the sweep periods, the thermistor curve and the settings of the Power Controller lie in the ranges
their records are checked against (02 R36, R37; 03 R44). -/
structure SettingsInRange (s : State) : Prop where
  runPeriod  : 50 ≤ s.sense.runPeriod ∧ s.sense.runPeriod ≤ 5000
  dozePeriod : 250 ≤ s.sense.dozePeriod ∧ s.sense.dozePeriod ≤ 10000
  deepPeriod : 10 ≤ s.sense.deepPeriod ∧ s.sense.deepPeriod ≤ 600
  curve      : ∀ c, s.sense.curve = some c → c.length = 9 ∧ c.Pairwise (fun p q => p.1 < q.1)
    ∧ ∀ p ∈ c, p.1 ≤ 4095 ∧ -400 ≤ p.2 ∧ p.2 ≤ 1250
  thresholds : ∀ v ∈ [s.power.eReduced, s.power.xReduced, s.power.eCritical, s.power.xCritical, s.power.eExhausted,
    s.power.xExhausted], 1 ≤ v ∧ v ≤ 5118
  batt      : s.sense.batt.InRange
  therm     : s.sense.therm.InRange
  amb       : s.sense.amb.InRange
  order1    : s.power.eCritical < s.power.eReduced
  order2    : s.power.eExhausted < s.power.eCritical
  hyst1     : s.power.eReduced + 20 ≤ s.power.xReduced
  hyst2     : s.power.eCritical + 20 ≤ s.power.xCritical
  hyst3     : s.power.eExhausted + 20 ≤ s.power.xExhausted
  grace     : 1 ≤ s.power.graceTime ∧ s.power.graceTime ≤ 60
  doze      : 1 ≤ s.power.dozeTimeout ∧ s.power.dozeTimeout ≤ 240
  storeIdle : 10 ≤ s.power.storeIdle ∧ s.power.storeIdle ≤ 10000

/-- The items of the Power Controller go together: what runs or is remembered runs or is remembered in the power states
that use it, and VDD_MAIN is off in DEEP alone (03 R40, R49, R52, R55, R57, R61 to R63). -/
structure PowerConsistent (s : State) : Prop where
  grace    : s.power.graceTimer ≠ none → s.power.state = .run ∧ s.power.cls = .exhausted
  doze     : s.power.dozeTimer ≠ none → s.power.state = .dozeQuiet ∨ s.power.state = .dozeTurning
  wake     : s.power.wakeTimer ≠ none → s.power.state = .dozeQuiet ∨ s.power.state = .dozeTurning
    ∨ s.power.state = .deepEntry ∨ s.power.state = .deep
  drain    : s.power.drainAsked = true → (s.power.state = .dozeEntry ∨ s.power.state = .dozeTurning)
    ∧ s.turn.state = .idle ∧ s.turn.queue = []
  descent  : s.power.descentPending = true → s.power.state = .dozeTurning ∧ s.power.drainAsked = false
    ∧ s.turn.queue = []
  forced   : s.power.forced = true → s.power.state = .deepEntry
  remember : s.power.remembered ≠ none → s.power.state = .deepEntry ∨ s.power.descentPending = true
  reset    : s.power.resetPending = true → s.power.state = .waking ∧ s.wm.state = .leaving
  vddMain  : s.power.vddMain = false ↔ s.power.state = .deep

/-- While the main domain is powered, the pinned blocks agree with the level of GUARD (09 R173, R174). -/
def GuardAgrees (s : State) : Prop :=
  s.power.vddMain = true → ∀ e ∈ s.store.blocks,
    (s.pins.guard = true → e.2.prot ≠ .pinnedShut ∧ e.2.prot ≠ .pinnedOpen)
      ∧ (s.pins.guard = false → e.2.prot ≠ .pinned)

/-- An array operation made for the executor. -/
def forExecutor : ArrayOp → Prop
  | .read c _ _  => c = .executor
  | .raw ..      => True
  | .program ..  => True
  | .mark _      => True

/-- The executor has a request waiting, an erase under way, or an operation in flight. -/
def Store.outstanding (st : Store) : Prop := st.ex ≠ none ∨ st.erase ≠ none ∨ ∃ o, st.op = some o ∧ forExecutor o

/-- What the Store Controller and the executor keep between them. The executor has at most one request at the Store
Controller, and only in a phase that waits for it (10, section 10.1; R179). An erase request that waits, and an erase
whose mark check is being read, belong to an ERASING record and name a block that the turn-ahead list in force does not
name, unless its check is to be made again (R195, R196; 09 R177, log entry 27). A program in flight is at its block's
fill mark (09 R171, R176), and a raw read asked for or in flight is of a block that is UNKNOWN (R170, R176, R177). -/
structure StoreAgrees (s : State) : Prop where
  blocks  : sparseWf s.store.blocks = true
  flight  : ∀ o, s.store.op = some o → forExecutor o → s.store.ex = none ∧ s.store.erase = none
  erase   : s.store.erase ≠ none → s.store.ex = none
  phase   : s.store.outstanding → s.executor.phase ≠ .idle ∧ s.executor.phase ≠ .verifying
    ∧ s.executor.phase ≠ .reporting ∧ (s.executor.phase = .programming → s.executor.buf ≠ [])
    ∧ (s.executor.phase = .reading → s.executor.buf = [])
  request : ∀ b checked, s.store.ex = some (.erase b checked) →
    s.executor.phase = .erasing ∧ s.executor.block = b ∧ s.turn.names b = false
  check   : ∀ p second, s.store.op = some (.raw p .erase second) →
    s.executor.phase = .erasing ∧ (s.executor.recheck = false → s.turn.names s.executor.block = false)
  program : ∀ p d, s.store.op = some (.program p d) → (s.store.block (p / 64)).fill = .mark (p % 64)
  asked   : ∀ p why, s.store.ex = some (.raw p why) → (s.store.block (p / 64)).fill = .unknown
  raw     : ∀ p why second, s.store.op = some (.raw p why second) → (s.store.block (p / 64)).fill = .unknown

end Sys2Proof.Machine
end

