-- ==== Sys2Proof/WellFormed.lean ====
section
/-!
DEFINITION. What a command must satisfy to be one the part can receive: the checks that its type does not make.
-/

namespace Sys2Proof

/-- A page comes with all its data bytes, and an all-ones spare area reads all-ones in both fields (09 R164). -/
def RawPage.wellFormed (p : RawPage) : Bool :=
  p.data.length == 4096 && (!p.spareOnes || (p.pageCrc == 0xFFFFFFFF#32 && !p.retired))

/-- The answer of a read is as long as the range allows. -/
def BusRead.sized (lo hi : Nat) : BusRead → Bool
  | .data bytes => lo ≤ bytes.length && bytes.length ≤ hi
  | .busError   => true

/-- The entry array of a TURN_LOAD is a run of whole 8-byte entries (07, section 7.5). -/
def BusRead.wholeEntries : BusRead → Bool
  | .data bytes => bytes.length % 8 == 0
  | .busError   => true

/-- A register write that is none of the other register rows: narrow or unaligned, or at ID or an unused word, or
a CONTROL write whose code names no command (11 R202, 01 R2). -/
def otherRegisterWrite (offset width : Nat) (value : Word) : Bool :=
  offset < 32 && (width == 1 || width == 2 || width == 4) &&
    (width != 4 || offset % 4 != 0 || offset == 0x00 || offset == 0x18 || offset == 0x1C ||
      (offset == 0x08 && !(1 ≤ value.toNat % 256 && value.toNat % 256 ≤ 3)))

/-- The largest extent of a PANEL_UPDATE's image: 1200 rows of 1600 pixels at a stride of 65535 (06 R97). -/
def imageExtent : Nat := 1199 * 65535 + 1600

/-- The well-formed commands. -/
def Instr.wellFormed : Instr → Bool
  | .registerWriteOther o w v  => otherRegisterWrite o w v
  | .anchorBlockReadEnd a      => a.sized 64 64
  | .recordReadEnd a           => a.sized 128 128
  | .burstEnd rs               => decide rs.Nodup
  | .refreshEnd rs             => decide rs.Nodup
  | .imageCopyEnd image        => image.length ≤ imageExtent
  | .turnLoadArrayReadEnd a    => a.sized 8 192 && a.wholeEntries
  | .pageReadEnd p             => p.wellFormed
  | .rawReadEnd p              => p.wellFormed
  | .ingestVerifyEnd a         => a.sized 1 262144
  | .ingestPageDataRead a      => a.sized 1 4096
  | .attach | .detach | .engineReset | .waitingCommandTaken | .anchorWrite _ | .nudge _ | .causeClear _
  | .causemaskWrite _ | .fullReset | .scanTick | .heldRelease _ | .linkReadEnd _ | .recordHeaderWriteEnd _
  | .detachFinalPage _ | .statusPageWriteEnd _ | .pwmPeriodStart | .sweepTimerExpiry | .conversionEnd _ | .senseSetup
  | .senseSetupApply | .powerSetup | .powerSleep | .graceTimerExpiry | .dozeTimerExpiry | .wakeTimerExpiry
  | .dozeDrainComplete | .deepEntryComplete | .wakingComplete | .inputChange _ _ | .debounceEnd _ | .refreshDue
  | .selfRefreshEntry | .memoryLeaveEnd | .initialisingEnd | .waveformLoad | .waveformListEmpty | .waveformBankFree
  | .waveformPageWritten | .waveformCrcCheckEnd | .panelUpdate | .imageCopyBusError | .frameTick | .frameScanEnd
  | .retirePassEnd | .clearingPassEnd | .railGoodAssert | .railGoodDeassert | .risingTimerExpiry | .holdTimerExpiry
  | .fallingTimerExpiry | .panelStop | .panelResume | .panelResumeComplete | .panelSetup | .turnLoad | .turnLoadCheck
  | .turnArm | .turnArmComplete | .turnPageReadEnd | .turnImageCheckEnd | .decodeEnd | .lightSet | .lightCurve
  | .rampTick | .arrayPowerUpEnd | .arrayIdleTimerExpiry | .pageProgramEnd _ | .eraseEnd _ | .eraseSuspended
  | .markWriteEnd _ | .busyLimitExpiry | .guardChange _ | .storeIngest | .storeRead | .storeReadDestWriteEnd _
  | .storeErase | .storeProtect | .storeSurvey | .surveyReportWriteEnd _ => true

end Sys2Proof
end

