-- ==== Sys2Proof/Certificates/Slice0/Obligations.lean ====
section
/-!
DEFINITION. The statements for the provers, family by family of the command table, and then the rules of the whole
part. Where a statement lists the accesses one step asks for, their order is the model's (log entry 5). The statements
about undefined memory hold for every free value (log entry 9).
-/

open Sys2Proof Sys2Proof.Machine

/-! ## The queue (block row: a step takes the command in front) -/

/-- A step runs the command at the front of the queue on the state with the queue's rest, and with nothing waiting the
part idles (log entry 3). Every command answers a next state and leaves the queue of waiting commands alone: the spec
names no event that stops the part. How a command is answered that the state does not admit is log entry 2. The
model's own rule. -/
def Obligations.StepTakesFront : Prop :=
  (∀ s : State,
    (∀ c rest, s.pending = c :: rest → step s = exec c { s with pending := rest })
      ∧ (s.pending = [] → step s = .next s))
  ∧ ∀ (c : Instr) (s : State), ∃ t, exec c s = .next t ∧ t.pending = s.pending

/-! ## Register window and CONTROL (01, sections 1.1 and 1.8; 11, section 11.1) -/

/-- R1: a write to ANCHOR is stored in DETACHED and FAULT and ignored otherwise. R202: an aligned 32-bit write is
answered without an error. R18: a write to CAUSE clears the causes its ones name and leaves the others. R19: a write
to CAUSEMASK replaces the enabled set, and ATTN follows at once. R202, R1, R2: a narrow or unaligned write is answered
with an error and changes no register; a write to ID or an unused word, and a CONTROL code that names no command, are
ignored. That such a code takes no waiting place is log entry 16. -/
def Obligations.RegisterWritesAct : Prop :=
  (∀ (v : Word) (s : State), ∃ t, exec (.anchorWrite v) s = .next t ∧ Asks s t []
      ∧ t = { s with bus := t.bus, regs := { s.regs with slaveError := false, anchor :=
          if s.link.state = .detached ∨ s.link.state = .fault then v else s.regs.anchor } })
  ∧ (∀ (v : Word) (s : State),
      (∃ t, exec (.causeClear v) s = .next t ∧ Asks s t []
        ∧ t = { s with bus := t.bus, regs := { s.regs with slaveError := false, cause := t.regs.cause } }
        ∧ ∀ c, c < 13 → t.regs.cause.getLsbD c = (s.regs.cause.getLsbD c && !v.getLsbD c))
      ∧ (∃ t, exec (.causemaskWrite v) s = .next t ∧ Asks s t []
        ∧ t = { s with bus := t.bus, regs := { s.regs with slaveError := false, causemask := t.regs.causemask } }
        ∧ (∀ c, c < 13 → t.regs.causemask.getLsbD c = v.getLsbD c)
        ∧ (t.regs.attn = true ↔ ∃ c, c < 13 ∧ s.regs.cause.getLsbD c = true ∧ v.getLsbD c = true)))
  ∧ (∀ (offset width : Nat) (v : Word) (s : State), (Instr.registerWriteOther offset width v).wellFormed = true →
      ∃ t, exec (.registerWriteOther offset width v) s = .next t ∧ Asks s t []
        ∧ t = { s with bus := t.bus, regs := { s.regs with
            slaveError := decide (¬ (width = 4 ∧ offset % 4 = 0)) } })

/-- R13: a NUDGE write reads the link of each lane it names that is PARKED and sets the nudge flag of each that is
TAKING or HELD, while the link is ATTACHED; a scan tick reads the link of every PARKED lane. -/
def Obligations.NudgeAndScan : Prop :=
  ∀ (mask : Word) (s : State),
    (s.link.state = .attached → ∃ t, exec (.nudge mask) s = .next t
      ∧ t = { s with bus := t.bus, link := t.link, regs := { s.regs with slaveError := false } }
      ∧ (∀ i, t.link.lane i = { s.link.lane i with nudge := (s.link.lane i).nudge
          || (mask.getLsbD (laneBit i) && ((s.link.lane i).state == .taking || (s.link.lane i).state == .held)) })
      ∧ Asks s t (([LaneId.display, .store, .control].filter fun i =>
          mask.getLsbD (laneBit i) && (s.link.lane i).state == .parked).map fun i =>
            .linkRead i (linkAddress i s) .nudge))
    ∧ (s.link.state ≠ .attached → ∃ t, exec (.nudge mask) s = .next t ∧ Asks s t []
      ∧ t = { s with bus := t.bus, regs := { s.regs with slaveError := false } })
    ∧ (s.link.state = .attached → s.link.scanOn = true → ∃ t, exec .scanTick s = .next t
      ∧ t = { s with bus := t.bus }
      ∧ Asks s t (([LaneId.display, .store, .control].filter fun i => (s.link.lane i).state == .parked).map fun i =>
            .linkRead i (linkAddress i s) .tick))

/-- R2, R3, R20: an ATTACH in RUN with the link DETACHED or FAULT deasserts HOSTWAKE, and the Anchor Block is read at
the address that ANCHOR holds. R50, R53, R54: in the DOZE states it is a wake, its Attach waits for RUN, and HOSTWAKE
is deasserted. R57: in DEEP_ENTRY it is the wake remembered, where none is yet; that one absorbed behind a remembered
wake deasserts HOSTWAKE and leaves its Attach waiting too is the model's reading (log entry 38). R59, R60: in DEEP it
is a wake with its Attach waiting and the main domain brought up as after Engine Reset, and under Exhausted it is
ignored whole. R54: in WAKING no wake is made and the Attach waits. R2, R5: a DETACH with the link ATTACHED makes it
DETACHING: the scan tick stops, every lane that is not STOPPED takes the lane state DETACHED and keeps its cursor;
with the link in FAULT it leads to DETACHED; and it withdraws an Attach that waits, which with the link DETACHED is
all it does. R2: while an Attach is carried out one CONTROL write waits, and one that finds another waiting is
ignored, also between the end of the Attach and the take of the write that waits. That a link in FAULT is DETACHED
while its Attach waits is log entry 17. -/
def Obligations.AttachAndDetachTaken : Prop :=
  (∀ s : State, s.link.attaching = false → s.regs.waiting = none →
      (s.link.state = .detached ∨ s.link.state = .fault) →
      (s.power.state = .run → ∃ t, exec .attach s = .next t
        ∧ t = { s with bus := t.bus, link := { s.link with state := .detached, attaching := true },
                       regs := { s.regs with slaveError := false, hostwake := false, attachWaits := false } }
        ∧ Asks s t [.anchorRead s.regs.anchor])
      ∧ (InDoze s → s.power.descentPending = false →
        ∃ t, exec .attach s = .next t ∧ t.power.state = .waking ∧ t.power.wakeReason = .attach
          ∧ t.regs.attachWaits = true ∧ t.regs.hostwake = false ∧ t.link.state = .detached
          ∧ t.regs.cause = s.regs.cause ||| causeBit wakeCause ∧ t.panel.pending = s.panel.pending
          ∧ t.panel.slots = s.panel.slots ∧ t.power.dozeTimer = none ∧ t.power.wakeTimer = none
          ∧ (s.wm.state = .selfRefresh → t.wm = { s.wm with state := .leaving })
          ∧ t.turn = s.turn ∧ t.wm.panel = s.wm.panel ∧ t.store = s.store)
      ∧ (s.power.state = .deepEntry → ∃ t, exec .attach s = .next t ∧ Asks s t []
        ∧ t = { s with bus := t.bus, link := { s.link with state := .detached },
                       regs := { s.regs with slaveError := false, hostwake := false, attachWaits := true },
                       power := { s.power with remembered := s.power.remembered.or (some .attach) } })
      ∧ (s.power.state = .waking → ∃ t, exec .attach s = .next t ∧ Asks s t []
        ∧ t = { s with bus := t.bus, link := { s.link with state := .detached },
                       regs := { s.regs with slaveError := false, hostwake := false, attachWaits := true } })
      ∧ (s.power.state = .deep → s.power.cls ≠ .exhausted → ∃ t, exec .attach s = .next t
        ∧ t.power = { s.power with state := .waking, wakeReason := .attach, wakeTimer := none, remembered := none,
                                   vddMain := true }
        ∧ t.regs = { s.regs with slaveError := false, hostwake := false, attachWaits := true,
                                 cause := s.regs.cause ||| causeBit wakeCause }
        ∧ t.link.state = .detached ∧ t.link.attaching = false ∧ t.wm = WorkMem.initialising (s.wm.epoch + 1)
        ∧ t.wave.validA = false ∧ t.wave.validB = false ∧ t.panel.engine = .off ∧ t.panel.slots = []
        ∧ t.panel.known = false ∧ t.turn.entries = [] ∧ t.store.power = .off
        ∧ (∀ b, t.store.block b = { fill := .unknown, prot := .locked }) ∧ t.light = s.light ∧ t.keys = s.keys
        ∧ t.shared = s.shared)
      ∧ (s.power.state = .deep → s.power.cls = .exhausted → ∃ t, exec .attach s = .next t ∧ Asks s t []
        ∧ t = { s with bus := t.bus, regs := { s.regs with slaveError := false } }))
  ∧ (∀ s : State,
      (s.link.attaching = false → s.regs.waiting = none → Quiet s → s.panel.engine ≠ .halted →
        (s.link.state = .attached → ∃ t, exec .detach s = .next t
          ∧ t = { s with bus := t.bus, link := t.link,
                         regs := { s.regs with slaveError := false, attachWaits := false } }
          ∧ t.link.state = .detaching ∧ t.link.scanOn = false
          ∧ ∀ i, (t.link.lane i).cursor = (s.link.lane i).cursor ∧ (t.link.lane i).table = (s.link.lane i).table
              ∧ (t.link.lane i).state = if (s.link.lane i).state = .stopped then .stopped else .detached)
        ∧ (s.link.state = .fault → ∃ t, exec .detach s = .next t
          ∧ t = { s with bus := t.bus, link := { s.link with state := .detached },
                         regs := { s.regs with slaveError := false, attachWaits := false } })
        ∧ (s.link.state = .detached → ∃ t, exec .detach s = .next t ∧ Asks s t []
          ∧ t = { s with bus := t.bus, regs := { s.regs with slaveError := false, attachWaits := false } }))
      ∧ (∀ c x, ((c = Instr.attach ∧ x = ControlCommand.attach) ∨ (c = .detach ∧ x = .detach)
            ∨ (c = .engineReset ∧ x = .engineReset)) → Quiet s → (s.link.attaching = true ∨ s.regs.waiting ≠ none) →
          ∃ t, exec c s = .next t ∧ Asks s t []
        ∧ t = { s with bus := t.bus,
                       regs := { s.regs with slaveError := false, waiting := s.regs.waiting.or (some x) } }))

/-- R2, R6, R46, R67: an ENGINE_RESET in RUN puts the main domain at its Engine Reset values and keeps the causes,
CAUSEMASK, ANCHOR, HOSTWAKE, the supply class, the power setup, the wake reason, the light, the keys and the sense
values. R23: a sweep that a dropped SENSE_SETUP held back starts. R50, R53, R54: in DOZE_QUIET and DOZE_TURNING it is
a wake, and its reset is made at once, or, where the memory is in self-refresh, once that has been left; in the other
power states it is ignored. The empty port, the SENSE_SETUP that is dropped, and the Waveform Unit reset at once and
not at the contents-lost event, are the model's reading (log entries 13, 20, 36). -/
def Obligations.EngineResetTaken : Prop :=
  ∀ s : State, s.link.attaching = false → s.regs.waiting = none →
  ((s.power.state = .run → ∃ t, exec .engineReset s = .next t
    ∧ t.regs = { s.regs with slaveError := false } ∧ t.light = s.light ∧ t.keys = s.keys ∧ t.pins = s.pins
    ∧ t.shared = s.shared
    ∧ ((s.sense.sweep ≠ none ∨ (s.sense.remembered = false ∧ s.sense.fullDue = false)) →
        t.sense = { s.sense with setup := none })
    ∧ (s.sense.sweep = none → (s.sense.remembered = true ∨ s.sense.fullDue = true) →
        t.sense = { s.sense with
          setup := none, remembered := false, fullDue := false, timer := some s.sense.runPeriod,
          sweep := some { full := true, chan := .batt, stage := .zero, zero := 0 } })
    ∧ t.power = { s.power with dozeTimer := none, wakeTimer := none, forced := false, remembered := none,
                               resetPending := false, drainAsked := false, descentPending := false }
    ∧ t.link.state = .detached ∧ t.link.scanOn = false ∧ t.link.attaching = false ∧ t.bus.queue = [] ∧ t.bus.transfers = []
    ∧ (∀ i, (t.link.lane i).state = .detached ∧ (t.link.lane i).table = [] ∧ (t.link.lane i).nudge = false
        ∧ (t.link.lane i).retiredCount = 0#32 ∧ (t.link.lane i).retiredAddr = 0#32)
    ∧ t.wm.state = .initialising ∧ t.wm.debt = 0 ∧ t.wm.rr = .storeReader ∧ t.wm.waiting = [] ∧ t.wm.running = none
    ∧ t.wave.validA = false ∧ t.wave.validB = false ∧ t.wave.active = .a ∧ t.wave.range = none ∧ t.wave.load = none
    ∧ t.panel.engine = .off ∧ t.panel.pending = [] ∧ t.panel.slots = [] ∧ t.panel.known = false
    ∧ t.panel.uncertain = [] ∧ t.panel.holdTime = 500 ∧ t.panel.stops = []
    ∧ t.turn.entries = [] ∧ t.turn.queue = [] ∧ t.turn.armed = false ∧ t.turn.state = .idle
    ∧ t.turn.frameA = .free ∧ t.turn.frameB = .free
    ∧ (∀ b, t.store.block b = { fill := .unknown, prot := .locked }) ∧ t.store.power = .off ∧ t.store.op = none
    ∧ t.store.erase = none ∧ t.store.idleTime = s.power.storeIdle ∧ t.executor.phase = .idle)
  ∧ ((s.power.state = .dozeQuiet ∨ s.power.state = .dozeTurning) → s.power.descentPending = false →
    (s.wm.state = .selfRefresh → ∃ t, exec .engineReset s = .next t
      ∧ t = { s with bus := t.bus, wm := { s.wm with state := .leaving }, panel := { s.panel with flushed := false },
                     sense := { s.sense with timer := some s.sense.runPeriod },
                     regs := { s.regs with slaveError := false, hostwake := true,
                                           cause := s.regs.cause ||| causeBit wakeCause },
                     power := { s.power with state := .waking, wakeReason := .engineReset, dozeTimer := none,
                                             wakeTimer := none, drainAsked := false, resetPending := true } })
    ∧ ((s.wm.state = .active ∨ s.wm.state = .entering ∨ s.wm.state = .initialising) → ∃ t,
      exec .engineReset s = .next t
      ∧ t.regs = { s.regs with slaveError := false, hostwake := true, cause := s.regs.cause ||| causeBit wakeCause }
      ∧ t.power.state = .waking ∧ t.power.wakeReason = .engineReset ∧ t.power.resetPending = false
      ∧ t.power.dozeTimer = none ∧ t.power.wakeTimer = none ∧ t.wm = WorkMem.initialising (s.wm.epoch + 1)
      ∧ t.link.state = .detached ∧ t.bus.queue = [] ∧ t.bus.transfers = [] ∧ t.wave.validA = false ∧ t.wave.validB = false
      ∧ t.panel.engine = .off ∧ t.panel.pending = [] ∧ t.panel.slots = [] ∧ t.panel.known = false
      ∧ t.turn.entries = [] ∧ t.turn.state = .idle ∧ t.executor.phase = .idle ∧ t.store.power = .off
      ∧ (∀ b, t.store.block b = { fill := .unknown, prot := .locked }) ∧ t.light = s.light ∧ t.keys = s.keys
      ∧ t.shared = s.shared))
  ∧ ((s.power.state = .dozeEntry ∨ s.power.state = .deepEntry ∨ s.power.state = .deep ∨ s.power.state = .waking) →
    ∃ t, exec .engineReset s = .next t ∧ Asks s t []
      ∧ t = { s with bus := t.bus, regs := { s.regs with slaveError := false } }))

/-- R2: a CONTROL write that waits is taken once the command before it is finished, and it then acts as the command
does. When the command before it is finished is log entry 15. -/
def Obligations.WaitingCommandActs : Prop :=
  ∀ (s : State) (c : ControlCommand), s.regs.waiting = some c → s.link.attaching = false → s.power.state = .run →
    Quiet s → ∃ t u, exec .waitingCommandTaken s = .next t ∧ t.regs.waiting = none
      ∧ exec (match c with | .attach => .attach | .detach => .detach | .engineReset => .engineReset)
          { s with regs := { s.regs with waiting := none } } = .next u
      ∧ t = { u with regs := { u.regs with slaveError := s.regs.slaveError } }

/-- R1, R6, R20, R38, R46, R67, R80, R121, R125, R130, R148, R182: what Full Reset leaves. What lies outside the part
stays as it is: the levels at its pins, shared memory, and the array apart from the targets of abandoned operations.
The empty port is the model's choice (log entry 13). -/
def Obligations.FullResetTaken : Prop :=
  ∀ s : State, ∃ t, exec .fullReset s = .next t ∧ t.pins = s.pins ∧ t.shared = s.shared
    ∧ ((∀ p d, s.store.op ≠ some (.program p d)) → (∀ b, s.store.op ≠ some (.mark b)) → s.store.erase = none →
        t.store.array = s.store.array)
    ∧ t.regs.anchor = 0#32 ∧ t.regs.cause = 0#13 ∧ t.regs.causemask = 0#13 ∧ t.regs.hostwake = false
    ∧ t.regs.waiting = none
    ∧ t.link.state = .detached ∧ t.link.scanOn = false ∧ t.bus.queue = [] ∧ t.bus.transfers = []
    ∧ (∀ i, (t.link.lane i).state = .detached ∧ (t.link.lane i).table = [] ∧ (t.link.lane i).nudge = false
        ∧ (t.link.lane i).retiredAddr = 0#32 ∧ (t.link.lane i).retiredCount = 0#32)
    ∧ t.power.state = .run ∧ t.power.cls = .normal ∧ t.power.seen = false ∧ t.power.wakeReason = .none
    ∧ t.power.eReduced = 3500 ∧ t.power.xReduced = 3600 ∧ t.power.eCritical = 3400 ∧ t.power.xCritical = 3500
    ∧ t.power.eExhausted = 3300 ∧ t.power.xExhausted = 3450 ∧ t.power.graceTime = 10 ∧ t.power.dozeTimeout = 30
    ∧ t.power.storeIdle = 200 ∧ t.power.coverAction = .deepOnClose ∧ t.power.graceTimer = none
    ∧ t.power.dozeTimer = none ∧ t.power.wakeTimer = none ∧ t.power.wakeSetting = 0 ∧ t.power.forced = false
    ∧ t.power.remembered = none ∧ t.power.vddMain = true
    ∧ t.sense.runPeriod = 100 ∧ t.sense.dozePeriod = 1000 ∧ t.sense.deepPeriod = 60 ∧ t.sense.temperature = none
    ∧ t.sense.battery = 0 ∧ t.sense.ambient = 0 ∧ t.sense.curve = none ∧ t.sense.thermFault = false
    ∧ t.sense.shown.temperature = none ∧ t.sense.shown.battery = 0 ∧ t.sense.shown.ambient = 0
    ∧ t.sense.shown.thermFault = false
    ∧ (∀ i, t.sense.channel i = { mode := .auto, trim := 0, gain := 256, k := 2, filtered := 0, seed := true })
    ∧ t.sense.sweep = some { full := true, chan := .batt, stage := .zero, zero := 0 } ∧ t.sense.timer = some 100
    ∧ t.sense.remembered = false
    ∧ t.wm.state = .initialising ∧ t.wm.debt = 0 ∧ t.wm.rr = .storeReader ∧ t.wm.waiting = [] ∧ t.wm.running = none
    ∧ t.wave.validA = false ∧ t.wave.validB = false ∧ t.wave.active = .a ∧ t.wave.range = none ∧ t.wave.period = 0
    ∧ t.wave.load = none
    ∧ t.panel.engine = .off ∧ t.panel.known = false ∧ t.panel.slots = [] ∧ t.panel.pending = []
    ∧ t.panel.uncertain = [] ∧ t.panel.holdTime = 500 ∧ t.panel.stops = []
    ∧ t.turn.entries = [] ∧ t.turn.cursor = 0 ∧ t.turn.queue = [] ∧ t.turn.armed = false ∧ t.turn.interval = 0
    ∧ t.turn.counter = 0 ∧ t.turn.owed = false ∧ t.turn.frameA = .free ∧ t.turn.frameB = .free
    ∧ t.turn.state = .idle
    ∧ t.light.mode = .off ∧ t.light.manual = 0 ∧ t.light.bias = 0 ∧ t.light.warmth = 50 ∧ t.light.step = 10
    ∧ t.light.curve = [] ∧ t.light.held = none ∧ t.light.level = 0 ∧ t.light.target = 0 ∧ t.light.output = 0
    ∧ t.light.fade = false ∧ t.light.latchedWarm = 0 ∧ t.light.latchedCool = 0
    ∧ (∀ b, t.store.block b = { fill := .unknown, prot := .locked }) ∧ t.store.power = .off ∧ t.store.op = none
    ∧ t.store.erase = none ∧ t.store.idle = none ∧ t.store.idleTime = 200
    ∧ t.executor.phase = .idle ∧ t.executor.kind = none
    ∧ (∀ i, (t.keys.input i).level = (s.keys.input i).level ∧ (t.keys.input i).settled = false
        ∧ (t.keys.input i).debounced = false)
    ∧ t.keys.countFwd = 0#16 ∧ t.keys.countBack = 0#16 ∧ t.keys.countMenu = 0#16 ∧ t.keys.countPower = 0#16

/-! ## Link Engine (01, sections 1.2 to 1.7) -/

/-- R3, R4: an Anchor Block that passes every check makes the link ATTACHED, latches its values, and starts each lane:
PARKED on the Anchor Block where its first-record address is 0, TAKING at its first record where that lies in the
window, STOPPED where it does not; the Status Page is asked for, with a write count of 1. R3: an Anchor Block that
fails a check, or whose read ends in a bus error, makes the link FAULT; no lane runs, no page is written and no cause
is set. The stopping-record address 0 of a lane that has not stopped is the model's choice (log entry 13). -/
def Obligations.AnchorReadOutcome : Prop :=
  (∀ (s : State) (a : Word) (q : List BusAccess) (b : List Byte), s.bus.queue = .anchorRead a :: q →
      AnchorChecks a b → s.power.state = .run → .finalPage ∉ q → ∃ t,
        exec (.anchorBlockReadEnd (.data b)) s = .next t
        ∧ t.link.state = .attached ∧ t.link.attaching = false ∧ t.link.low = word b 8 ∧ t.link.high = word b 12
        ∧ t.link.statusAddr = word b 16 ∧ t.link.scanPeriod = byteAt b 6 ∧ t.link.scanOn = decide (byteAt b 6 ≠ 0)
        ∧ (∀ i, (t.link.lane i).table = [] ∧ (t.link.lane i).retiredAddr = 0#32 ∧ (t.link.lane i).retiredCount = 0#32
            ∧ (t.link.lane i).nudge = false ∧ (t.link.lane i).cursor = firstRecord b i ∧ (t.link.lane i).stopAddr = 0#32
            ∧ (t.link.lane i).state =
                if firstRecord b i = 0#32 then .parked
                else if wordNat b 8 ≤ (firstRecord b i).toNat ∧ (firstRecord b i).toNat + 128 ≤ wordNat b 12 then .taking
                else .stopped)
        ∧ .statusPage ∈ t.bus.queue ∧ (q = [] → t.bus.writeCount = 1#32)
        ∧ t.regs.causemask = s.regs.causemask ∧ t.regs.anchor = s.regs.anchor ∧ t.panel = s.panel ∧ t.shared = s.shared)
  ∧ (∀ (s : State) (a : Word) (q : List BusAccess) (answer : BusRead), s.bus.queue = .anchorRead a :: q →
      s.link.state = .detached → (∀ b, answer = .data b → ¬ AnchorChecks a b) → ∃ t,
        exec (.anchorBlockReadEnd answer) s = .next t ∧ AsksAfter s q t []
        ∧ t = { s with bus := t.bus, link := { s.link with state := .fault, attaching := false } })

/-- R9, R10, R14: the record a lane in TAKING has read: refused with UnknownKind or BadAddress, kept for its consumer,
which accepts it in a later step (log entry 29), held where the consumer cannot accept it, or, after a bus error, the
end of the lane, whose further reads are not made. The entry of a refused record, and of one whose read ended in a bus
error, is marked Done when its Done write ends, and not yet here: log entry 7. -/
def Obligations.RecordReadOutcome : Prop :=
  ∀ (s : State) (i : LaneId) (a : Word) (q : List BusAccess) (b : List Byte), s.bus.queue = .recordRead i a :: q →
    (s.link.lane i).state = .taking → s.link.state = .attached →
    (∀ res, ((res = .unknownKind ∧ ∀ k, kindOfCode (half b 4) = some k → k.lane ≠ i)
        ∨ (res = .badAddress ∧ ∃ k x n, kindOfCode (half b 4) = some k ∧ k.lane = i
            ∧ ({ addr := a, bytes := b } : RecordCopy).buffer k = some (x, n)
            ∧ ¬ (s.link.low.toNat ≤ x ∧ x + n ≤ s.link.high.toNat))) →
      ∃ t, exec (.recordReadEnd (.data b)) s = .next t
        ∧ t = { s with bus := t.bus, link := s.link.setLane i fun l => { l with copy := none, table := l.table ++
            [{ addr := a, notify := bitAt b 6 0, kind := none, done := false, followed := false,
               unwritable := false }] } }
        ∧ AsksAfter s q t (doneAccesses i a res 0#32 0 ++ [.linkRead i (linkAddress i s) .taken]))
    ∧ (∀ k, kindOfCode (half b 4) = some k → k.lane = i →
        (∀ x n, ({ addr := a, bytes := b } : RecordCopy).buffer k = some (x, n) →
          s.link.low.toNat ≤ x ∧ x + n ≤ s.link.high.toNat) →
      ∃ t, exec (.recordReadEnd (.data b)) s = .next t ∧ AsksAfter s q t []
        ∧ t = { s with bus := t.bus, link := s.link.setLane i fun l => { l with
            copy := some { addr := a, bytes := b }, state := if canAccept k s then .taking else .held } })
    ∧ (∃ t, exec (.recordReadEnd .busError) s = .next t
        ∧ t = { s with bus := t.bus, regs := { s.regs with cause := s.regs.cause ||| causeBit laneStopped },
                       link := s.link.setLane i fun l => { l with
                         state := .stopped, stopAddr := a, copy := none,
                         table := l.table ++ [{ addr := a, notify := false, kind := none, done := false,
                                                followed := false, unwritable := false }] } }
        ∧ AsksAfter s (q.filter fun y => !y.readsFor i) t (doneAccesses i a .badRecord 0#32 0))

/-- R10: a HELD lane returns to TAKING with the copy it keeps once its consumer can accept it, the acceptance being a
later step (log entry 29), or reads the record under its cursor once its table has a free entry. -/
def Obligations.HeldLaneResumes : Prop :=
  ∀ (s : State) (i : LaneId), (s.link.lane i).state = .held →
    (∀ r k, (s.link.lane i).copy = some r → kindOfCode r.kindCode = some k → canAccept k s = true →
      ∃ t, exec (.heldRelease i) s = .next t ∧ Asks s t []
        ∧ t = { s with bus := t.bus, link := s.link.setLane i fun l => { l with state := .taking } })
    ∧ ((s.link.lane i).copy = none → (s.link.lane i).table.length < tableCapacity i →
        s.link.low.toNat ≤ (s.link.lane i).cursor.toNat →
        (s.link.lane i).cursor.toNat + 128 ≤ s.link.high.toNat →
      ∃ t, exec (.heldRelease i) s = .next t ∧ Asks s t [.recordRead i (s.link.lane i).cursor]
        ∧ t = { s with bus := t.bus, link := s.link.setLane i fun l => { l with state := .taking } })

/-- R12, R13, R14, R16: a link of 0 parks the lane, and is read once more where its nudge flag is set; a link that is
not a multiple of 128 or names a record outside the window stops it, and it reads no more; a link that passes is
followed in the entry it was read from, which may retire it and more, moves the cursor, drops the lane's other link
reads, and the lane comes to take the record, unless its table is full. -/
def Obligations.LinkReadOutcome : Prop :=
  ∀ (s : State) (i : LaneId) (a : Word) (why : LinkReadWhy) (q : List BusAccess),
    s.bus.queue = .linkRead i a why :: q → s.link.state = .attached → (s.link.lane i).state ≠ .stopped →
    (∃ t, exec (.linkReadEnd 0#32) s = .next t
      ∧ t = { s with bus := t.bus, link := s.link.setLane i fun l => { l with state := .parked, nudge := false } }
      ∧ AsksAfter s q t (if (s.link.lane i).nudge then [.linkRead i (linkAddress i s) .taken] else []))
    ∧ (∀ v, v ≠ 0#32 → (v.toNat % 128 ≠ 0 ∨ v.toNat < s.link.low.toNat ∨ s.link.high.toNat < v.toNat + 128) →
      ∃ t, exec (.linkReadEnd v) s = .next t ∧ AsksAfter s (q.filter fun y => !y.readsFor i) t []
        ∧ t = { s with bus := t.bus, regs := { s.regs with cause := s.regs.cause ||| causeBit laneStopped },
                       link := s.link.setLane i fun l =>
                         { l with state := .stopped, stopAddr := l.cursor, copy := none } })
    ∧ (∀ v, v ≠ 0#32 → v.toNat % 128 = 0 → s.link.low.toNat ≤ v.toNat → v.toNat + 128 ≤ s.link.high.toNat →
      ∀ m, (((s.link.lane i).cursor = 0#32 ∧ m = (s.link.lane i).table)
          ∨ ((s.link.lane i).cursor ≠ 0#32 ∧ ∃ old e, (s.link.lane i).table = old ++ [e]
              ∧ e.addr = (s.link.lane i).cursor ∧ m = old ++ [{ e with followed := true }])) →
      ∃ t, exec (.linkReadEnd v) s = .next t
        ∧ RetiredFrom i m (s.link.lane i) (t.link.lane i) s.regs.cause t.regs.cause
        ∧ t = { s with bus := t.bus, regs := { s.regs with cause := t.regs.cause },
                       link := s.link.setLane i fun l => { l with
                         state := if (t.link.lane i).table.length < tableCapacity i then .taking else .held,
                         cursor := v, copy := none, table := (t.link.lane i).table,
                         retiredAddr := (t.link.lane i).retiredAddr, retiredCount := (t.link.lane i).retiredCount,
                         nudge := l.nudge || (l.state != .detached && q.any fun y => y.isNudgeRead i) } }
        ∧ AsksAfter s (q.filter fun y => !y.isLinkRead i) t
            (if (t.link.lane i).table.length < tableCapacity i then [.recordRead i v] else []))

/-- R11, R14, R15, R16: the end of a write into a record's header. A state word, or the result, detail and progress,
reach shared memory; a Done write marks the entry Done, and every record at the head of the table that is Done with
its link followed retires. A bus error writes nothing and stops the lane, which then reads no record and no link; the
record is written no more, and a Done that was being written or waits counts as Done. When a refused record becomes
Done is log entry 7; that no byte stands written after a bus error is log entry 48. -/
def Obligations.HeaderWriteOutcome : Prop :=
  ∀ (s : State) (i : LaneId) (a : Word) (q : List BusAccess), sparseWf s.shared = true →
    (∀ x, s.bus.queue = .stateWrite i a x :: q → x ≠ .done → ∃ t, exec (.recordHeaderWriteEnd false) s = .next t
      ∧ t = { s with bus := t.bus, shared := t.shared } ∧ AsksAfter s q t []
      ∧ SharedWritten s t (a.toNat + 16) [BitVec.ofNat 8 x.code, 0#8])
    ∧ (∀ res detail progress, s.bus.queue = .resultWrite i a res detail progress :: q →
      ∃ t, exec (.recordHeaderWriteEnd false) s = .next t ∧ t = { s with bus := t.bus, shared := t.shared }
        ∧ AsksAfter s q t [] ∧ SharedWritten s t (a.toNat + 18) (resultBytes res detail progress))
    ∧ (∀ old e rest, (s.link.lane i).table = old ++ e :: rest → e.addr = a → e.done = false →
        (∀ x, x ∈ old → x.addr = a → x.done = true) →
      (s.bus.queue = .stateWrite i a .done :: q → ∃ t, exec (.recordHeaderWriteEnd false) s = .next t
        ∧ RetiredFrom i (old ++ { e with done := true } :: rest) (s.link.lane i) (t.link.lane i)
            s.regs.cause t.regs.cause
        ∧ t = { s with bus := t.bus, shared := t.shared, regs := { s.regs with cause := t.regs.cause },
                       link := s.link.setLane i fun l => { l with
                         table := (t.link.lane i).table, retiredAddr := (t.link.lane i).retiredAddr,
                         retiredCount := (t.link.lane i).retiredCount } }
        ∧ SharedWritten s t (a.toNat + 16) [3#8, 0#8] ∧ AsksAfter s q t [])
      ∧ (∀ w, w.writesRecord i a = true → s.bus.queue = w :: q → (s.link.lane i).state ≠ .stopped →
          ∃ t, exec (.recordHeaderWriteEnd true) s = .next t
        ∧ t = { s with bus := t.bus, regs := { s.regs with cause := t.regs.cause }, link := t.link }
        ∧ (t.link.lane i).state = .stopped ∧ (t.link.lane i).stopAddr = a ∧ (t.link.lane i).copy = none
        ∧ (t.link.lane i).cursor = (s.link.lane i).cursor
        ∧ (∀ k, k ≠ i → t.link.lane k = s.link.lane k)
        ∧ AsksAfter s (q.filter fun y => !y.writesRecord i a && !y.readsFor i) t []
        ∧ ((.stateWrite i a .done = w ∨ .stateWrite i a .done ∈ q) →
            RetiredFrom i (old ++ { e with done := true, unwritable := true } :: rest) (s.link.lane i)
              (t.link.lane i) (s.regs.cause ||| causeBit laneStopped) t.regs.cause)
        ∧ ((.stateWrite i a .done ≠ w ∧ .stateWrite i a .done ∉ q) →
            (t.link.lane i).table = old ++ { e with unwritable := true } :: rest
              ∧ t.regs.cause = s.regs.cause ||| causeBit laneStopped)))

/-- R17, R5, R204: the end of a page write puts its snapshot at the Status Page address, and a bus error leaves shared
memory as it was; the last one of a DETACHING makes the link DETACHED. That a bus error leaves no byte of an ordinary
page write is log entry 48. R17, R34, R203, R204, and the table of 11, section 11.5: the Status Page field by field.
R17: a page write begins with a snapshot of the fields as they stand, and its write count, one above the last, stands
in its first and in its last word; it does not wait for a transfer of several accesses to end (log entry 5). The page
number of a block erase, and the suspension count while there is no erase, are log entry 54. -/
def Obligations.PageWriteOutcome : Prop :=
  (∀ (s : State) (q : List BusAccess) (page : List Byte), s.bus.snapshot = some page → sparseWf s.shared = true →
      (s.bus.queue = .statusPage :: q →
        (∃ t, exec (.statusPageWriteEnd false) s = .next t ∧ t = { s with bus := t.bus, shared := t.shared }
          ∧ SharedWritten s t s.link.statusAddr.toNat page ∧ AsksAfter s q t [])
        ∧ (∃ t, exec (.statusPageWriteEnd true) s = .next t ∧ t = { s with bus := t.bus } ∧ AsksAfter s q t []))
      ∧ (s.bus.queue = .finalPage :: q →
        (∃ t, exec (.detachFinalPage false) s = .next t
          ∧ t = { s with bus := t.bus, shared := t.shared, link := { s.link with state := .detached } }
          ∧ SharedWritten s t s.link.statusAddr.toNat page ∧ AsksAfter s q t [])
        ∧ (∃ t, exec (.detachFinalPage true) s = .next t
          ∧ t = { s with bus := t.bus, link := { s.link with state := .detached } } ∧ AsksAfter s q t [])))
  ∧ (∀ (s : State) (code : Nat) (n : Word) (P : List Byte), P = pageBytes s code n →
      (P.length = 256 ∧ word P 0 = n ∧ word P 252 = n
        ∧ byteAt P 4 = code % 256 ∧ byteAt P 5 = s.power.state.code ∧ byteAt P 6 = s.power.wakeReason.code
        ∧ byteAt P 7 = s.power.cls.code ∧ byteAt P 8 = (if s.keys.charger.debounced then 1 else 0))
      ∧ (∀ i o, (i = LaneId.display ∧ o = 12 ∨ i = .store ∧ o = 32 ∨ i = .control ∧ o = 52) →
          byteAt P o = (s.link.lane i).state.code ∧ word P (o + 4) = (s.link.lane i).cursor
          ∧ word P (o + 8) = (s.link.lane i).retiredAddr ∧ word P (o + 12) = (s.link.lane i).retiredCount
          ∧ word P (o + 16) = (s.link.lane i).stopAddr)
      ∧ (BitVec.ofNat 16 (half P 72) = (match s.sense.shown.temperature with
            | some T => BitVec.ofInt 16 T | none => 0x8000#16)
        ∧ byteAt P 74 = (if s.sense.shown.thermFault then 1 else 0)
        ∧ half P 76 = s.sense.shown.ambient % 65536 ∧ half P 78 = s.sense.shown.battery % 65536
        ∧ BitVec.ofNat 16 (half P 80) = BitVec.ofInt 16 s.sense.shown.battTrim
        ∧ BitVec.ofNat 16 (half P 82) = BitVec.ofInt 16 s.sense.shown.thermTrim
        ∧ BitVec.ofNat 16 (half P 84) = BitVec.ofInt 16 s.sense.shown.ambTrim
        ∧ half P 86 = s.sense.shown.battFiltered % 65536 ∧ half P 88 = s.sense.shown.thermFiltered % 65536
        ∧ half P 90 = s.sense.shown.ambFiltered % 65536)
      ∧ (bitAt P 92 0 = s.wave.validA ∧ bitAt P 92 1 = s.wave.validB ∧ bitAt P 92 2 = decide (s.wave.active = .b)
        ∧ byteAt P 93 = (match s.wave.range with | some r => r % 256 | none => 255) ∧ half P 94 = s.wave.period % 65536
        ∧ byteAt P 96 = s.panel.engine.code ∧ byteAt P 97 = (if s.panel.known then 1 else 0)
        ∧ byteAt P 98 = s.panel.pending.length % 256 ∧ byteAt P 99 = s.panel.slots.length % 256
        ∧ byteAt P 100 = s.panel.uncertain.length % 256
        ∧ ∀ k, k < 8 → (∀ r, s.panel.uncertain[k]? = some r →
              half P (104 + 8 * k) = r.x % 65536 ∧ half P (106 + 8 * k) = r.y % 65536
              ∧ half P (108 + 8 * k) = r.w % 65536 ∧ half P (110 + 8 * k) = r.h % 65536)
            ∧ (s.panel.uncertain[k]? = none → ∀ j, j < 8 → byteAt P (104 + 8 * k + j) = 0))
      ∧ (half P 168 = s.keys.countFwd.toNat ∧ half P 170 = s.keys.countBack.toNat
        ∧ half P 172 = s.keys.countMenu.toNat ∧ half P 174 = s.keys.countPower.toNat
        ∧ bitAt P 176 0 = s.keys.fwd.debounced ∧ bitAt P 176 1 = s.keys.back.debounced
        ∧ bitAt P 176 2 = s.keys.menu.debounced ∧ bitAt P 176 3 = s.keys.power.debounced
        ∧ bitAt P 176 4 = s.keys.cover.debounced
        ∧ byteAt P 177 = s.turn.queue.length % 256 ∧ byteAt P 178 = (if s.turn.armed then 1 else 0)
        ∧ byteAt P 179 = s.turn.entries.length % 256 ∧ byteAt P 180 = s.turn.cursor % 256
        ∧ byteAt P 181 = s.turn.interval % 256 ∧ byteAt P 182 = s.turn.counter % 256
        ∧ byteAt P 183 = (if s.turn.owed then 1 else 0) ∧ byteAt P 184 = s.turn.state.code
        ∧ byteAt P 185 = s.turn.frameA.code ∧ byteAt P 186 = s.turn.frameB.code
        ∧ ∀ k, k < 24 → bitAt P (188 + k / 8) (k % 8) = ((s.turn.entries[k]?).map (·.bad)).getD false)
      ∧ (byteAt P 192 = s.light.mode.code ∧ bitAt P 193 0 = decide (s.light.curve ≠ [])
        ∧ bitAt P 193 1 = s.light.fade ∧ bitAt P 193 2 = s.light.held.isNone ∧ byteAt P 194 = s.light.warmth % 256
        ∧ half P 196 = s.light.manual % 65536 ∧ BitVec.ofNat 16 (half P 198) = BitVec.ofInt 16 s.light.bias
        ∧ half P 200 = s.light.step % 65536 ∧ half P 202 = s.light.held.getD 0 % 65536
        ∧ half P 204 = s.light.level % 65536 ∧ half P 206 = s.light.target % 65536
        ∧ half P 208 = s.light.output % 65536 ∧ half P 210 = s.light.warm % 65536 ∧ half P 212 = s.light.cool % 65536)
      ∧ (byteAt P 214 = s.store.power.code
        ∧ (∀ client kind page block,
            ((∃ c p second, s.store.op = some (.read c p second)
                ∧ client = c.code ∧ kind = 1 ∧ page = p % 64 ∧ block = p / 64)
              ∨ (∃ p why second, s.store.op = some (.raw p why second)
                ∧ client = 3 ∧ kind = 2 ∧ page = p % 64 ∧ block = p / 64)
              ∨ (∃ p d, s.store.op = some (.program p d) ∧ client = 3 ∧ kind = 3 ∧ page = p % 64 ∧ block = p / 64)
              ∨ (∃ b, s.store.op = some (.mark b) ∧ client = 3 ∧ kind = 5 ∧ page = 0 ∧ block = b)
              ∨ (∃ e, s.store.op = none ∧ s.store.erase = some e
                ∧ client = 3 ∧ kind = 4 ∧ page = 0 ∧ block = e.block)
              ∨ (s.store.op = none ∧ s.store.erase = none ∧ client = 0 ∧ kind = 0 ∧ page = 0 ∧ block = 0)) →
            byteAt P 215 = client ∧ byteAt P 216 = kind ∧ byteAt P 217 = page ∧ half P 218 = block % 65536)
        ∧ byteAt P 220 = (if (s.store.erase.map (·.phase)) = some .suspended then 1 else 0)
        ∧ byteAt P 221 = (match s.store.erase with | some e => e.count % 256 | none => 0)
        ∧ byteAt P 222 = (if s.pins.guard then 1 else 0)
        ∧ half P 224 = s.store.retiredBlocks % 65536 ∧ half P 226 = s.store.unknownBlocks % 65536
        ∧ byteAt P 228 = s.executor.phase.code
        ∧ byteAt P 229 = (match s.executor.kind with | some k => k.code | none => 0)
        ∧ half P 230 = s.executor.block % 65536 ∧ word P 232 = BitVec.ofNat 32 s.executor.progress)
      ∧ (∀ k, (k = 9 ∨ k = 10 ∨ k = 11 ∨ k = 75 ∨ k = 101 ∨ k = 102 ∨ k = 103 ∨ k = 187 ∨ k = 195 ∨ k = 223
            ∨ (∃ o, (o = 12 ∨ o = 32 ∨ o = 52) ∧ (k = o + 1 ∨ k = o + 2 ∨ k = o + 3))
            ∨ (k = 191 ∧ s.turn.entries.length ≤ 24) ∨ (236 ≤ k ∧ k < 252)) → byteAt P k = 0)
      ∧ (∀ q, s.bus.queue = .statusPage :: q → s.bus.snapshot = none →
          (beginAccess s).bus.snapshot = some (pageBytes s s.link.state.code (s.bus.writeCount + 1#32))
            ∧ (beginAccess s).bus.writeCount = s.bus.writeCount + 1#32)
      ∧ (∀ q, s.bus.queue = .finalPage :: q → s.bus.snapshot = none →
          (beginAccess s).bus.snapshot = some (pageBytes s 0 (s.bus.writeCount + 1#32)))
      ∧ (∀ x q, s.bus.queue = x :: .statusPage :: q → x.repeats = true → s.bus.snapshot = none →
          (beginAccess (startTransfers s)).bus =
            { queue := .statusPage :: q, transfers := s.bus.transfers ++ [x],
              snapshot := some (pageBytes s s.link.state.code (s.bus.writeCount + 1#32)),
              writeCount := s.bus.writeCount + 1#32 }))

/-! ## Sense Front End (02) -/

/-- R22, R23, R35: the sweep timer expires. With no sweep running and no setup waiting a sweep starts, of BATT alone
in DEEP and of all three channels elsewhere, and the timer is loaded with the period of the power state; otherwise the
expiry is remembered. A full sweep owed to a wake is this one, and no more is owed: log entry 37. -/
def Obligations.SweepTimerExpires : Prop :=
  ∀ s : State, s.sense.timer ≠ none →
    (s.sense.sweep = none → s.sense.setup = none → ∃ t, exec .sweepTimerExpiry s = .next t ∧ Asks s t []
      ∧ t = { s with bus := t.bus, sense := { s.sense with
          sweep := some { full := decide (s.power.state ≠ .deep), chan := .batt, stage := .zero, zero := 0 },
          remembered := false, fullDue := false, timer := some (match s.power.state with
            | .run | .waking => s.sense.runPeriod
            | .dozeEntry | .dozeQuiet | .dozeTurning | .deepEntry => s.sense.dozePeriod
            | .deep => s.sense.deepPeriod * 1000) } })
    ∧ ((s.sense.sweep ≠ none ∨ s.sense.setup ≠ none) → ∃ t, exec .sweepTimerExpiry s = .next t ∧ Asks s t []
      ∧ t = { s with bus := t.bus, sense := { s.sense with timer := none, remembered := true } })

/-- R22, R25, R26 to R32: the conversions of a sweep, and the stages of a channel's chain before its filter. That what
is presented does not change within a sweep is the model's choice (log entry 43). A zero sample is kept for the
channel's signal sample, which for AMB waits for the dark window while the light is on; a THERM signal sample is a
fault or runs the chain and reads the curve; a BATT signal sample of a full sweep runs the chain and gives the battery
millivolts. -/
def Obligations.ConversionsRunTheChain : Prop :=
  ∀ (s : State) (w : Sweep) (raw : BitVec 12), s.sense.sweep = some w →
    (w.stage = .zero → ∃ t, exec (.conversionEnd raw) s = .next t
      ∧ t = { s with bus := t.bus, sense := { s.sense with sweep := some { w with zero := raw.toNat, stage :=
          if w.chan = .amb ∧ 0 < s.light.output then .awaitDark else .signal } } })
    ∧ (w.stage = .signal → w.chan = .therm → (raw.toNat < 16 ∨ 4079 < raw.toNat) → ∃ t,
      exec (.conversionEnd raw) s = .next t
      ∧ t = { s with bus := t.bus, sense := { s.sense with
          sweep := some { w with chan := .amb, stage := .zero, zero := 0 }, thermFault := true } })
    ∧ (w.stage = .signal → w.chan = .therm → 16 ≤ raw.toNat → raw.toNat ≤ 4079 → ∃ t,
      exec (.conversionEnd raw) s = .next t
      ∧ t = { s with bus := t.bus, sense := { s.sense with
          sweep := some { w with chan := .amb, stage := .zero, zero := 0 }, thermFault := false,
          therm := s.sense.therm.sample w.zero raw.toNat,
          temperature := match s.sense.curve with
            | some c => some (curveAt (s.sense.therm.sample w.zero raw.toNat).filtered c)
            | none   => s.sense.temperature } })
    ∧ (w.stage = .signal → w.chan = .batt → w.full = true → ∃ t, exec (.conversionEnd raw) s = .next t
      ∧ t = { s with bus := t.bus, sense := { s.sense with
          sweep := some { w with chan := .therm, stage := .zero, zero := 0 },
          batt := s.sense.batt.sample w.zero raw.toNat,
          battery := (s.sense.batt.sample w.zero raw.toNat).filtered * 5 / 4 } })
    ∧ (∀ (c : Channel) (z r : Nat), c.InRange → z ≤ 4095 →
      (c.sample z r).trim = c.nextTrim z ∧ (c.sample z r).gain = c.gain ∧ (c.sample z r).k = c.k
      ∧ (c.sample z r).mode = c.mode
      ∧ (c.mode = .manual → c.nextTrim z = c.trim)
      ∧ (c.mode = .auto →
          (c.trim < (z : Int) → c.nextTrim z = min 255 (c.trim + 1))
          ∧ ((z : Int) < c.trim → c.nextTrim z = max (-256) (c.trim - 1))
          ∧ (c.trim = (z : Int) → c.nextTrim z = c.trim)))
    ∧ (∀ (d : Int) (g : Nat), ∀ q : Int, q * 256 ≤ d * g + 128 → d * g + 128 < (q + 1) * 256 →
      (q < 0 → scaleSample d g = 0) ∧ (4095 < q → scaleSample d g = 4095)
      ∧ (0 ≤ q → q ≤ 4095 → (scaleSample d g : Int) = q))

/-- R33, R34, R41, R42, R153: the last signal sample of a sweep ends it, and what the sweep derived is presented. The
battery event classifies the supply from the battery millivolts, without hysteresis on the first event and with it
after; SUPPLY is set where the class changes; the ambient event of a full sweep hands the filtered value to the light.
That a sweep's values are presented together at its end is log entry 43. -/
def Obligations.SweepEndClassifies : Prop :=
  ∀ (s : State) (w : Sweep) (raw : BitVec 12), s.sense.sweep = some w → w.stage = .signal →
    (w.chan = .amb → w.full = true → ∃ t, exec (.conversionEnd raw) s = .next t ∧ t.power.seen = true
      ∧ t.power.cls = classify s.power s.sense.battery
      ∧ t.light.held = some (s.sense.amb.sample w.zero raw.toNat).filtered
      ∧ t.sense.shown = {
          temperature := s.sense.temperature, thermFault := s.sense.thermFault,
          ambient := (s.sense.amb.sample w.zero raw.toNat).filtered, battery := s.sense.battery,
          battTrim := s.sense.batt.trim, thermTrim := s.sense.therm.trim,
          ambTrim := (s.sense.amb.sample w.zero raw.toNat).trim, battFiltered := s.sense.batt.filtered,
          thermFiltered := s.sense.therm.filtered,
          ambFiltered := (s.sense.amb.sample w.zero raw.toNat).filtered }
      ∧ (t.power.cls ≠ s.power.cls → t.regs.cause &&& causeBit supplyCause = causeBit supplyCause))
    ∧ (w.chan = .batt → w.full = false → ∃ t, exec (.conversionEnd raw) s = .next t ∧ t.power.seen = true
      ∧ t.power.cls = classify s.power ((s.sense.batt.sample w.zero raw.toNat).filtered * 5 / 4)
      ∧ t.light.held = s.light.held ∧ t.sense.therm = s.sense.therm ∧ t.sense.amb = s.sense.amb
      ∧ t.sense.shown.battery = (s.sense.batt.sample w.zero raw.toNat).filtered * 5 / 4
      ∧ (t.power.cls ≠ s.power.cls → t.regs.cause &&& causeBit supplyCause = causeBit supplyCause))
    ∧ (s.power.seen = false → ∀ v, classify s.power v =
        if v < s.power.eExhausted then .exhausted else if v < s.power.eCritical then .critical
        else if v < s.power.eReduced then .reduced else .normal)

/-- R42: the class a battery event gives once a result has been seen. With the down target (the lowest class whose
enter threshold lies above v) below the present class, the class becomes it; otherwise it rises as long as v reaches
the leave threshold of the class it is in. A class reached by rising is not left on the same reading. -/
def Obligations.ClassFollowsHysteresis : Prop :=
  ∀ (p : Power) (v : Nat), p.seen = true → p.eCritical < p.eReduced → p.eExhausted < p.eCritical →
    p.eReduced + 20 ≤ p.xReduced → p.eCritical + 20 ≤ p.xCritical → p.eExhausted + 20 ≤ p.xExhausted →
    ∀ (enter leave : SupplyClass → Nat),
    (enter .reduced = p.eReduced ∧ enter .critical = p.eCritical ∧ enter .exhausted = p.eExhausted) →
    (leave .reduced = p.xReduced ∧ leave .critical = p.xCritical ∧ leave .exhausted = p.xExhausted) →
    (∀ d, d ≠ .normal → v < enter d → (∀ c, d.depth < c.depth → enter c ≤ v) → p.cls.depth < d.depth →
        classify p v = d)
    ∧ ((∀ d, d ≠ .normal → v < enter d → d.depth ≤ p.cls.depth) →
        (classify p v).depth ≤ p.cls.depth
        ∧ (∀ c, (classify p v).depth < c.depth → c.depth ≤ p.cls.depth → leave c ≤ v)
        ∧ (classify p v ≠ .normal → v < leave (classify p v)))
    ∧ classify { p with cls := classify p v } v = classify p v

/-- R29: the filter. With the seed flag set the filtered value becomes the scaled one and the flag clears; otherwise
it moves by the error divided by 2^k, truncated toward zero: not at all while the error is below 2^k, never past the
scaled value, straight to it with k = 0; and it stays in 0..4095. -/
def Obligations.FilterMovesTowardSample : Prop :=
  ∀ (c : Channel) (z r : Nat), c.filtered ≤ 4095 → c.k ≤ 4 →
    (c.sample z r).seed = false ∧ let sc := scaleSample ((r : Int) - c.nextTrim z) c.gain
    let f := (c.sample z r).filtered
    sc ≤ 4095 ∧ (c.seed = true → f = sc)
    ∧ (c.seed = false → (f : Int) = c.filtered + Int.tdiv ((sc : Int) - c.filtered) (2 ^ c.k))
    ∧ (c.seed = false → c.k = 0 → f = sc)
    ∧ (c.seed = false → (sc : Int) - c.filtered < 2 ^ c.k → (c.filtered : Int) - sc < 2 ^ c.k → f = c.filtered)
    ∧ (c.filtered ≤ sc → f ≤ sc) ∧ (c.seed = false → sc ≤ c.filtered → sc ≤ f) ∧ f ≤ 4095

/-- R31: the temperature read from a curve: the first at and below its first code, the last at and above its last;
from one code up to the next, the product of the two differences divided by the codes' distance, truncated toward zero
and added to the temperature; each point's own at its code; and never outside the curve's temperatures. -/
def Obligations.CurveReadsBetweenPoints : Prop :=
  ∀ (curve : List (Nat × Int)) (x : Nat), ascending curve = true → curve ≠ [] →
    (∀ p l, curve = p :: l → x ≤ p.1 → curveAt x curve = p.2)
    ∧ (∀ p, curve.getLast? = some p → p.1 ≤ x → curveAt x curve = p.2)
    ∧ (∀ before p q after, curve = before ++ p :: q :: after → p.1 ≤ x → x < q.1 →
        curveAt x curve = p.2 + Int.tdiv (((x : Int) - p.1) * (q.2 - p.2)) ((q.1 : Int) - p.1))
    ∧ (∀ p, p ∈ curve → curveAt p.1 curve = p.2)
    ∧ (∀ lo hi, (∀ p, p ∈ curve → lo ≤ p.2 ∧ p.2 ≤ hi) → lo ≤ curveAt x curve ∧ curveAt x curve ≤ hi)

/-- R24, R35 to R37: a SENSE_SETUP is taken and waits; it is applied as one step once no sweep runs, each present
channel group with its values clamped, the curve and the periods where present, and the sweep timer loaded anew where
the period in force changes; or it is refused whole with BadSetup. That the trims it sets are presented at once is log
entry 43. -/
def Obligations.SenseSetupSteps : Prop :=
  ∀ (s : State) (r : RecordCopy),
    (Ready .senseSetup r s → ∃ t, exec .senseSetup s = .next t ∧ Asks s t (takenAccesses .senseSetup r s)
      ∧ t = { s with bus := t.bus, link := takenLink .senseSetup r s, sense := { s.sense with setup := some r } })
    ∧ (s.sense.setup = some r → s.sense.sweep = none → s.sense.remembered = false → s.sense.fullDue = false →
        Writable .control r.addr s → senseSetupOk r.bytes = true → ∃ t, exec .senseSetupApply s = .next t
      ∧ Asks s t (doneAccesses .control r.addr .ok (setupDetail r.bytes) 0)
      ∧ t = { s with bus := t.bus, sense := { t.sense with setup := none } }
      ∧ (∀ ch g n, (ch = ChannelId.batt ∧ g = 36 ∧ n = 0 ∨ ch = .therm ∧ g = 44 ∧ n = 1 ∨ ch = .amb ∧ g = 52 ∧ n = 2) →
          (bitAt r.bytes 32 n = false → t.sense.channel ch = s.sense.channel ch)
          ∧ (bitAt r.bytes 32 n = true → t.sense.channel ch =
              { mode := if byteAt r.bytes g = 1 then .manual else .auto,
                trim := if byteAt r.bytes g = 1 then max (-256) (min 255 (halfSigned r.bytes (g + 4)))
                  else (s.sense.channel ch).trim,
                gain := max 128 (min 511 (half r.bytes (g + 6))), k := min 4 (byteAt r.bytes (g + 1)),
                filtered := (s.sense.channel ch).filtered,
                seed := (s.sense.channel ch).seed || bitAt r.bytes (g + 2) 0 }))
      ∧ t.sense.curve = (if bitAt r.bytes 32 3
          then some ((List.range 9).map fun i => (half r.bytes (60 + 4 * i), halfSigned r.bytes (62 + 4 * i)))
          else s.sense.curve)
      ∧ t.sense.runPeriod = (if bitAt r.bytes 32 4 then half r.bytes 96 else s.sense.runPeriod)
      ∧ t.sense.dozePeriod = (if bitAt r.bytes 32 4 then half r.bytes 98 else s.sense.dozePeriod)
      ∧ t.sense.deepPeriod = (if bitAt r.bytes 32 4 then half r.bytes 100 else s.sense.deepPeriod)
      ∧ t.sense.timer = (if sweepPeriod t = sweepPeriod s then s.sense.timer else some (sweepPeriod t))
      ∧ t.sense.shown = {
          temperature := s.sense.temperature, thermFault := s.sense.thermFault,
          ambient := s.sense.ambient, battery := s.sense.battery, battTrim := t.sense.batt.trim,
          thermTrim := t.sense.therm.trim, ambTrim := t.sense.amb.trim, battFiltered := s.sense.batt.filtered,
          thermFiltered := s.sense.therm.filtered, ambFiltered := s.sense.amb.filtered }
      ∧ t.sense.temperature = s.sense.temperature ∧ t.sense.battery = s.sense.battery
      ∧ t.sense.ambient = s.sense.ambient ∧ t.sense.thermFault = s.sense.thermFault ∧ t.sense.sweep = none)
    ∧ (s.sense.setup = some r → s.sense.sweep = none → s.sense.remembered = false → s.sense.fullDue = false →
        Writable .control r.addr s → senseSetupOk r.bytes = false → ∃ t, exec .senseSetupApply s = .next t
      ∧ Asks s t (doneAccesses .control r.addr .badSetup 0#32 0)
      ∧ t = { s with bus := t.bus, sense := { s.sense with setup := none } })

/-! ## Front Light (08) -/

/-- R149, R150, R154, R155, R157: a LIGHT_SET applies its present values with clamping, and L and T follow at once; a
mode that is none of the three refuses the record whole with BadSetup. The output moves at ramp ticks alone. R151,
R152, R154: a LIGHT_CURVE that passes replaces the curve, and in Auto L and T follow; one that fails is refused whole.
-/
def Obligations.LightRecordsApply : Prop :=
  (∀ (s : State) (r : RecordCopy), Ready .lightSet r s →
      (∀ m, lightSetMode r.bytes s.light = some m → ∃ t, exec .lightSet s = .next t
        ∧ Asks s t (takenAccesses .lightSet r s ++ doneAccesses .control r.addr .ok
            (if lightSetClamped r.bytes then 32#32 else 0#32) 0)
        ∧ t = { s with bus := t.bus, link := takenLink .lightSet r s, light := t.light }
        ∧ t.light.mode = m ∧ t.light.output = s.light.output ∧ t.light.fade = s.light.fade
        ∧ t.light.curve = s.light.curve ∧ t.light.held = s.light.held
        ∧ t.light.manual = (if bitAt r.bytes 32 1 then min (half r.bytes 36) 1000 else s.light.manual)
        ∧ t.light.bias = (if bitAt r.bytes 32 2 then max (-200) (min 200 (halfSigned r.bytes 38)) else s.light.bias)
        ∧ t.light.warmth = (if bitAt r.bytes 32 3 then min (byteAt r.bytes 34) 100 else s.light.warmth)
        ∧ t.light.step = (if bitAt r.bytes 32 4 then max 1 (min (half r.bytes 40) 1000) else s.light.step)
        ∧ (m = .off → t.light.level = 0) ∧ (m = .manual → t.light.level = t.light.manual)
        ∧ (m = .auto → (s.light.held = none ∨ s.light.curve = [] → t.light.level = 0)
            ∧ ∀ a, s.light.held = some a → s.light.curve ≠ [] → (t.light.level : Int) =
                max 0 (min 1000 (curveAt a (s.light.curve.map fun p => (p.1, (p.2 : Int))) + t.light.bias)))
        ∧ t.light.target = min t.light.level (lightCeiling s.power.cls)
        ∧ t.light.warm = ((s.light.output * t.light.warmth + 50) / 100 * 3968 + 500) / 1000
        ∧ t.light.cool = ((s.light.output - (s.light.output * t.light.warmth + 50) / 100) * 3968 + 500) / 1000
        ∧ t.light.latchedWarm = s.light.latchedWarm ∧ t.light.latchedCool = s.light.latchedCool)
      ∧ (lightSetMode r.bytes s.light = none → ∃ t, exec .lightSet s = .next t
        ∧ Asks s t (takenAccesses .lightSet r s ++ doneAccesses .control r.addr .badSetup 0#32 0)
        ∧ t = { s with bus := t.bus, link := takenLink .lightSet r s }))
  ∧ (∀ (s : State) (r : RecordCopy), Ready .lightCurve r s →
      (lightCurveOk r.bytes = true → ∃ t, exec .lightCurve s = .next t
        ∧ Asks s t (takenAccesses .lightCurve r s ++ doneAccesses .control r.addr .ok 0#32 0)
        ∧ t = { s with bus := t.bus, link := takenLink .lightCurve r s, light := { s.light with
            curve := lightPoints r.bytes, level := t.light.level, target := t.light.target } }
        ∧ (s.light.mode ≠ .auto → t.light.level = s.light.level ∧ t.light.target = s.light.target)
        ∧ (s.light.mode = .auto → t.light.target = min t.light.level (lightCeiling s.power.cls)
            ∧ (s.light.held = none ∨ lightPoints r.bytes = [] → t.light.level = 0)
            ∧ ∀ a, s.light.held = some a → lightPoints r.bytes ≠ [] → (t.light.level : Int) =
                max 0 (min 1000 (curveAt a ((lightPoints r.bytes).map fun p => (p.1, (p.2 : Int))) + s.light.bias))))
      ∧ (lightCurveOk r.bytes = false → ∃ t, exec .lightCurve s = .next t
        ∧ Asks s t (takenAccesses .lightCurve r s ++ doneAccesses .control r.addr .badSetup 0#32 0)
        ∧ t = { s with bus := t.bus, link := takenLink .lightCurve r s }))

/-- R156, R157, R159, R146: a ramp tick moves the output toward its goal (the target, or 0 while the fade flag is set)
by at most the ramp step, and the duties follow; at count 0 of a PWM period the duties are latched. -/
def Obligations.RampAndLatch : Prop :=
  ∀ s : State,
    (∃ t, exec .rampTick s = .next t
      ∧ t = { s with bus := t.bus, light := { s.light with
          output := t.light.output, warm := t.light.warm, cool := t.light.cool } }
      ∧ (∀ g, g = (if s.light.fade then 0 else s.light.target) →
          (s.light.output ≤ g → t.light.output = min g (s.light.output + s.light.step))
          ∧ (g ≤ s.light.output → t.light.output = max g (s.light.output - s.light.step)))
      ∧ t.light.warm = ((t.light.output * s.light.warmth + 50) / 100 * 3968 + 500) / 1000
      ∧ t.light.cool = ((t.light.output - (t.light.output * s.light.warmth + 50) / 100) * 3968 + 500) / 1000)
    ∧ (∃ t, exec .pwmPeriodStart s = .next t
      ∧ t = { s with bus := t.bus, sense := { s.sense with sweep := t.sense.sweep },
                     light := { s.light with latchedWarm := s.light.warm, latchedCool := s.light.cool } }
      ∧ t.sense.sweep = s.sense.sweep.map fun w =>
          { w with stage := if w.stage = .awaitDark then .signal else w.stage })

/-- R147: both strings are dark in counts 0..127; WARM is lit for its duty from count 128 on; COOL directly after it
where both fit, and then the two are never lit together; otherwise COOL ends the period and shares its first counts
with WARM. R157: the mix. The warm share never exceeds the output, a share of 1000 gives a duty of 3968, an output of
0 gives none, and the two duties together are at most 3968. -/
def Obligations.StringsAndDuties : Prop :=
  (∀ (l : Light) (n : Nat), n < 4096 → l.latchedWarm ≤ 3968 → l.latchedCool ≤ 3968 →
      (n < 128 → l.warmLit n = false ∧ l.coolLit n = false)
      ∧ (l.warmLit n = true ↔ 128 ≤ n ∧ n < 128 + l.latchedWarm)
      ∧ (l.latchedWarm + l.latchedCool ≤ 3968 →
          (l.coolLit n = true ↔ 128 + l.latchedWarm ≤ n ∧ n < 128 + l.latchedWarm + l.latchedCool)
            ∧ ¬ (l.warmLit n = true ∧ l.coolLit n = true))
      ∧ (l.latchedWarm + l.latchedCool = 3968 → 128 ≤ n → (l.warmLit n = true ∨ l.coolLit n = true))
      ∧ (3968 < l.latchedWarm + l.latchedCool → (l.coolLit n = true ↔ 4096 - l.latchedCool ≤ n)
          ∧ (l.warmLit n = true ∧ l.coolLit n = true ↔ 4096 - l.latchedCool ≤ n ∧ n ≤ 127 + l.latchedWarm)))
  ∧ (∀ l : Light, l.output ≤ 1000 → l.warmth ≤ 100 →
      warmShare l.output l.warmth ≤ l.output ∧ l.mix.warm + l.mix.cool ≤ 3968
      ∧ (l.output = 0 → l.mix.warm = 0 ∧ l.mix.cool = 0) ∧ (l.output = 1000 → l.mix.warm + l.mix.cool = 3968)
      ∧ (l.warmth = 0 → l.mix.warm = 0) ∧ (l.warmth = 100 → l.mix.cool = 0) ∧ dutyOf 1000 = 3968)

/-! ## Power Controller and keys (03; 07, sections 7.1 and 7.2) -/

/-- R44, R45: a POWER_SETUP that passes replaces the values of each present group, and keeps those of an absent one; a
running timer and the class in force are not reconsidered; one that fails is refused whole with BadSetup. -/
def Obligations.PowerSetupApplies : Prop :=
  ∀ (s : State) (r : RecordCopy), Ready .powerSetup r s →
    (powerSetupOk r.bytes = true → ∃ t, exec .powerSetup s = .next t
      ∧ Asks s t (takenAccesses .powerSetup r s ++ doneAccesses .control r.addr .ok 0#32 0)
      ∧ t = { s with bus := t.bus, link := takenLink .powerSetup r s, power := t.power,
                     store := { s.store with idleTime := t.power.storeIdle } }
      ∧ t.power = { s.power with
          eReduced := if bitAt r.bytes 32 0 then half r.bytes 34 else s.power.eReduced,
          xReduced := if bitAt r.bytes 32 0 then half r.bytes 36 else s.power.xReduced,
          eCritical := if bitAt r.bytes 32 0 then half r.bytes 38 else s.power.eCritical,
          xCritical := if bitAt r.bytes 32 0 then half r.bytes 40 else s.power.xCritical,
          eExhausted := if bitAt r.bytes 32 0 then half r.bytes 42 else s.power.eExhausted,
          xExhausted := if bitAt r.bytes 32 0 then half r.bytes 44 else s.power.xExhausted,
          graceTime := if bitAt r.bytes 32 1 then half r.bytes 46 else s.power.graceTime,
          dozeTimeout := if bitAt r.bytes 32 1 then half r.bytes 48 else s.power.dozeTimeout,
          storeIdle := if bitAt r.bytes 32 1 then half r.bytes 50 else s.power.storeIdle,
          coverAction := if bitAt r.bytes 32 2 then (if byteAt r.bytes 33 = 0 then .deepOnClose else .none)
            else s.power.coverAction })
    ∧ (powerSetupOk r.bytes = false → ∃ t, exec .powerSetup s = .next t
      ∧ Asks s t (takenAccesses .powerSetup r s ++ doneAccesses .control r.addr .badSetup 0#32 0)
      ∧ t = { s with bus := t.bus, link := takenLink .powerSetup r s })

/-- R47: a POWER_SLEEP that passes latches its depth and wake time, makes an ATTACHED link DETACHING, sets the power
state to DOZE_ENTRY or DEEP_ENTRY and only then completes with OK. One that names no depth or a wake time above 10080
completes with Range, one under Exhausted with LowSupply, one with the engine HALTED with PanelHalted; a refused one
changes neither the power state nor the link. That a refused one has progress and detail 0 is log entry 58. -/
def Obligations.PowerSleepOutcome : Prop :=
  ∀ (s : State) (r : RecordCopy), Ready .powerSleep r s → Quiet s →
    (byteAt r.bytes 32 ≤ 1 → half r.bytes 34 ≤ 10080 → s.power.state = .run → s.panel.engine ≠ .halted →
        s.power.cls ≠ .exhausted → ∃ t, exec .powerSleep s = .next t
      ∧ Completing t .control r.addr .ok 0#32 0 ∧ t.link.state = .detaching
      ∧ (∀ i, (t.link.lane i).state = if (s.link.lane i).state = .stopped then .stopped else .detached)
      ∧ t.power = { s.power with
          state := if byteAt r.bytes 32 = 0 then .dozeEntry else .deepEntry,
          depth := if byteAt r.bytes 32 = 0 then .doze else .deep, wakeSetting := half r.bytes 34,
          dozeTimer := if byteAt r.bytes 32 = 0 then s.power.dozeTimer else none,
          drainAsked := s.power.drainAsked && byteAt r.bytes 32 == 0 }
      ∧ t.regs = s.regs ∧ t.turn = s.turn ∧ t.store = s.store ∧ t.shared = s.shared
      ∧ t.light.fade = (if byteAt r.bytes 32 = 0 then s.light.fade else true)
      ∧ (s.panel.engine = .holding → t.panel.engine = .falling))
    ∧ (∀ res, ((res = .range ∧ (1 < byteAt r.bytes 32 ∨ 10080 < half r.bytes 34))
          ∨ (byteAt r.bytes 32 ≤ 1 ∧ half r.bytes 34 ≤ 10080 ∧
              ((res = .lowSupply ∧ s.power.state ≠ .run)
                ∨ (res = .panelHalted ∧ s.power.state = .run ∧ s.panel.engine = .halted)
                ∨ (res = .lowSupply ∧ s.power.state = .run ∧ s.panel.engine ≠ .halted
                    ∧ s.power.cls = .exhausted)))) → ∃ t, exec .powerSleep s = .next t
      ∧ t = { s with bus := t.bus, link := takenLink .powerSleep r s }
      ∧ Asks s t (takenAccesses .powerSleep r s ++ doneAccesses .control r.addr res 0#32 0))

/-- R52, R55, R57, R62, R118: the expiry of the grace timer begins the forced descent, which ends the waiting updates
and a waiting load with LowSupply, also where the panel engine is HALTED; that of the doze inactivity timer takes the
part to DEEP_ENTRY; that of the wake timer is a wake with reason TIMER in the DOZE states, and in DEEP unless the
class is Exhausted. That an update ended with LowSupply has progress 0 and its detail is log entry 58. -/
def Obligations.PowerTimersExpire : Prop :=
  ∀ s : State,
    (s.power.graceTimer ≠ none → s.power.descentPending = false → ∃ t, exec .graceTimerExpiry s = .next t
      ∧ t.power.state = .deepEntry ∧ t.power.forced = true ∧ t.power.graceTimer = none ∧ t.power.wakeSetting = 0
      ∧ t.power.wakeTimer = none ∧ t.panel.pending = [] ∧ t.turn.queue = [] ∧ t.light.fade = true
      ∧ (∀ e a, e ∈ s.panel.pending → e.src = .record a → Writable .display a s →
          Completing t .display a .lowSupply e.detail 0)
      ∧ (∀ l, s.wave.load = some l → (l.stage = .listWait ∨ l.stage = .bankWait) → Writable .display l.addr s →
          t.wave.load = none ∧ Completing t .display l.addr .lowSupply l.detail l.progress)
      ∧ t.link.state = if s.link.state = .attached then .detaching else s.link.state)
    ∧ (s.power.dozeTimer ≠ none → s.power.descentPending = false → Quiet s → s.panel.engine ≠ .halted → ∃ t,
      exec .dozeTimerExpiry s = .next t ∧ t.power.state = .deepEntry ∧ t.power.dozeTimer = none
      ∧ t.power.wakeTimer = s.power.wakeTimer ∧ t.power.forced = s.power.forced ∧ t.light.fade = true
      ∧ t.link.state = s.link.state ∧ t.regs = s.regs)
    ∧ (s.power.wakeTimer ≠ none → s.power.descentPending = false →
        (s.power.state = .dozeQuiet ∨ s.power.state = .dozeTurning) → ∃ t, exec .wakeTimerExpiry s = .next t
      ∧ t.power.state = .waking ∧ t.power.wakeReason = .timer ∧ t.power.wakeTimer = none ∧ t.power.dozeTimer = none
      ∧ t.regs = { s.regs with hostwake := true, cause := s.regs.cause ||| causeBit wakeCause }
      ∧ t.turn = s.turn ∧ t.panel.pending = s.panel.pending ∧ t.panel.slots = s.panel.slots)
    ∧ (s.power.wakeTimer ≠ none → s.power.state = .deep → s.power.cls ≠ .exhausted → ∃ t,
      exec .wakeTimerExpiry s = .next t ∧ t.power.state = .waking ∧ t.power.wakeReason = .timer
      ∧ t.power.vddMain = true ∧ t.wm.state = .initialising ∧ t.panel.known = false
      ∧ t.regs = { s.regs with hostwake := true, cause := s.regs.cause ||| causeBit wakeCause })
    ∧ (s.power.wakeTimer ≠ none → s.power.state = .deep → s.power.cls = .exhausted → ∃ t,
      exec .wakeTimerExpiry s = .next t
      ∧ t = { s with bus := t.bus, regs := { s.regs with attachWaits := false },
                     power := { s.power with wakeTimer := none, remembered := none } })

/-- R49, R51, R168: while the four conditions of DOZE_ENTRY hold, or those of DOZE_TURNING, the memory is asked for
self-refresh and the array powers off at once; DOZE_QUIET is reached at the report that self-refresh is in force. From
DOZE_ENTRY the doze inactivity timer starts there, and the wake timer where its setting is not 0; from DOZE_TURNING
the two stay as they are. R58: DEEP_ENTRY completes once the link, the panel, the turns, the store and the executor
are quiet: the array and VDD_MAIN go off, working memory loses power, the forced-descent flag clears. R55: after a
POWER_SLEEP(DEEP) whose wake time is not 0 the wake timer starts there, by the latched depth (log entry 25). R58, R59:
a wake that was remembered is then taken as a wake from DEEP, or, under Exhausted unless it is a charger, dropped with
any Attach that waits. R50, R53, R60, R61, R2, R160: once working memory is active and any reset is done, WAKING ends
in RUN: the fade flag clears, a waiting Attach is carried out, and under Exhausted the grace starts with EXHAUSTED
set. That the link reads DETACHED in DEEP, and that DEEP waits for an Attach under way, are log entries 14 and 21. -/
def Obligations.PowerStatesAreReached : Prop :=
  (∀ s : State, (s.power.state = .dozeEntry ∨ (s.power.state = .dozeTurning ∧ s.power.descentPending = false)) →
      ((s.power.state = .dozeEntry → s.link.state = .detached ∧ s.executor.phase = .idle) → s.panel.engine = .off → s.turn.queue = [] → s.turn.state = .idle →
          s.store.op = none → s.store.erase = none → s.store.ta = none → s.store.wf = none → s.store.ex = none →
          s.power.drainAsked = false → s.wm.state = .active → ∃ t,
        exec .dozeDrainComplete s = .next t
        ∧ t = { s with bus := t.bus, power := { s.power with drainAsked := true }, wm := { s.wm with state := .entering },
                       store := { s.store with power := .off, idle := none } })
      ∧ (s.power.drainAsked = true → s.store.power = .off → s.wm.state = .entering → s.wm.debt = 0 →
          s.wm.running = none → s.wm.waiting = [] → ∃ t, exec .selfRefreshEntry s = .next t
        ∧ t = { s with bus := t.bus, wm := { s.wm with state := .selfRefresh }, power := { s.power with
            state := .dozeQuiet, drainAsked := false,
            dozeTimer := if s.power.state = .dozeEntry then some s.power.dozeTimeout else s.power.dozeTimer,
            wakeTimer := if s.power.state = .dozeTurning then s.power.wakeTimer
              else if s.power.wakeSetting = 0 then none else some s.power.wakeSetting } }))
  ∧ (∀ s : State, s.power.state = .deepEntry → (s.link.state = .detached ∨ s.link.state = .fault) →
      s.link.attaching = false → (s.panel.engine = .off ∨ s.panel.engine = .halted ∧ s.panel.flushed = true
        ∧ s.panel.slots = []) → s.turn.state = .idle → s.turn.queue = [] → s.store.op = none → s.store.erase = none →
      s.store.ta = none → s.store.wf = none → s.store.ex = none → s.executor.phase = .idle →
      (∀ r, s.power.remembered = some r → r.reachesDeep = true → (s.power.cls ≠ .exhausted ∨ r = .charger) → ∃ t,
        exec .deepEntryComplete s = .next t
        ∧ t.power.state = .waking ∧ t.power.wakeReason = r ∧ t.power.vddMain = true ∧ t.power.remembered = none
        ∧ t.power.forced = false ∧ t.power.wakeTimer = none
        ∧ t.regs = { s.regs with cause := s.regs.cause ||| causeBit wakeCause,
                                 hostwake := if r = .attach then s.regs.hostwake else true }
        ∧ t.wm.state = .initialising ∧ t.link.state = .detached ∧ t.panel.known = false ∧ t.turn.entries = []
        ∧ t.light = s.light ∧ t.keys = s.keys ∧ t.shared = s.shared)
      ∧ (∀ g, (s.power.remembered = none ∧ g = s.regs
            ∨ ∃ r, s.power.remembered = some r ∧ r.reachesDeep = true ∧ s.power.cls = .exhausted ∧ r ≠ .charger
                ∧ g = { s.regs with attachWaits := false }) → ∃ t, exec .deepEntryComplete s = .next t
        ∧ t.power = { s.power with
            state := .deep, vddMain := false, forced := false, drainAsked := false, remembered := none,
            wakeTimer := if s.power.wakeTimer = none ∧ s.power.depth = .deep ∧ s.power.wakeSetting ≠ 0
              then some s.power.wakeSetting else s.power.wakeTimer }
        ∧ t.wm.state = .unpowered ∧ t.store.power = .off
        ∧ (∀ b, t.store.block b = { fill := .unknown, prot := .locked }) ∧ t.store.array = s.store.array
        ∧ t.link.state = .detached ∧ t.wave.validA = false ∧ t.wave.validB = false ∧ t.panel.known = false
        ∧ t.turn.entries = [] ∧ t.regs = g ∧ t.light = s.light ∧ t.keys = s.keys ∧ t.shared = s.shared))
  ∧ (∀ s : State, s.power.state = .waking → s.wm.state = .active → s.power.resetPending = false → ∃ t,
      exec .wakingComplete s = .next t ∧ t.power.state = .run ∧ t.light = { s.light with fade := false }
      ∧ (s.power.cls = .exhausted → s.power.graceTimer = none → s.power.forced = false →
          t.power.graceTimer = some s.power.graceTime
            ∧ t.regs.cause = s.regs.cause ||| causeBit exhaustedCause)
      ∧ (s.power.cls ≠ .exhausted → t.power.graceTimer = s.power.graceTimer ∧ t.regs.cause = s.regs.cause)
      ∧ (s.regs.attachWaits = true → s.link.state = .detached →
          t.link.attaching = true ∧ Asks s t [.anchorRead s.regs.anchor] ∧ t.regs.attachWaits = false)
      ∧ (s.regs.attachWaits = false → t.link = s.link ∧ Asks s t [])
      ∧ t.panel = s.panel ∧ t.turn = s.turn ∧ t.wm = s.wm ∧ t.store = s.store)

/-- R125, R126: a level change at an input starts a measurement, and a level that returns to the debounced one drops
it; a steady level becomes the debounced state, and the first steady reading after Full Reset is no press. R52, R56,
R57, R59, R126 to R129, R134 to R136: what a found change of a debounced input does. A press is counted, and in RUN
sets KEY; a cover change in RUN sets COVER. A release goes no further, and so does a press, a closing or a charger in
the power states that hand it to nobody. In the DOZE states MENU, POWER, a charger and a disarmed FWD or BACK are
wakes; a closing cover leads to DEEP_ENTRY where the cover action says so. In DEEP_ENTRY the first wake is remembered;
in DEEP a POWER press, an opened cover and a charger are wakes, and under Exhausted a charger alone. An armed FWD or
BACK joins the key queue, and at a full queue is counted alone. With nothing under way it is considered at once: a
turn starts in a FREE frame, from DOZE_QUIET through DOZE_TURNING, its first page asked of the array; past the list's
end it sets TURN_END, and at a Bad entry or a mode not in force TURN_ERROR, both wakes in the DOZE states. -/
def Obligations.InputsAndPresses : Prop :=
  (∀ (s : State) (i : InputId) (level : Bool),
      ((s.keys.input i).level ≠ level → ∃ t, exec (.inputChange i level) s = .next t
        ∧ t = { s with bus := t.bus, keys := s.keys.setInput i { s.keys.input i with
            level := level, measuring :=
              if (s.keys.input i).settled = true ∧ (s.keys.input i).debounced = level then none else some level } }
        ∧ ∀ j, j ≠ i → t.keys.input j = s.keys.input j)
      ∧ ((s.keys.input i).measuring = some level →
          ((s.keys.input i).settled = false ∨ (s.keys.input i).debounced = level) → ∃ t,
        exec (.debounceEnd i) s = .next t ∧ (∀ j, j ≠ i → t.keys.input j = s.keys.input j)
        ∧ t.keys.input i = { s.keys.input i with debounced := level, settled := true, measuring := none }
        ∧ t = { s with bus := t.bus, keys := s.keys.setInput i (t.keys.input i) }
        ∧ t.keys.countFwd = s.keys.countFwd ∧ t.keys.countBack = s.keys.countBack
        ∧ t.keys.countMenu = s.keys.countMenu ∧ t.keys.countPower = s.keys.countPower))
  ∧ (∀ (s : State) (i : InputId) (level : Bool) (u : State), Found i level s → u = foundState i level s →
      (Quiet s →
          ((level = false ∧ i ≠ .cover) ∨ (i = .menu ∧ ¬ InDoze s)
            ∨ ((i = .power ∨ i = .charger) ∧ (s.power.state = .run ∨ s.power.state = .waking))
            ∨ ((i = .fwd ∨ i = .back) ∧ (s.power.state = .deepEntry ∨ s.power.state = .deep
                ∨ ((s.power.state = .run ∨ s.power.state = .waking) ∧ s.turn.armed = false)))
            ∨ (i = .cover ∧ (s.power.state = .run ∨ s.power.state = .waking
                ∨ (InDoze s ∧ (level = false ∨ s.power.coverAction = .none))
                ∨ (level = true ∧ (s.power.state = .deepEntry ∨ s.power.state = .deep))))) → ∃ t,
        exec (.debounceEnd i) s = .next t ∧ t = { u with bus := t.bus })
      ∧ (∀ r, Quiet s → InDoze s → level = true →
          ((i = .menu ∧ r = .menu) ∨ (i = .power ∧ r = .power) ∨ (i = .charger ∧ r = .charger)
            ∨ (i = .fwd ∧ s.turn.armed = false ∧ r = .fwd) ∨ (i = .back ∧ s.turn.armed = false ∧ r = .back)) → ∃ t,
        exec (.debounceEnd i) s = .next t ∧ t.keys = u.keys
        ∧ t.power = { s.power with state := .waking, wakeReason := r, dozeTimer := none, wakeTimer := none,
                                   drainAsked := false, resetPending := false }
        ∧ t.regs = { s.regs with hostwake := true, cause := s.regs.cause ||| causeBit wakeCause }
        ∧ (s.wm.state = .selfRefresh → t.wm = { s.wm with state := .leaving })
        ∧ t.turn = s.turn ∧ t.panel = { s.panel with flushed := false } ∧ t.store = s.store ∧ t.link = s.link
        ∧ t.light = s.light)
      ∧ (Quiet s → InDoze s → i = .cover → level = true → s.power.coverAction = .deepOnClose →
          s.panel.engine ≠ .halted → ∃ t, exec (.debounceEnd .cover) s = .next t ∧ t.power.state = .deepEntry
        ∧ t.power.dozeTimer = none ∧ t.power.wakeTimer = s.power.wakeTimer ∧ t.power.forced = s.power.forced
        ∧ t.light = { s.light with fade := true } ∧ t.regs = s.regs ∧ t.link = s.link ∧ t.keys = u.keys)
      ∧ (∀ r, Quiet s → ((i = .power ∧ level = true ∧ r = .power) ∨ (i = .cover ∧ level = false ∧ r = .coverOpen)
            ∨ (i = .charger ∧ level = true ∧ r = .charger)) →
          (s.power.state = .deepEntry → ∃ t, exec (.debounceEnd i) s = .next t
            ∧ t = { u with bus := t.bus, power := { u.power with remembered := s.power.remembered.or (some r) } })
          ∧ (s.power.state = .deep → (s.power.cls ≠ .exhausted ∨ r = .charger) → ∃ t,
            exec (.debounceEnd i) s = .next t ∧ t.keys = u.keys
            ∧ t.power = { u.power with state := .waking, wakeReason := r, wakeTimer := none, remembered := none,
                                       vddMain := true }
            ∧ t.regs = { s.regs with hostwake := true, cause := s.regs.cause ||| causeBit wakeCause }
            ∧ t.wm = WorkMem.initialising (s.wm.epoch + 1) ∧ t.link.state = .detached ∧ t.panel.known = false
            ∧ t.turn.entries = [] ∧ t.light = s.light)
          ∧ (s.power.state = .deep → s.power.cls = .exhausted → r ≠ .charger → ∃ t,
            exec (.debounceEnd i) s = .next t
            ∧ t = { u with bus := t.bus, power := { u.power with remembered := none },
                           regs := { u.regs with attachWaits := false } }))
      ∧ (∀ k, level = true → ((i = .fwd ∧ k = .fwd) ∨ (i = .back ∧ k = .back)) → s.turn.armed = true →
          s.panel.pending = [] → s.power.descentPending = false → s.power.drainAsked = false →
          (s.turn.state = .reading →
            (s.power.state = .run ∨ s.power.state = .waking ∨ s.power.state = .dozeEntry
              ∨ s.power.state = .dozeTurning) → ∃ t, exec (.debounceEnd i) s = .next t
            ∧ t = { u with bus := t.bus, turn := { s.turn with
                queue := if s.turn.queue.length < 4 then s.turn.queue ++ [k] else s.turn.queue } })
          ∧ (∀ n e f, s.turn.state = .idle → s.turn.queue = [] → s.turn.load = none → s.turn.arm = none →
              ((k = .fwd ∧ n = s.turn.cursor + 1) ∨ (k = .back ∧ s.turn.cursor = n + 1)) →
              s.turn.entries[n]? = some e → e.bad = false → modeInForce e.mode s = true →
              ((s.turn.frameA = .free ∧ f = Frame.a)
                ∨ (s.turn.frameA ≠ .free ∧ s.turn.frameB = .free ∧ f = .b)) →
              s.store.power = .off → (s.power.state = .run ∨ s.power.state = .dozeQuiet) → ∃ t,
            exec (.debounceEnd i) s = .next t
            ∧ t = { u with
                bus := t.bus, wm := t.wm,
                power := { u.power with
                  state := if s.power.state = .dozeQuiet then .dozeTurning else s.power.state },
                turn := { s.turn.setFrame f .filling with
                  queue := [], target := n, extentFirst := e.block * 64 + e.first, extentCount := e.count,
                  mode := e.mode, key := k, frame := f, state := .reading, nextPage := 1, written := 0,
                  arrived := [] },
                store := { s.store with power := .poweringUp, idle := none, ta := some (e.block * 64 + e.first) } }
            ∧ (s.power.state = .run → t.wm = s.wm)
            ∧ (s.power.state = .dozeQuiet → s.wm.state = .selfRefresh → t.wm = { s.wm with state := .leaving }))
          ∧ (∀ n e, s.turn.state = .idle → s.turn.queue = [] → s.turn.load = none → s.turn.arm = none →
              ((k = .fwd ∧ n = s.turn.cursor + 1) ∨ (k = .back ∧ s.turn.cursor = n + 1)) →
              s.turn.entries[n]? = some e → e.bad = false → modeInForce e.mode s = true →
              s.turn.frameA ≠ .free → s.turn.frameB ≠ .free → s.power.state = .run → ∃ t,
            exec (.debounceEnd i) s = .next t ∧ t = { u with bus := t.bus, turn := { s.turn with queue := [k] } })
          ∧ (∀ c r, s.turn.state = .idle → s.turn.queue = [] → s.turn.load = none → s.turn.arm = none →
              ((c = turnEndCause ∧ r = .turnEnd ∧ ((k = .fwd ∧ s.turn.entries.length ≤ s.turn.cursor + 1)
                  ∨ (k = .back ∧ s.turn.cursor = 0)))
                ∨ (c = turnErrorCause ∧ r = .turnError ∧ ∃ n e,
                    ((k = .fwd ∧ n = s.turn.cursor + 1) ∨ (k = .back ∧ s.turn.cursor = n + 1))
                    ∧ s.turn.entries[n]? = some e ∧ (e.bad = true ∨ modeInForce e.mode s = false))) →
            ((s.power.state = .run ∨ s.power.state = .waking) → ∃ t, exec (.debounceEnd i) s = .next t
              ∧ t = { u with bus := t.bus, regs := { u.regs with cause := u.regs.cause ||| causeBit c } })
            ∧ (InDoze s → ∃ t, exec (.debounceEnd i) s = .next t ∧ t.keys = u.keys ∧ t.turn = s.turn
              ∧ t.power.state = .waking ∧ t.power.wakeReason = r
              ∧ t.regs = { s.regs with hostwake := true,
                                       cause := s.regs.cause ||| causeBit c ||| causeBit wakeCause }))))

/-! ## Working memory (04) -/

/-- R68, R70: a refresh that falls due adds 1 to the debt, which stays in 0..8, and an idle memory refreshes; a
refresh takes 1 from it as it is issued. At the end of a burst with no further request the arbiter decides in order: a
refresh at a debt of 8, Frame Scan, which leaves the round-robin position, the first waiting client after the one
served last in the order Image Copier, Retire Pass, Decoder, Waveform Loader, Store Reader, a refresh of an idle
memory. That the debt stays at 8 is log entry 19. -/
def Obligations.ArbiterDecides : Prop :=
  ∀ s : State, (s.wm.state = .active ∨ s.wm.state = .entering) → s.wm.debt ≤ 8 →
    (∃ t, exec .refreshDue s = .next t ∧ t = { s with bus := t.bus, wm := t.wm }
      ∧ (s.wm.running ≠ none → t.wm = { s.wm with debt := min 8 (s.wm.debt + 1) })
      ∧ (s.wm.running = none → s.wm.waiting = [] →
          t.wm = { s.wm with debt := min 8 (s.wm.debt + 1) - 1, running := some .refresh }))
    ∧ (s.wm.running = some .refresh → s.wm.waiting = [] → ∃ t, exec (.refreshEnd []) s = .next t
      ∧ t = { s with bus := t.bus, wm := { s.wm with
          debt := s.wm.debt - 1, running := if 0 < s.wm.debt then some .refresh else none } })
    ∧ (∀ c, s.wm.running = some (.burst c) → ∃ t, exec (.burstEnd []) s = .next t
      ∧ t = { s with bus := t.bus, wm := t.wm }
      ∧ (s.wm.debt = 8 → t.wm = { s.wm with running := some .refresh, debt := 7 })
      ∧ (s.wm.debt < 8 → .frameScan ∈ s.wm.waiting →
          t.wm = { s.wm with running := some (.burst .frameScan), waiting := s.wm.waiting.erase .frameScan })
      ∧ (∀ (place : WmClient → Nat) (d : WmClient), s.wm.debt < 8 → .frameScan ∉ s.wm.waiting →
          place .imageCopier = 0 → place .retirePass = 1 → place .decoder = 2 → place .waveformLoader = 3 →
          place .storeReader = 4 → s.wm.rr ≠ .frameScan → d ∈ s.wm.waiting →
          (∀ x, x ∈ s.wm.waiting → (place d + 4 - place s.wm.rr) % 5 ≤ (place x + 4 - place s.wm.rr) % 5) →
          t.wm = { s.wm with running := some (.burst d), rr := d, waiting := s.wm.waiting.erase d })
      ∧ (s.wm.waiting = [] → s.wm.debt < 8 →
          t.wm = { s.wm with debt := s.wm.debt - 1,
                             running := if 0 < s.wm.debt then some .refresh else none }))

/-- R67, R70, R73, R74, R75: LEAVING ends in ACTIVE with the contents kept and the debt at 0; INITIALISING ends in
ACTIVE after the contents-lost event: the panel Unknown with no uncertain region, both banks invalid, both staging
frames free and the turn-ahead list empty. R53, R67: where a wake by ENGINE_RESET waits for LEAVING to end, its reset
is made then: the memory is INITIALISING and the main domain as after Engine Reset. The epoch names undefined contents
(log entry 9). -/
def Obligations.MemoryBecomesActive : Prop :=
  ∀ s : State, (s.wm.state = .leaving → s.power.resetPending = true → ∃ t, exec .memoryLeaveEnd s = .next t
      ∧ t.power.resetPending = false ∧ t.power.state = s.power.state ∧ t.wm = WorkMem.initialising (s.wm.epoch + 1)
      ∧ t.link.state = .detached ∧ t.bus.queue = [] ∧ t.wave.validA = false ∧ t.wave.validB = false
      ∧ t.panel.engine = .off ∧ t.panel.pending = [] ∧ t.panel.slots = [] ∧ t.panel.known = false
      ∧ t.turn.entries = [] ∧ t.turn.state = .idle ∧ t.store.power = .off ∧ t.executor.phase = .idle
      ∧ t.regs = s.regs ∧ t.light = s.light ∧ t.keys = s.keys ∧ t.shared = s.shared)
    ∧ (s.wm.state = .leaving → s.wm.srHeld = false → s.power.resetPending = false → ∃ t, exec .memoryLeaveEnd s = .next t ∧ t = { s with bus := t.bus, wm := t.wm }
      ∧ t.wm.state = .active ∧ t.wm.debt = 0 ∧ t.wm.panel = s.wm.panel ∧ t.wm.frameA = s.wm.frameA
      ∧ t.wm.frameB = s.wm.frameB ∧ t.wm.bankA = s.wm.bankA ∧ t.wm.bankB = s.wm.bankB ∧ t.wm.epoch = s.wm.epoch)
    ∧ (s.wm.state = .initialising → s.wm.srHeld = false → ∃ t, exec .initialisingEnd s = .next t ∧ t.wm.state = .active ∧ t.wm.debt = 0
      ∧ t = { s with bus := t.bus, wm := t.wm, wave := t.wave,
                     panel := { s.panel with known := false, uncertain := [] },
                     turn := { s.turn with frameA := .free, frameB := .free, entries := [], cursor := 0 } }
      ∧ t.wave.validA = false ∧ t.wave.validB = false ∧ t.wave.range = none)

/-! ## Waveform Unit (05) -/

/-- R81 to R84: a WAVEFORM_LOAD whose extent lies in the array waits for the pending list to empty, then for the
inactive bank to be free, marks that bank invalid and asks the store for its first page; an extent out of range
completes with Range, one under a forced descent with LowSupply, one with the engine HALTED with PanelHalted. -/
def Obligations.WaveformLoadBegins : Prop :=
  ∀ (s : State) (r : RecordCopy),
    (Ready .waveformLoad r s → ∀ res,
        ((res = .range ∧ (4095 < half r.bytes 32 ∨ 63 < byteAt r.bytes 34 ∨ half r.bytes 36 = 0 ∨ 256 < half r.bytes 36
            ∨ 262144 < half r.bytes 32 * 64 + byteAt r.bytes 34 + half r.bytes 36))
          ∨ (loadInRange r.bytes = true ∧ ((res = .lowSupply ∧ s.power.forced = true)
              ∨ (res = .panelHalted ∧ s.power.forced = false ∧ s.panel.engine = .halted)))) → ∃ t,
      exec .waveformLoad s = .next t ∧ t = { s with bus := t.bus, link := takenLink .waveformLoad r s }
      ∧ Asks s t (takenAccesses .waveformLoad r s ++ doneAccesses .display r.addr res 0#32 0))
    ∧ (Ready .waveformLoad r s → loadInRange r.bytes = true → s.power.forced = false → s.panel.engine ≠ .halted → ∃ t,
      exec .waveformLoad s = .next t ∧ Asks s t (takenAccesses .waveformLoad r s)
      ∧ t = { s with bus := t.bus, link := takenLink .waveformLoad r s, wave := { s.wave with
          load := some { addr := r.addr, block := half r.bytes 32, first := byteAt r.bytes 34,
                         count := half r.bytes 36, stage := .listWait, progress := 0, detail := 0#32, needed := 0,
                         page := none } } })
    ∧ (∀ l, s.wave.load = some l → l.stage = .listWait → s.panel.pending = [] → ∃ t,
      exec .waveformListEmpty s = .next t ∧ Asks s t []
      ∧ t = { s with bus := t.bus, wave := { s.wave with load := some { l with stage := .bankWait } } })
    ∧ (∀ l, s.wave.load = some l → l.stage = .bankWait → s.wave.active = .a →
        (∀ e, e ∈ s.panel.slots → e.2.state = .clearing ∨ e.2.bank = .a) →
        ∀ st, LoaderAsks s (l.block * 64 + l.first + l.progress) st → ∃ t,
      exec .waveformBankFree s = .next t ∧ Asks s t []
      ∧ t = { s with bus := t.bus, store := st,
                     wave := { s.wave with validB := false, load := some { l with stage := .reading } } })

/-- R84 to R86: a page that has been read is written into the inactive bank behind the pages before it, and nothing
else of working memory changes but its requests; a first page whose header fails ends the load with BadWaveform and
progress 1, one whose header passes fixes the pages needed; while more are needed the next is asked of the store, and
after the last the load is in CHECKING and asks for the memory. R86 to R88, R93: the check of the set just loaded. On
a match the bank becomes valid and active, the range index is set directly from the temperature presented, or from the
default range where there is none, and the load completes with OK; on a mismatch it completes with BadWaveform and the
active bank stays in force. -/
def Obligations.WaveformPagesAndFlip : Prop :=
  (∀ (s : State) (l : Load) (data : List Byte), s.wave.load = some l → l.page = some data →
      (s.wm.state = .active ∨ s.wm.state = .entering) → ∃ t, exec .waveformPageWritten s = .next t
        ∧ t.wm.bank s.wave.active.other = overlay (s.wm.bank s.wave.active.other) (l.progress * 4096) data
        ∧ t.wm.bank s.wave.active = s.wm.bank s.wave.active ∧ t.wm.panel = s.wm.panel ∧ t.wm.frameA = s.wm.frameA
        ∧ t.wm.frameB = s.wm.frameB ∧ t.wm.decode = s.wm.decode ∧ t.wm.epoch = s.wm.epoch
        ∧ t.panel = s.panel ∧ t.wave.active = s.wave.active ∧ t.shared = s.shared ∧ t.light = s.light
        ∧ (s.power.drainAsked = false → t.wm.state = s.wm.state ∧ t.power = s.power)
        ∧ (Writable .display l.addr s → t.regs = s.regs ∧ t.link = s.link)
        ∧ (l.progress = 0 → Writable .display l.addr s →
            headerOk (t.wm.header s.wave.active.other) l.count = false →
            t.wave = { s.wave with load := none } ∧ t.store = s.store ∧ t.turn = s.turn
              ∧ Asks s t (doneAccesses .display l.addr .badWaveform l.detail 1))
        ∧ (∀ p, ((l.progress = 0 ∧ headerOk (t.wm.header s.wave.active.other) l.count = true
                ∧ p = setPages (t.wm.header s.wave.active.other))
              ∨ (1 ≤ l.progress ∧ p = l.needed)) →
            t.regs = s.regs ∧ t.link = s.link ∧ Asks s t []
            ∧ (∀ st, l.progress + 1 < p → LoaderAsks s (l.block * 64 + l.first + (l.progress + 1)) st →
                t.store = st ∧ t.turn = s.turn ∧ t.wave = { s.wave with
                  load := some { l with progress := l.progress + 1, page := none, needed := p } })
            ∧ (p ≤ l.progress + 1 → t.store = s.store ∧ t.turn = s.turn
                ∧ t.wave = { s.wave with
                    load := some { l with progress := l.progress + 1, page := none, needed := p, stage := .checking } }
                ∧ (s.wm.state = .active → s.wm.debt < 8 → s.wm.running = none → s.wm.waiting = [] →
                    t.wm.running = some (.burst .waveformLoader)))))
  ∧ (∀ (s : State) (l : Load), s.wave.load = some l → l.stage = .checking →
      (s.wm.state = .active ∨ s.wm.state = .entering) → Writable .display l.addr s →
      (bankCrcOk s = true → ∃ t, exec .waveformCrcCheckEnd s = .next t
        ∧ t.wave.active = s.wave.active.other ∧ t.wave.valid s.wave.active.other = true
        ∧ t.wave.valid s.wave.active = s.wave.valid s.wave.active
        ∧ (s.sense.shown.temperature = none → t.wave.range = some (setDefault (s.wm.header s.wave.active.other)))
        ∧ (∀ T, s.sense.shown.temperature = some T → t.wave.range = some (candidate (s.wm.header s.wave.active.other) T
            (setRanges (s.wm.header s.wave.active.other))))
        ∧ (bankReferenced s.wave.active s = false → t.wave.period = setPeriod (s.wm.header s.wave.active.other))
        ∧ (bankReferenced s.wave.active s = true → t.wave.period = s.wave.period)
        ∧ t.wave.load = none ∧ Asks s t (doneAccesses .display l.addr .ok l.detail l.progress) ∧ t.panel = s.panel)
      ∧ (bankCrcOk s = false → ∃ t, exec .waveformCrcCheckEnd s = .next t
        ∧ t.wave = { s.wave with load := none } ∧ t.panel = s.panel
        ∧ Asks s t (doneAccesses .display l.addr .badWaveform l.detail l.progress)))

/-- R92, R93: the candidate range is the highest whose lower bound does not exceed the temperature, or 0; the index
rises at once, falls only when the temperature is more than a degree below the lower bound of the range held, and
otherwise stays; an index that came from the default range takes the candidate. It is done at the end of a sweep that
covered THERM while a set is in force, with the temperature then presented, and otherwise not. The mark of an index
that came from the default range is log entry 26. -/
def Obligations.RangeFollowsTemperature : Prop :=
  (∀ (s : State) (w : Sweep) (raw : BitVec 12), s.sense.sweep = some w → w.stage = .signal →
    (w.chan = .amb → w.full = true → classify s.power s.sense.battery = s.power.cls → s.power.vddMain = true →
      (∀ T, s.sense.temperature = some T → s.wave.valid s.wave.active = true → ∃ t,
        exec (.conversionEnd raw) s = .next t ∧ t.wave = selectRange (s.wm.header s.wave.active) T s.wave
        ∧ t.panel = s.panel)
      ∧ ((s.sense.temperature = none ∨ s.wave.valid s.wave.active = false) → ∃ t,
        exec (.conversionEnd raw) s = .next t ∧ t.wave = s.wave ∧ t.panel = s.panel))
    ∧ (w.chan = .batt → w.full = false → s.power.cls =
          classify s.power ((s.sense.batt.sample w.zero raw.toNat).filtered * 5 / 4) → ∃ t,
        exec (.conversionEnd raw) s = .next t ∧ t.wave = s.wave))
  ∧ (∀ (h : List Byte) (T : Int) (v : Wave) (i : Nat), v.range = some i → v.fromDefault = true →
    (selectRange h T v).range = some (candidate h T (setRanges h)) ∧ (selectRange h T v).fromDefault = false)
  ∧ ∀ (h : List Byte) (T : Int) (v : Wave) (i : Nat), 1 ≤ setRanges h → v.range = some i → v.fromDefault = false →
    (∀ j, candidate h T (setRanges h) = j → j < setRanges h ∧ (j ≠ 0 → setLower h j ≤ T)
      ∧ ∀ k, j < k → k < setRanges h → T < setLower h k)
    ∧ (i < candidate h T (setRanges h) → (selectRange h T v).range = some (candidate h T (setRanges h)))
    ∧ (candidate h T (setRanges h) < i → T < setLower h i - 10 →
        (selectRange h T v).range = some (candidate h T (setRanges h)))
    ∧ (candidate h T (setRanges h) < i → setLower h i - 10 ≤ T → (selectRange h T v).range = some i)
    ∧ (candidate h T (setRanges h) = i → (selectRange h T v).range = some i)

/-! ## Panel Update Engine (06) -/

/-- R98, R120: the checks of a PANEL_UPDATE in order, each with the result it ends the record with: BadMode,
NoWaveform, Empty, Range, LowSupply, and PanelHalted while the flush of a HALTED engine is in force. Nothing but the
record is changed. R91, R94, R97, R98 to R103, R116: a PANEL_UPDATE that passes while the list is empty, no slot is
active and the engine is OFF starts at once: it takes slot 0 in COPYING, the engine rises, and the Image Copier asks
for the memory and for the image rows. On a Known panel it starts with its own rectangle and mode, or in CLEAR where
it meets an uncertain region; on an Unknown one over the full panel in CLEAR; promoted it drops ChangedOnly and gains
Promoted. R100: one that joins a list under Exhausted, where nothing starts, removes every older entry that carries
MaySupersede and lies wholly inside it, with Superseded. -/
def Obligations.PanelUpdateOutcome : Prop :=
  (∀ (s : State) (r : RecordCopy), Ready .panelUpdate r s → ∀ res,
      ((res = .badMode ∧ 3 < byteAt r.bytes 46)
        ∨ (byteAt r.bytes 46 ≤ 3 ∧ res = .noWaveform ∧ s.wave.validA = false ∧ s.wave.validB = false)
        ∨ ∃ m, modeOfCode (byteAt r.bytes 46) = some m ∧ (s.wave.validA = true ∨ s.wave.validB = true) ∧
            ((res = .badMode ∧ modeInForce m s = false)
              ∨ (modeInForce m s = true ∧
                ((res = .empty ∧ (rawRect r.bytes).isEmpty = true)
                  ∨ ((rawRect r.bytes).isEmpty = false ∧
                    ((res = .range ∧ half r.bytes 44 < (rawRect r.bytes).clip.w)
                      ∨ ((rawRect r.bytes).clip.w ≤ half r.bytes 44 ∧
                        ((res = .lowSupply ∧ s.power.forced = true)
                          ∨ (res = .panelHalted ∧ s.power.forced = false ∧ s.panel.engine = .halted
                              ∧ s.panel.flushed = true
                              ∧ (s.power.state = .dozeEntry ∨ s.power.state = .deepEntry)))))))))) →
      ∃ t, exec .panelUpdate s = .next t ∧ t = { s with bus := t.bus, link := takenLink .panelUpdate r s }
        ∧ Asks s t (takenAccesses .panelUpdate r s
            ++ doneAccesses .display r.addr res (if (rawRect r.bytes).wasClipped then 1#32 else 0#32) 0))
  ∧ (∀ (s : State) (r : RecordCopy) (m : Mode) (c : Rect), Ready .panelUpdate r s →
      modeOfCode (byteAt r.bytes 46) = some m → c = (rawRect r.bytes).clip →
      s.wave.active = .a → s.wave.validA = true → setHasMode (s.wm.header .a) m = true →
      (rawRect r.bytes).isEmpty = false → c.w ≤ half r.bytes 44 → s.power.forced = false →
      (∀ eff em (promoted : Bool), s.power.cls ≠ .exhausted → Quiet s → s.panel.engine = .off → s.panel.slots = [] →
          s.panel.stops = [] → s.panel.copyQueue = [] → (∀ a, a ∈ s.bus.queue ++ s.bus.transfers → a.isRows 0 = false) →
          ((s.panel.known = false ∧ eff = { x := 0, y := 0, w := 1600, h := 1200 } ∧ em = .clear ∧ promoted = true)
            ∨ (s.panel.known = true ∧ (∃ u, u ∈ s.panel.uncertain ∧ c.intersects u = true) ∧ eff = c ∧ em = .clear
                ∧ promoted = true)
            ∨ (s.panel.known = true ∧ (∀ u, u ∈ s.panel.uncertain → c.intersects u = false) ∧ eff = c ∧ em = m
                ∧ promoted = false)) →
          setHasMode (s.wm.header .a) em = true → ∃ t, exec .panelUpdate s = .next t
        ∧ Asks s t (takenAccesses .panelUpdate r s
            ++ [.buffer (.imageRows 0) (wordNat r.bytes 40) ((c.h - 1) * half r.bytes 44 + c.w)])
        ∧ t = { s with bus := t.bus, link := takenLink .panelUpdate r s, panel := t.panel, wm := t.wm }
        ∧ t.panel.pending = [] ∧ t.panel.engine = .rising ∧ t.panel.risingTimer = true
        ∧ t.panel.copyQueue = [0] ∧ t.panel.known = s.panel.known ∧ t.panel.uncertain = s.panel.uncertain
        ∧ (s.wm.state = .active → s.wm.debt < 8 → s.wm.running = none → s.wm.waiting = [] →
            t.wm = { s.wm with running := some (.burst .imageCopier), rr := .imageCopier })
        ∧ ∃ sl, t.panel.slots = [(0, sl)] ∧ sl.state = .copying ∧ sl.rect = c ∧ sl.eff = eff ∧ sl.mode = m
            ∧ sl.effMode = em ∧ sl.src = .record r.addr ∧ sl.changedOnly = (bitAt r.bytes 47 0 && !promoted)
            ∧ sl.image = word r.bytes 40 ∧ sl.stride = half r.bytes 44
            ∧ sl.unknownStart = !s.panel.known ∧ sl.bank = .a
            ∧ sl.frames = setFrames (s.wm.header .a) em (s.wave.range.getD 0)
            ∧ sl.table = tableOffset (s.wm.header .a) em (s.wave.range.getD 0)
            ∧ sl.detail = (if (rawRect r.bytes).wasClipped then 1#32 else 0#32) ||| (if promoted then 2#32 else 0#32)
                ||| (match s.sense.shown.temperature with
                  | none   => 8#32
                  | some T => (if s.sense.shown.thermFault then 8#32 else 0#32)
                      ||| (if T < setLower (s.wm.header .a) 0 ∨ setUpper (s.wm.header .a) < T then 4#32 else 0#32)))
      ∧ (s.power.cls = .exhausted → s.power.state = .run → s.turn.state = .idle → s.turn.queue = [] →
          s.power.descentPending = false →
          (∀ e, e ∈ s.panel.pending → ∃ a, e.src = .record a
            ∧ (e.maySupersede = true → e.rect.inside c = true → Writable .display a s)) → ∃ t,
          exec .panelUpdate s = .next t
        ∧ t = { s with bus := t.bus, link := takenLink .panelUpdate r s, panel := { s.panel with
            nextId := s.panel.nextId + 1,
            pending := (s.panel.pending.filter fun e => !(e.maySupersede && e.rect.inside c)) ++
              [{ id := s.panel.nextId, src := .record r.addr, rect := c, mode := m, changedOnly := bitAt r.bytes 47 0,
                 maySupersede := bitAt r.bytes 47 1, image := word r.bytes 40, stride := half r.bytes 44,
                 detail := if (rawRect r.bytes).wasClipped then 1#32 else 0#32 }] } }
        ∧ ∀ e a, e ∈ s.panel.pending → e.src = .record a → e.maySupersede = true →
            c.x ≤ e.rect.x → e.rect.x + e.rect.w ≤ c.x + c.w → c.y ≤ e.rect.y → e.rect.y + e.rect.h ≤ c.y + c.h →
            Completing t .display a .superseded e.detail 0))

/-- R97, R104, R105: the end of a copy writes, at every pixel of the slot's rectangle, the target its image gives it
(the upper four bits of the byte at image address + r × stride + c, or the staging frame's level; 15 outside the
update's own rectangle), quantised by the mode, with the slot's number and the active flag, unless ChangedOnly applies
and the pixel is at that level already; it leaves every other pixel and every current level alone, makes the slot
READY, writes the record Running or frees the staging frame, and changes nothing else of working memory but its
requests. The port's read of the rows ends, and the next copy's is asked for (log entry 5). R105, R107: a bus error of
the image's read aborts the slot with BadAddress: it is CLEARING at once, its rows are read no further (log entry 51),
and its rectangle joins no uncertain region. That a copy is applied whole at its end is log entry 23. -/
def Obligations.ImageCopyEnds : Prop :=
  (∀ (s : State) (n : Nat) (q : List Nat) (sl : Slot) (image : List Byte) (more : List BusAccess),
      s.panel.copyQueue = n :: q → sparseGet n s.panel.slots = some sl →
      (s.wm.state = .active ∨ s.wm.state = .entering) → sparseWf s.wm.panel = true → sl.eff.onPanel → n < 8 →
      ((q = [] ∧ more = []) ∨ ∃ k l sk b, q = k :: l ∧ sparseGet k s.panel.slots = some sk ∧ sk.src = .record b
          ∧ (∀ a, a ∈ s.bus.queue ++ s.bus.transfers → a.isRows k = false)
          ∧ more = [.buffer (.imageRows k) sk.image.toNat ((sk.rect.h - 1) * sk.stride + sk.rect.w)]) →
      (∀ a x y, sl.src = .record a → Writable .display a s → .buffer (.imageRows n) x y ∈ s.bus.transfers → ∃ t,
        exec (.imageCopyEnd image) s = .next t
        ∧ PortAsked s.bus.queue (s.bus.transfers.filter fun z => !z.isRows n) t
            (.stateWrite .display a .running :: more)
        ∧ t = { s with bus := t.bus, wm := t.wm, panel := t.panel }
        ∧ t.wm = { s.wm with panel := t.wm.panel, waiting := t.wm.waiting, running := t.wm.running, rr := t.wm.rr,
                             debt := t.wm.debt }
        ∧ t.panel.copyQueue = q ∧ (sparseGet n t.panel.slots).map (·.state) = some .ready
        ∧ (∀ m, m ≠ n → sparseGet m t.panel.slots = sparseGet m s.panel.slots)
        ∧ (∀ p, sl.eff.hasPixel p = false → t.wm.entry p = s.wm.entry p)
        ∧ (∀ p T, sl.eff.hasPixel p = true → T = BitVec.ofNat 4 (quantise sl.mode (if sl.rect.hasPixel p then
              (image.getD ((p / 1600 - sl.rect.y) * sl.stride + (p % 1600 - sl.rect.x)) 0#8).toNat / 16 else 15)) →
            t.wm.entry p = if sl.changedOnly = true ∧ (s.wm.entry p).current = T then s.wm.entry p
              else { current := (s.wm.entry p).current, target := T, slot := BitVec.ofNat 3 n, active := true }))
      ∧ (∀ f, sl.src = .internal f → s.turn.queue = [] → ∃ t,
        exec (.imageCopyEnd image) s = .next t ∧ Asks s t more
        ∧ t = { s with bus := t.bus, wm := t.wm, panel := t.panel, turn := s.turn.setFrame f .free }
        ∧ t.wm = { s.wm with panel := t.wm.panel, waiting := t.wm.waiting, running := t.wm.running, rr := t.wm.rr,
                             debt := t.wm.debt }
        ∧ t.panel.copyQueue = q ∧ (sparseGet n t.panel.slots).map (·.state) = some .ready
        ∧ (∀ p, sl.eff.hasPixel p = false → t.wm.entry p = s.wm.entry p)
        ∧ (∀ p T, sl.eff.hasPixel p = true → T = BitVec.ofNat 4 (quantise sl.mode (if sl.rect.hasPixel p then
              (s.wm.frameLevel f p).toNat else 15)) →
            t.wm.entry p = if sl.changedOnly = true ∧ (s.wm.entry p).current = T then s.wm.entry p
              else { current := (s.wm.entry p).current, target := T, slot := BitVec.ofNat 3 n, active := true }))
      ∧ (∀ l, l ≤ 15 → quantise .clear l = l ∧ quantise .gray16 l = l
        ∧ (quantise .gray4 l % 5 = 0 ∧ quantise .gray4 l ≤ l + 2 ∧ l ≤ quantise .gray4 l + 2)
        ∧ quantise .mono l = if l ≤ 7 then 0 else 15))
  ∧ (∀ (s : State) (n : Nat) (sl : Slot) (a : Word) (x y : Nat), s.panel.copyQueue = [n] →
      .buffer (.imageRows n) x y ∈ s.bus.transfers →
      sparseGet n s.panel.slots = some sl → sl.src = .record a → sl.state = .copying → s.wave.periodPending = false →
      ∃ t, exec .imageCopyBusError s = .next t
        ∧ PortAsked (s.bus.queue.filter fun z => !z.isRows n) (s.bus.transfers.filter fun z => !z.isRows n) t []
        ∧ t = { s with bus := t.bus, wm := t.wm, panel := t.panel }
        ∧ sparseGet n t.panel.slots = some { sl with state := .clearing, abort := .badAddress }
        ∧ t.panel.passQueue = s.panel.passQueue ++ [n] ∧ t.panel.copyQueue = []
        ∧ t.panel.uncertain = s.panel.uncertain ∧ t.panel.known = s.panel.known)

/-- R105, R106, R109: at a frame tick every READY slot becomes RUNNING at frame 0 and one scan starts; at the scan's
end each RUNNING slot has driven one frame more, and one past its last frame becomes RETIRING. -/
def Obligations.FramesAdvance : Prop :=
  ∀ s : State,
    (s.panel.engine = .driving → s.panel.scan = false → (∀ st, st ∈ s.panel.stops → st.effect = true) →
        (∃ e, e ∈ s.panel.slots ∧ (e.2.state = .ready ∨ e.2.state = .running)) → ∃ t, exec .frameTick s = .next t
      ∧ t = { s with bus := t.bus, wm := t.wm, panel := { s.panel with scan := true, slots := t.panel.slots } }
      ∧ ∀ n, sparseGet n t.panel.slots = (sparseGet n s.panel.slots).map fun sl =>
          if sl.state = .ready then { sl with state := .running, frame := 0 } else sl)
    ∧ (s.panel.scan = true → ∃ t, exec .frameScanEnd s = .next t
      ∧ t = { s with bus := t.bus, wm := t.wm, panel := t.panel }
      ∧ t.panel.scan = false ∧ t.panel.engine = s.panel.engine ∧ t.panel.pending = s.panel.pending
      ∧ ∀ n, sparseGet n t.panel.slots = (sparseGet n s.panel.slots).map fun sl =>
          if sl.state ≠ .running then sl
          else if sl.frame + 1 < sl.frames then { sl with frame := sl.frame + 1, driven := sl.driven + 1 }
          else { sl with frame := sl.frame + 1, driven := sl.driven + 1, state := .retiring })

/-- R106, R107, R117: the end of a retire pass makes the current level of each pixel the slot still drives its target
and clears its active flag, and a record completes with OK and its count of frames; a CLEAR that completes removes
every uncertain region wholly inside its rectangle, and makes the panel Known where it covered the full panel. The end
of a clearing pass clears the active flags and keeps the current levels, and the record completes with the abort's
result and the frames driven. An internal update that completes is forgotten as the latest full one (R124). No other
pixel changes, and the slot becomes FREE. That a pass is applied whole at its end is log entry 23. -/
def Obligations.PassesEndSlots : Prop :=
  ∀ (s : State) (n : Nat) (q : List Nat) (sl : Slot), s.panel.passQueue = n :: q →
    sparseGet n s.panel.slots = some sl → (s.wm.state = .active ∨ s.wm.state = .entering) →
    sparseWf s.wm.panel = true → sparseWf s.panel.slots = true → sl.eff.onPanel → n < 8 →
    Quiet s → (∀ retires : Bool, sl.state = (if retires then .retiring else .clearing) → ∃ t,
      exec (if retires then .retirePassEnd else .clearingPassEnd) s = .next t
      ∧ sparseGet n t.panel.slots = none
      ∧ (∀ m, m ≠ n → sparseGet m t.panel.slots = sparseGet m s.panel.slots)
      ∧ (∀ a, sl.src = .record a → Writable .display a s → t.turn = s.turn
          ∧ Completing t .display a (if retires then .ok else sl.abort) sl.detail
              (if retires then sl.frames else sl.driven))
      ∧ (∀ f, sl.src = .internal f → t.turn = { s.turn with
          latestFull := if retires = true ∧ s.turn.latestFull = some sl.id then none else s.turn.latestFull })
      ∧ (∀ p, sl.eff.hasPixel p = false → t.wm.entry p = s.wm.entry p)
      ∧ (∀ p, sl.eff.hasPixel p = true → ((s.wm.entry p).active = false ∨ (s.wm.entry p).slot ≠ BitVec.ofNat 3 n) →
          t.wm.entry p = s.wm.entry p)
      ∧ (∀ p, sl.eff.hasPixel p = true → (s.wm.entry p).active = true → (s.wm.entry p).slot = BitVec.ofNat 3 n →
          t.wm.entry p = { s.wm.entry p with
            active := false, current := if retires then (s.wm.entry p).target else (s.wm.entry p).current })
      ∧ ((retires = true ∧ sl.effMode = .clear) →
          t.panel.uncertain = s.panel.uncertain.filter (fun u => !u.inside sl.eff)
          ∧ (t.panel.known = true ↔ s.panel.known = true ∨ sl.eff = { x := 0, y := 0, w := 1600, h := 1200 }))
      ∧ ((retires = false ∨ sl.effMode ≠ .clear) →
          t.panel.known = s.panel.known ∧ t.panel.uncertain = s.panel.uncertain))

/-- R107 to R111, R116, R120; R50, R64: the rails. RAIL_GOOD in RISING leads to DRIVING, or with no slot active on to
HOLDING, which a hold time of 0 passes, and the hold cut of DOZE_ENTRY and DEEP_ENTRY; the hold time leads from
HOLDING to FALLING and the fall to OFF. RAIL_GOOD lost in DRIVING or HOLDING, or not come in RISING, leads to HALTED
with PANEL_HALTED set: every COPYING, READY and RUNNING slot is CLEARING with RailFault, a RUNNING one adds its
rectangle to the uncertain regions, and a load in LIST_WAIT ends with PanelHalted. The Power Controller takes it as a
wake in DOZE_ENTRY and DOZE_TURNING; in DOZE_ENTRY and DEEP_ENTRY the pending list ends with PanelHalted, and in RUN
and WAKING it stays. What "found asserted" is in RISING is log entry 41. -/
def Obligations.RailsMoveTheEngine : Prop :=
  (∀ s : State, Quiet s →
    (s.panel.engine = .rising → s.panel.slots ≠ [] → ∃ t, exec .railGoodAssert s = .next t ∧ Asks s t []
      ∧ t = { s with bus := t.bus, pins := { s.pins with railGood := true },
                     panel := { s.panel with engine := .driving, risingTimer := false } })
    ∧ (s.panel.engine = .rising → s.panel.slots = [] → s.panel.stops = [] → ∃ t,
      exec .railGoodAssert s = .next t ∧ Asks s t []
      ∧ t = { s with bus := t.bus, pins := { s.pins with railGood := true },
                     panel := if s.panel.holdTime = 0 ∨ s.power.state = .dozeEntry ∨ s.power.state = .deepEntry then
                         { s.panel with engine := .falling, risingTimer := false, holdTimer := none,
                                        fallingTimer := true }
                       else { s.panel with engine := .holding, risingTimer := false,
                                           holdTimer := some s.panel.holdTime } })
    ∧ (s.panel.engine = .holding → s.panel.holdTimer ≠ none → ∃ t, exec .holdTimerExpiry s = .next t
      ∧ t = { s with bus := t.bus, panel := { s.panel with engine := .falling, holdTimer := none,
                                                            fallingTimer := true } })
    ∧ (s.panel.engine = .falling → s.panel.fallingTimer = true → ∃ t, exec .fallingTimerExpiry s = .next t
      ∧ t = { s with bus := t.bus, panel := { s.panel with engine := .off, fallingTimer := false } }))
  ∧ ∀ (s : State) (c : Instr),
    ((c = .railGoodDeassert ∧ (s.panel.engine = .driving ∨ s.panel.engine = .holding))
      ∨ (c = .risingTimerExpiry ∧ s.panel.engine = .rising ∧ s.panel.risingTimer = true)) →
    s.panel.stops = [] → sparseWf s.panel.slots = true → s.turn.state = .idle → s.turn.queue = [] →
    s.power.descentPending = false → ∃ t, exec c s = .next t
      ∧ t.panel.engine = .halted ∧ t.panel.scan = false ∧ t.panel.holdTimer = none ∧ t.panel.risingTimer = false
      ∧ t.pins.railGood = (s.pins.railGood && c != .railGoodDeassert)
      ∧ t.regs.cause &&& causeBit panelHaltedCause = causeBit panelHaltedCause
      ∧ (∀ n, sparseGet n t.panel.slots = (sparseGet n s.panel.slots).map fun sl =>
          if sl.state = .copying ∨ sl.state = .ready ∨ sl.state = .running then
            { sl with state := .clearing, abort := .railFault }
          else sl)
      ∧ ((∀ x, x ∈ s.panel.slots → x.2.state ≠ .running) →
          t.panel.uncertain = s.panel.uncertain ∧ t.panel.known = s.panel.known)
      ∧ (∀ n sl, s.panel.slots = [(n, sl)] → sl.state = .running →
          ((s.panel.known = false ∨ ∃ u, u ∈ s.panel.uncertain ∧ sl.eff.inside u = true) →
            t.panel.uncertain = s.panel.uncertain ∧ t.panel.known = s.panel.known)
          ∧ (s.panel.known = true → (∀ u, u ∈ s.panel.uncertain → sl.eff.inside u = false) →
            (s.panel.uncertain.length < 8 →
              t.panel.uncertain = s.panel.uncertain ++ [sl.eff] ∧ t.panel.known = true)
            ∧ (8 ≤ s.panel.uncertain.length → t.panel.uncertain = [] ∧ t.panel.known = false)))
      ∧ (∀ l, s.wave.load = some l → l.stage = .listWait → Writable .display l.addr s →
          t.wave.load = none ∧ Completing t .display l.addr .panelHalted l.detail l.progress)
      ∧ ((s.power.state = .run ∨ s.power.state = .waking) → s.link.state ≠ .detaching →
          t.power = s.power ∧ t.panel.pending = s.panel.pending)
      ∧ ((s.power.state = .dozeEntry ∨ s.power.state = .dozeTurning) →
          t.power.state = .waking ∧ t.power.wakeReason = .panelHalted ∧ t.regs.hostwake = true
          ∧ t.regs.cause &&& causeBit wakeCause = causeBit wakeCause)
      ∧ ((s.power.state = .dozeEntry ∨ s.power.state = .deepEntry) → t.panel.pending = []
          ∧ ∀ e a, e ∈ s.panel.pending → e.src = .record a → Writable .display a s →
              Completing t .display a .panelHalted e.detail 0)
      ∧ (s.power.state = .deepEntry → t.power = s.power ∧ t.panel.flushed = true)

/-- R107, R113, R114, R116: a PANEL_STOP over an empty rectangle completes with Empty; in DRIVING it joins the stop
list and waits for a tick; elsewhere it takes effect at once. Where a stop takes effect, at once or at the tick, every
marked entry of the list completes with Stopped and progress 0, every marked slot in COPYING, READY or RUNNING is
CLEARING with Stopped and no other slot is stopped; the stop completes with OK and the number of updates it stopped
once the last of its slots has, at once where it stopped no slot. A RUNNING slot that is stopped adds its rectangle to
the uncertain regions; one inside a region held adds none, and a ninth region empties the list and makes the panel
Unknown. That the slots a stop waits for include those of internal updates is log entry 57. -/
def Obligations.PanelStopActs : Prop :=
  (∀ (s : State) (r : RecordCopy), Ready .panelStop r s →
    ((rawRect r.bytes).isEmpty = true → ∃ t, exec .panelStop s = .next t
      ∧ t = { s with bus := t.bus, link := takenLink .panelStop r s }
      ∧ Asks s t (takenAccesses .panelStop r s ++ doneAccesses .display r.addr .empty 0#32 0))
    ∧ ((rawRect r.bytes).isEmpty = false → s.panel.engine = .driving → ∃ t, exec .panelStop s = .next t
      ∧ Asks s t (takenAccesses .panelStop r s)
      ∧ ∃ st, t = { s with bus := t.bus, link := takenLink .panelStop r s,
                           panel := { s.panel with stops := s.panel.stops ++ [st] } }
          ∧ st.addr = r.addr ∧ st.effect = false ∧ st.stopped = 0 ∧ st.waits = []
          ∧ ∀ id, id ∈ st.marks ↔
              (∃ e, e ∈ s.panel.pending ∧ e.id = id ∧ e.rect.intersects (rawRect r.bytes).clip = true)
                ∨ ∃ e, e ∈ s.panel.slots ∧ e.2.id = id ∧ e.2.abortable = true
                    ∧ e.2.eff.intersects (rawRect r.bytes).clip = true)
    ∧ ((rawRect r.bytes).isEmpty = false → s.panel.engine ≠ .driving → Quiet s → s.panel.slots = [] →
        s.panel.stops = [] → ∃ t, exec .panelStop s = .next t
      ∧ t = { s with bus := t.bus, link := takenLink .panelStop r s }
      ∧ Asks s t (takenAccesses .panelStop r s ++ doneAccesses .display r.addr .ok
          (if (rawRect r.bytes).wasClipped then 1#32 else 0#32) 0)))
  ∧ (∀ (s : State) (c : Instr) (addr detail : Word) (entryMark : Entry → Bool) (slotMark : Slot → Bool),
    ((∃ r, c = .panelStop ∧ Ready .panelStop r s ∧ (rawRect r.bytes).isEmpty = false ∧ s.panel.engine ≠ .driving
          ∧ s.panel.stops = [] ∧ addr = r.addr ∧ detail = (if (rawRect r.bytes).wasClipped then 1#32 else 0#32)
          ∧ entryMark = (fun e => e.rect.intersects (rawRect r.bytes).clip)
          ∧ slotMark = fun sl => sl.eff.intersects (rawRect r.bytes).clip)
      ∨ (∃ st, c = .frameTick ∧ s.panel.engine = .driving ∧ s.panel.scan = false ∧ s.panel.stops = [st]
          ∧ st.effect = false ∧ Writable .display addr s ∧ addr = st.addr ∧ detail = st.detail
          ∧ entryMark = (fun e => decide (e.id ∈ st.marks)) ∧ slotMark = fun sl => decide (sl.id ∈ st.marks))) →
    (s.panel.pending.map (·.id) ++ s.panel.slots.map (·.2.id)).Nodup → sparseWf s.panel.slots = true →
    (∀ e, e ∈ s.panel.pending → entryMark e = true) → s.turn.state = .idle → s.turn.queue = [] →
    s.power.descentPending = false → ∃ t, exec c s = .next t ∧ t.panel.pending = []
      ∧ (∀ e a, e ∈ s.panel.pending → e.src = .record a → Writable .display a s →
          Completing t .display a .stopped e.detail 0)
      ∧ (∀ n sl, sparseGet n s.panel.slots = some sl →
          ((sl.abortable && slotMark sl) = true →
            sparseGet n t.panel.slots = some { sl with state := .clearing, abort := .stopped })
          ∧ ((sl.abortable && slotMark sl) = false → sparseGet n t.panel.slots = some
              (if c = .frameTick ∧ sl.state = .ready then { sl with state := .running, frame := 0 } else sl)))
      ∧ (∀ n, sparseGet n s.panel.slots = none → sparseGet n t.panel.slots = none)
      ∧ ((∀ x, x ∈ s.panel.slots → (x.2.abortable && slotMark x.2) = false) → t.panel.stops = []
          ∧ Completing t .display addr .ok detail s.panel.pending.length)
      ∧ ((∃ x, x ∈ s.panel.slots ∧ (x.2.abortable && slotMark x.2) = true) → ∃ st, t.panel.stops = [st]
          ∧ st.addr = addr ∧ st.detail = detail ∧ st.effect = true
          ∧ st.stopped = s.panel.pending.length
              + (s.panel.slots.filter fun x => x.2.abortable && slotMark x.2).length
          ∧ ∀ id, id ∈ st.waits ↔ ∃ x, x ∈ s.panel.slots ∧ x.2.id = id ∧ (x.2.abortable && slotMark x.2) = true)
      ∧ ((∀ x, x ∈ s.panel.slots → x.2.state ≠ .running) →
          t.panel.uncertain = s.panel.uncertain ∧ t.panel.known = s.panel.known)
      ∧ (∀ n sl, s.panel.slots = [(n, sl)] → sl.state = .running → slotMark sl = true →
          ((s.panel.known = false ∨ ∃ u, u ∈ s.panel.uncertain ∧ sl.eff.inside u = true) →
            t.panel.uncertain = s.panel.uncertain ∧ t.panel.known = s.panel.known)
          ∧ (s.panel.known = true → (∀ u, u ∈ s.panel.uncertain → sl.eff.inside u = false) →
            (s.panel.uncertain.length < 8 →
              t.panel.uncertain = s.panel.uncertain ++ [sl.eff] ∧ t.panel.known = true)
            ∧ (8 ≤ s.panel.uncertain.length → t.panel.uncertain = [] ∧ t.panel.known = false))))

/-- R112, R115: a PANEL_RESUME outside HALTED completes with OK at once, and in HALTED waits until no slot is active;
then the engine is OFF and the record completes. A PANEL_SETUP replaces the rail hold time, clamped to 5000 ms. That a
PANEL_RESUME's progress and detail are 0 is log entry 58. -/
def Obligations.ResumeAndSetup : Prop :=
  ∀ (s : State) (r : RecordCopy),
    (Ready .panelResume r s → s.panel.engine ≠ .halted → ∃ t, exec .panelResume s = .next t
      ∧ t = { s with bus := t.bus, link := takenLink .panelResume r s }
      ∧ Asks s t (takenAccesses .panelResume r s ++ doneAccesses .display r.addr .ok 0#32 0))
    ∧ (Ready .panelResume r s → s.panel.engine = .halted → ∃ t, exec .panelResume s = .next t
      ∧ t = { s with bus := t.bus, link := takenLink .panelResume r s,
                     panel := { s.panel with resumes := s.panel.resumes ++ [r.addr] } }
      ∧ Asks s t (takenAccesses .panelResume r s))
    ∧ (∀ a, s.panel.resumes = [a] → s.panel.engine = .halted → s.panel.slots = [] → Quiet s → Writable .display a s →
        ∃ t, exec .panelResumeComplete s = .next t
      ∧ t = { s with bus := t.bus, panel := { s.panel with engine := .off, resumes := [], flushed := false } }
      ∧ Asks s t (doneAccesses .display a .ok 0#32 0))
    ∧ (Ready .panelSetup r s → ∃ t, exec .panelSetup s = .next t
      ∧ t = { s with bus := t.bus, link := takenLink .panelSetup r s,
                     panel := { s.panel with holdTime := min (half r.bytes 32) 5000 } }
      ∧ Asks s t (takenAccesses .panelSetup r s
          ++ doneAccesses .display r.addr .ok (if 5000 < half r.bytes 32 then 32#32 else 0#32) 0))

/-- R101, R102: what a start evaluation may start. The entry found is one of the list, no stop awaiting its effect
holds it, and its effective rectangle meets no active slot's rectangle and no effective rectangle of an older entry;
and where none is found every entry of the list fails one of these. The effective rectangle and mode are the full
panel in CLEAR while the panel is Unknown, the entry's own rectangle in CLEAR where it meets an uncertain region, else
its own. R118: no step leaves more active slots than it found, unless they are within the slot limit of the supply
class. -/
def Obligations.StartsRespectOrder : Prop :=
  (∀ (p : Panel),
    (∀ e, findStart p [] p.pending = some e → ∃ older newer, p.pending = older ++ e :: newer
      ∧ p.stopHolds e.id = false
      ∧ (∀ sl, sl ∈ p.slots → sl.2.eff.intersects (effective p e).1 = false)
      ∧ ∀ o, o ∈ older → (effective p o).1.intersects (effective p e).1 = false)
    ∧ (findStart p [] p.pending = none → ∀ older e newer, p.pending = older ++ e :: newer →
        p.stopHolds e.id = true ∨ (∃ sl, sl ∈ p.slots ∧ sl.2.eff.intersects (effective p e).1 = true)
          ∨ ∃ o, o ∈ older ∧ (effective p o).1.intersects (effective p e).1 = true)
    ∧ ∀ e, effective p e =
        if p.known = false then ({ x := 0, y := 0, w := 1600, h := 1200 }, .clear, true)
        else if p.uncertain.any (fun u => e.rect.intersects u) = true then (e.rect, .clear, true)
        else (e.rect, e.mode, false))
  ∧ ∀ (c : Instr) (s t : State), sparseWf s.panel.slots = true → exec c s = .next t →
    t.panel.slots.length ≤ s.panel.slots.length
      ∨ t.panel.slots.length ≤ match t.power.cls with | .normal => 8 | .reduced => 4 | .critical => 2 | .exhausted => 0

/-! ## Turn-Ahead Unit (07) -/

/-- R131, R132: a TURN_LOAD is taken and waits for a decode in progress; its body is checked; its entry array is read
through the port, a count of 0 reading none, and then the list is replaced as one step with the key queue emptied and
the offer of a turn in OFFERING withdrawn, its frame FREE, whatever the array does, or the first entry that fails ends
the record with its place as progress, or a bus error ends it with BadAddress. An erase whose mark check is being read
is to be checked again (R196, log entry 27). R132: what the check of an entry array gives: the entries, one for each 8
bytes, each within the array and naming GRAY16, GRAY4 or MONO, none Bad; or the first place that fails. That a body
refused and a bus error give progress 0 is log entry 58. -/
def Obligations.TurnLoadSteps : Prop :=
  (∀ (s : State) (r : RecordCopy) (l : TurnLoad),
      (Ready .turnLoad r s → ∃ t, exec .turnLoad s = .next t ∧ Asks s t (takenAccesses .turnLoad r s)
        ∧ t = { s with bus := t.bus, link := takenLink .turnLoad r s,
                       turn := { s.turn with load := some { record := r, reading := false } } })
      ∧ (s.turn.load = some l → l.reading = false → (s.turn.state = .idle ∨ s.turn.state = .offering) →
          turnBodyOk l.record.bytes = true → byteAt l.record.bytes 36 ≠ 0 → ∃ t, exec .turnLoadCheck s = .next t
        ∧ Asks s t [.buffer .entryArray (wordNat l.record.bytes 32) (byteAt l.record.bytes 36 * 8)]
        ∧ t = { s with bus := t.bus, turn := { s.turn with load := some { l with reading := true } } })
      ∧ (s.turn.load = some l → l.reading = false → (s.turn.state = .idle ∨ s.turn.state = .offering) →
          s.turn.queue = [] → turnBodyOk l.record.bytes = false → Writable .control l.record.addr s → ∃ t,
        exec .turnLoadCheck s = .next t ∧ Asks s t (doneAccesses .control l.record.addr .range 0#32 0)
        ∧ t = { s with bus := t.bus, turn := { s.turn with load := none } })
      ∧ (∀ x y q, s.turn.load = some l → l.reading = true → s.bus.queue = .buffer .entryArray x y :: q →
          Writable .control l.record.addr s → s.turn.queue = [] →
          (∃ t, exec (.turnLoadArrayReadEnd .busError) s = .next t
            ∧ t = { s with bus := t.bus, turn := { s.turn with load := none } }
            ∧ AsksAfter s q t (doneAccesses .control l.record.addr .badAddress 0#32 0))
          ∧ (∀ b i res, turnEntries b 0 (byteAt l.record.bytes 36) = .inr (i, res) → ∃ t,
            exec (.turnLoadArrayReadEnd (.data b)) s = .next t
            ∧ t = { s with bus := t.bus, turn := { s.turn with load := none } }
            ∧ AsksAfter s q t
                (.stateWrite .control l.record.addr .running :: doneAccesses .control l.record.addr res 0#32 i)))
      ∧ (∀ c q es st x, s.turn.load = some l → Writable .control l.record.addr s →
          ((∃ b y z, c = .turnLoadArrayReadEnd (.data b) ∧ l.reading = true
              ∧ s.bus.queue = .buffer .entryArray y z :: q ∧ turnEntries b 0 (byteAt l.record.bytes 36) = .inl es)
            ∨ (c = .turnLoadCheck ∧ l.reading = false ∧ turnBodyOk l.record.bytes = true
                ∧ byteAt l.record.bytes 36 = 0 ∧ es = [] ∧ q = s.bus.queue)) →
          (s.turn.state = .idle ∨ s.turn.state = .offering) → s.store.ex = none →
              (((s.store.power = .poweringUp ∨ (s.store.power = .off ∧ s.store.ta = none ∧ s.store.wf = none)
                  ∨ (s.store.power = .on ∧ s.store.op ≠ none)) ∧ st = s.store
                  ∧ (((∀ p second, s.store.op ≠ some (.raw p .erase second)) ∧ x = s.executor)
                    ∨ ((∃ p second, s.store.op = some (.raw p .erase second))
                        ∧ x = { s.executor with recheck := true })))
                ∨ (ArrayFree s ∧ st = { s.store with idle := s.store.idle.or (some s.store.idleTime) }
                    ∧ x = s.executor)) → ∃ t, exec c s = .next t
            ∧ t = { s with bus := t.bus, store := st, executor := x, turn := {
                  (if s.turn.state = .offering then s.turn.setFrame s.turn.frame .free else s.turn) with
                  state := .idle, load := none, entries := es, cursor := byteAt l.record.bytes 37,
                  armed := byteAt l.record.bytes 38 == 1, interval := byteAt l.record.bytes 39, counter := 0,
                  owed := false, queue := [] } }
            ∧ AsksAfter s q t (.stateWrite .control l.record.addr .running
                :: doneAccesses .control l.record.addr .ok 0#32 (byteAt l.record.bytes 36))))
  ∧ (∀ (a : List Byte) (n : Nat),
      (∀ es, turnEntries a 0 n = .inl es → es.length = n ∧ ∀ i e, es[i]? = some e →
        e.block = half a (8 * i) ∧ e.first = byteAt a (8 * i + 2) ∧ e.count = byteAt a (8 * i + 3) ∧ e.bad = false
        ∧ e.block ≤ 4095 ∧ e.first ≤ 63 ∧ 1 ≤ e.count ∧ e.count ≤ 64 ∧ e.block * 64 + e.first + e.count ≤ 262144
        ∧ modeOfCode (byteAt a (8 * i + 4)) = some e.mode ∧ e.mode ≠ .clear)
      ∧ (∀ i res, turnEntries a 0 n = .inr (i, res) → i < n ∧ turnEntryAt a i = .inr res
        ∧ ∀ j, j < i → ∃ e, turnEntryAt a j = .inl e))

/-- R133: a TURN_ARM that sets the armed flag completes with OK at once; one that clears it empties the key queue and
completes once the turn state is IDLE; any other value completes with Range. -/
def Obligations.TurnArmActs : Prop :=
  ∀ (s : State) (r : RecordCopy),
    (Ready .turnArm r s → byteAt r.bytes 32 = 1 → ∃ t, exec .turnArm s = .next t
      ∧ t = { s with bus := t.bus, link := takenLink .turnArm r s, turn := { s.turn with armed := true } }
      ∧ Asks s t (takenAccesses .turnArm r s ++ doneAccesses .control r.addr .ok 0#32 0))
    ∧ (Ready .turnArm r s → byteAt r.bytes 32 = 0 → ∃ t, exec .turnArm s = .next t
      ∧ t = { s with bus := t.bus, link := takenLink .turnArm r s,
                     turn := { s.turn with armed := false, queue := [], arm := some r.addr } }
      ∧ Asks s t (takenAccesses .turnArm r s))
    ∧ (Ready .turnArm r s → 1 < byteAt r.bytes 32 → ∃ t, exec .turnArm s = .next t
      ∧ t = { s with bus := t.bus, link := takenLink .turnArm r s }
      ∧ Asks s t (takenAccesses .turnArm r s ++ doneAccesses .control r.addr .range 0#32 0))
    ∧ (∀ a, s.turn.arm = some a → s.turn.state = .idle → s.turn.queue = [] → Writable .control a s → ∃ t,
      exec .turnArmComplete s = .next t ∧ t = { s with bus := t.bus, turn := { s.turn with arm := none } }
      ∧ Asks s t (doneAccesses .control a .ok 0#32 0))

/-- R137, R138, R141: a page of the extent reaches the decode buffer behind the pages before it, and after the last
the turn is CHECKING; a header and CRC that pass lead to DECODING; a page that could not be read, or an image that
fails, marks the entry Bad, frees the frame, empties the queue and sets TURN_ERROR, and in the DOZE states that is a
wake (R53, R54). How a failed read reaches the unit is log entry 28. -/
def Obligations.TurnReadsAndChecks : Prop :=
  ∀ s : State, (s.wm.state = .active ∨ s.wm.state = .entering) → s.panel.pending = [] →
    s.power.descentPending = false →
    (∀ d more, s.turn.state = .reading → s.turn.arrived = some d :: more → ∃ t, exec .turnPageReadEnd s = .next t
      ∧ t = { s with bus := t.bus, wm := t.wm, turn := { s.turn with
            arrived := more, written := s.turn.written + 1,
            state := if s.turn.written + 1 < s.turn.extentCount then .reading else .checking } }
      ∧ t.wm.decode = overlay s.wm.decode (s.turn.written * 4096) d ∧ t.wm.panel = s.wm.panel
      ∧ t.wm.frameA = s.wm.frameA ∧ t.wm.frameB = s.wm.frameB ∧ t.wm.bankA = s.wm.bankA ∧ t.wm.bankB = s.wm.bankB)
    ∧ (s.turn.state = .checking → imageOk s.wm.decode s.turn.extentCount = true → ∃ t,
      exec .turnImageCheckEnd s = .next t
      ∧ t = { s with bus := t.bus, wm := t.wm, turn := { s.turn with state := .decoding } })
    ∧ (∀ c, ((c = .turnPageReadEnd ∧ s.turn.state = .reading ∧ ∃ more, s.turn.arrived = none :: more)
          ∨ (c = .turnImageCheckEnd ∧ s.turn.state = .checking
              ∧ imageOk s.wm.decode s.turn.extentCount = false)) → ∃ t, exec c s = .next t
      ∧ t.turn.state = .idle ∧ t.turn.queue = [] ∧ t.turn.cursor = s.turn.cursor ∧ t.turn.frameState s.turn.frame = .free
      ∧ (¬ InDoze s → t.power = s.power ∧ t.panel = s.panel
          ∧ t.regs = { s.regs with cause := s.regs.cause ||| causeBit turnErrorCause })
      ∧ (InDoze s → t.power.state = .waking ∧ t.power.wakeReason = .turnError ∧ t.power.dozeTimer = none
          ∧ t.power.wakeTimer = none ∧ t.panel = { s.panel with flushed := false }
          ∧ t.regs = { s.regs with hostwake := true,
                                   cause := s.regs.cause ||| causeBit turnErrorCause ||| causeBit wakeCause })
      ∧ (t.turn.entries[s.turn.target]?).map (·.bad) = (s.turn.entries[s.turn.target]?).map fun _ => true)

/-- R139, R140: a decode that succeeds writes the frame; its update joins the pending list as a full-panel update of
the entry's mode, the frame is HELD, the cursor becomes the target and the turn is IDLE; a full update sets the
full-refresh counter to 0 and clears full owed, and another counts. With the engine OFF, the panel Known and nothing
in the way the update starts at once; with 16 entries waiting the turn stays in OFFERING. A decode that overflows or
falls short fails the turn, and the cursor stays. That a decode is applied whole at its end is log entry 23. R139:
what a decode that succeeds leaves: exactly one level for each pixel of the panel, the runs in order; and a decode
never writes more. -/
def Obligations.DecodeEndsTheTurn : Prop :=
  (∀ (s : State) (full : Bool) (code : List Byte), s.turn.state = .decoding →
      (s.wm.state = .active ∨ s.wm.state = .entering) → s.power.state = .run →
      s.power.forced = false → s.power.descentPending = false → s.turn.queue = [] →
      (full = true ↔ 0 < s.turn.interval ∧ (s.turn.owed = true ∨ s.turn.counter + 1 = s.turn.interval)) →
      code = imageCode s.wm.decode →
      (s.panel.pending = [] → s.panel.engine = .halted → ∃ t, exec .decodeEnd s = .next t
        ∧ t.turn.state = .idle
        ∧ t.wm.frame s.turn.frame = decodeLevels 1920000 code
            ++ (s.wm.frame s.turn.frame).drop (decodeLevels 1920000 code).length
        ∧ (decodeOk 1920000 code = true →
            t.turn = { s.turn.setFrame s.turn.frame .held with
              state := .idle, cursor := s.turn.target, offerFull := full,
              counter := if full then 0 else if 0 < s.turn.interval then s.turn.counter + 1 else s.turn.counter,
              owed := if full then false else s.turn.owed,
              latestFull := if full then some s.panel.nextId else s.turn.latestFull }
            ∧ t.regs = s.regs
            ∧ ∃ e, t.panel.pending = [e] ∧ e.src = .internal s.turn.frame ∧ e.id = s.panel.nextId
                ∧ e.rect = { x := 0, y := 0, w := 1600, h := 1200 } ∧ e.mode = s.turn.mode ∧ e.maySupersede = true
                ∧ e.changedOnly = !full)
        ∧ (decodeOk 1920000 code = false →
            t.turn.cursor = s.turn.cursor ∧ t.turn.frameState s.turn.frame = .free ∧ t.panel.pending = []
            ∧ t.regs.cause = s.regs.cause ||| causeBit turnErrorCause))
      ∧ (decodeOk 1920000 code = true → s.panel.pending = [] → s.panel.engine = .off → s.panel.slots = [] →
          s.panel.stops = [] → s.panel.copyQueue = [] → s.panel.known = true → s.panel.uncertain = [] →
          s.power.cls ≠ .exhausted → s.wave.active = .a → s.wave.validA = true →
          setHasMode (s.wm.header .a) s.turn.mode = true → ∃ t, exec .decodeEnd s = .next t ∧ Asks s t []
        ∧ t.turn.state = .idle ∧ t.turn.cursor = s.turn.target ∧ t.turn.frameState s.turn.frame = .held
        ∧ t.turn.counter = (if full then 0 else if 0 < s.turn.interval then s.turn.counter + 1 else s.turn.counter)
        ∧ t.wm.frame s.turn.frame = decodeLevels 1920000 code
            ++ (s.wm.frame s.turn.frame).drop (decodeLevels 1920000 code).length
        ∧ t.panel.pending = [] ∧ t.panel.engine = .rising ∧ t.panel.copyQueue = [0] ∧ t.regs = s.regs
        ∧ ∃ sl, t.panel.slots = [(0, sl)] ∧ sl.state = .copying ∧ sl.src = .internal s.turn.frame
            ∧ sl.id = s.panel.nextId ∧ sl.rect = { x := 0, y := 0, w := 1600, h := 1200 } ∧ sl.eff = sl.rect
            ∧ sl.mode = s.turn.mode ∧ sl.effMode = s.turn.mode ∧ sl.changedOnly = !full)
      ∧ (decodeOk 1920000 code = true → 16 ≤ s.panel.pending.length → s.panel.engine = .halted → ∃ t,
          exec .decodeEnd s = .next t ∧ Asks s t []
        ∧ t = { s with bus := t.bus, wm := t.wm, turn := { s.turn with state := .offering, offerFull := full } }))
  ∧ (∀ (pixels : Nat) (code : List Byte),
      (decodeLevels pixels code).length ≤ pixels
      ∧ (decodeOk pixels code = true → (decodeLevels pixels code).length = pixels
          ∧ decodeLevels pixels code = (decodeRuns code).flatMap fun r => List.replicate r.2 r.1)
      ∧ ∀ r, r ∈ decodeRuns code → 1 ≤ r.2 ∧ r.2 ≤ 271)

/-! ## Book store array (09) -/

/-- R167, R170, R175: powered up, the array is ON and the arbiter grants the Turn-Ahead reader first, then the
Waveform Loader, then the executor; with nothing waiting the idle timer runs, and its expiry powers the array off. A
page read that mismatches or times out is made once more within its grant; its outcome reaches its client, the
Turn-Ahead reader, the Waveform Loader or the executor; while a turn reads its extent each grant asks for its next
page (log entry 28); a survey's raw read settles the block, or the next page is read. What the array returned is the
command's operand (log entries 10, 11). A failed read stands in the Turn-Ahead Unit's pages, as none, until
TURN_PAGE_READ_END acts on it (log entry 28). -/
def Obligations.ArrayServesReads : Prop :=
  ∀ s : State, s.store.op = none → s.store.erase = none →
    (s.store.power = .poweringUp →
      (∀ c p, ((c = .turnAhead ∧ s.store.ta = some p) ∨ (c = .waveform ∧ s.store.ta = none ∧ s.store.wf = some p)
          ∨ (c = .executor ∧ s.store.ta = none ∧ s.store.wf = none ∧ s.store.ex = some (.read p))) → ∃ t,
        exec .arrayPowerUpEnd s = .next t ∧ Asks s t []
        ∧ t = { s with bus := t.bus, turn := if c = .turnAhead then turnAsked s.turn else s.turn, store := { s.store with
            power := .on, idle := none, op := some (.read c p false),
            ta := if c = .turnAhead then nextTurnPage s.turn else none, wf := if c = .waveform then none else s.store.wf, ex := if c = .executor then none else s.store.ex } })
      ∧ (s.store.ta = none → s.store.wf = none → s.store.ex = none → s.store.idle = none → ∃ t,
        exec .arrayPowerUpEnd s = .next t ∧ Asks s t []
        ∧ t = { s with bus := t.bus, store := { s.store with power := .on, idle := some s.store.idleTime } }))
    ∧ (s.store.power = .on → s.store.idle ≠ none → ∃ t, exec .arrayIdleTimerExpiry s = .next t
      ∧ t = { s with bus := t.bus, store := { s.store with power := .off, idle := none } })
    ∧ (∀ c p page u, u = { s with store := { s.store with op := some (.read c p false) } } →
      (∃ t, exec .busyLimitExpiry u = .next t
        ∧ t = { s with bus := t.bus, store := { s.store with op := some (.read c p true) } })
      ∧ (pageErased page = false → crc32 page.data ≠ page.pageCrc → ∃ t, exec (.pageReadEnd page) u = .next t
        ∧ t = { s with bus := t.bus, store := { s.store with op := some (.read c p true) } }))
    ∧ (ArrayFree s → s.store.idle = none → ∀ p second page u, (Instr.pageReadEnd page).wellFormed = true →
        u = { s with store := { s.store with op := some (.read .turnAhead p second) } } →
      ∀ d, ((pageErased page = true ∧ d = some (List.replicate 4096 0xFF#8))
          ∨ (pageErased page = false ∧ crc32 page.data = page.pageCrc ∧ d = some page.data)
          ∨ (pageErased page = false ∧ crc32 page.data ≠ page.pageCrc ∧ second = true ∧ d = none)) → ∃ t,
        exec (.pageReadEnd page) u = .next t
        ∧ t = { s with bus := t.bus, wm := t.wm, turn := { s.turn with arrived := s.turn.arrived ++ [d] },
                       store := { s.store with idle := some s.store.idleTime } })
    ∧ (s.store.power = .on → ∀ p n second page d u, (Instr.pageReadEnd page).wellFormed = true →
        u = { s with store := { s.store with op := some (.read .turnAhead p second), ta := some n } } →
        ((pageErased page = true ∧ d = List.replicate 4096 0xFF#8)
          ∨ (pageErased page = false ∧ crc32 page.data = page.pageCrc ∧ d = page.data)) → ∃ t,
      exec (.pageReadEnd page) u = .next t
      ∧ t = { s with bus := t.bus, wm := t.wm,
                     turn := { turnAsked s.turn with arrived := s.turn.arrived ++ [some d] },
                     store := { s.store with
                       idle := none, op := some (.read .turnAhead n false), ta := nextTurnPage s.turn } })
    ∧ (ArrayFree s → s.store.idle = none → ∀ p second page l u, (Instr.pageReadEnd page).wellFormed = true →
        s.wave.load = some l → u = { s with store := { s.store with op := some (.read .waveform p second) } } →
      (∀ d w, ((pageErased page = true ∧ d = List.replicate 4096 0xFF#8 ∧ w = warnErased)
          ∨ (pageErased page = false ∧ crc32 page.data = page.pageCrc ∧ d = page.data ∧ w = 0#32)) → ∃ t,
        exec (.pageReadEnd page) u = .next t
        ∧ t = { s with bus := t.bus, wm := t.wm,
                       wave := { s.wave with load := some { l with page := some d, detail := l.detail ||| w } },
                       store := { s.store with idle := some s.store.idleTime } })
      ∧ (Writable .display l.addr s → second = true → ∀ c, (c = .busyLimitExpiry ∨ (c = .pageReadEnd page
            ∧ pageErased page = false ∧ crc32 page.data ≠ page.pageCrc)) → ∃ t, exec c u = .next t
        ∧ t.wave.load = none ∧ t.store = { s.store with idle := some s.store.idleTime }
        ∧ Asks s t (doneAccesses .display l.addr .readError l.detail l.progress)))
    ∧ (ArrayFree s → s.store.idle = none → ∀ p second page u, (Instr.pageReadEnd page).wellFormed = true →
        s.executor.phase = .reading →
        u = { s with store := { s.store with op := some (.read .executor p second) } } →
      (∀ d w, ((pageErased page = true ∧ d = List.replicate 4096 0xFF#8 ∧ w = warnErased)
          ∨ (pageErased page = false ∧ crc32 page.data = page.pageCrc ∧ d = page.data ∧ w = 0#32)) → ∃ t,
        exec (.pageReadEnd page) u = .next t
        ∧ t = { s with bus := t.bus, store := { s.store with idle := some s.store.idleTime },
                       executor := { s.executor with buf := d, detail := s.executor.detail ||| w } }
        ∧ Asks s t [.buffer .destination (wordNat s.executor.record.bytes 36 + s.executor.page * 4096) 4096])
      ∧ (Writable .store s.executor.record.addr s → second = true → ∀ c, (c = .busyLimitExpiry
            ∨ (c = .pageReadEnd page ∧ pageErased page = false ∧ crc32 page.data ≠ page.pageCrc)) → ∃ t,
        exec c u = .next t ∧ t.executor.phase = .idle ∧ t.executor.progress = s.executor.progress
        ∧ t.store = { s.store with idle := some s.store.idleTime } ∧ t.shared = s.shared
        ∧ Asks s t (doneAccesses .store s.executor.record.addr .readError s.executor.detail s.executor.progress)))
    ∧ (ArrayFree s → sparseWf s.store.blocks = true → ∀ p why second page u, u = { s with store := { s.store with
          op := some (.raw p why second) } } →
      (∀ f, ((p % 64 = 0 ∧ page.retired = true ∧ f = .retired)
          ∨ (¬ (p % 64 = 0 ∧ page.retired = true) ∧ why ≠ .erase
              ∧ ((pageErased page = true ∧ f = .mark (p % 64))
                ∨ (pageErased page = false ∧ p % 64 = 63 ∧ f = .mark 64)))) → ∃ t, exec (.rawReadEnd page) u = .next t
        ∧ t.store.block (p / 64) = { s.store.block (p / 64) with fill := f }
        ∧ (∀ b, b ≠ p / 64 → t.store.block b = s.store.block b) ∧ t.store.array = s.store.array)
      ∧ (¬ (p % 64 = 0 ∧ page.retired = true) → why ≠ .erase → pageErased page = false → p % 64 ≠ 63 → ∃ t,
        exec (.rawReadEnd page) u = .next t ∧ t = { s with bus := t.bus, store := { s.store with
            op := some (.raw (p + 1) why false), idle := none } }))

/-- R164, R170 to R172, R176 to R178, R180, R181, R192: a program that succeeds puts its data and page CRC into the
page and raises the fill mark by 1, and one that fails leaves the page undefined and the fill mark as it stands; an
erase that succeeds leaves every page of its block erased and the fill mark 0, and one that fails leaves them
undefined; after a failure the executor retires the block by a mark write, which changes page 0's retirement field
alone and sets STORE_WORN. An erase under way is suspended for a waiting read while its count is below 16, and beyond
it the read waits; a suspension lets the waiting reads be served, the Turn-Ahead reader's before the Waveform
Loader's, and with none waiting the erase is resumed. What State keeps of the array is log entry 10. -/
def Obligations.ArrayWritesEnd : Prop :=
  ∀ s : State, ArrayFree s → sparseWf s.store.array = true → sparseWf s.store.blocks = true →
    (∀ p d u, u = { s with store := { s.store with op := some (.program p d) } } →
      (∃ t, exec (.pageProgramEnd true) u = .next t
        ∧ t.store.page p = { s.store.page p with data := .written d (crc32 d) }
        ∧ (∀ x, x ≠ p → t.store.page x = s.store.page x)
        ∧ t.store.block (p / 64) = { s.store.block (p / 64) with fill := .mark (p % 64 + 1) }
        ∧ (∀ b, b ≠ p / 64 → t.store.block b = s.store.block b) ∧ t.executor.progress = s.executor.progress + 1
        ∧ t.shared = s.shared)
      ∧ (∀ c, (c = .pageProgramEnd false ∨ c = .busyLimitExpiry) → ∃ t, exec c u = .next t
        ∧ t = { s with bus := t.bus, executor := { s.executor with phase := .retiring, block := p / 64 },
                       store := { s.store with
                         op := some (.mark (p / 64)), idle := none, array := t.store.array } }
        ∧ t.store.page p = { data := .undefined, field := .undefined }
        ∧ ∀ x, x ≠ p → t.store.page x = s.store.page x))
    ∧ (∀ b n phase u, phase ≠ ErasePhase.suspended →
        u = { s with store := { s.store with erase := some { block := b, phase := phase, count := n } } } →
      (∃ t, exec (.eraseEnd true) u = .next t
        ∧ (∀ i, i < 64 → t.store.page (b * 64 + i) = { data := .erased, field := .blank })
        ∧ (∀ x, x / 64 ≠ b → t.store.page x = s.store.page x)
        ∧ t.store.block b = { s.store.block b with fill := .mark 0 }
        ∧ (∀ c, c ≠ b → t.store.block c = s.store.block c) ∧ t.executor.progress = s.executor.progress + 1)
      ∧ (∀ c, (c = .eraseEnd false ∨ c = .busyLimitExpiry) → ∃ t, exec c u = .next t
        ∧ t = { s with bus := t.bus, executor := { s.executor with phase := .retiring, block := b },
                       store := { s.store with op := some (.mark b), idle := none, array := t.store.array } }
        ∧ (∀ i, i < 64 → t.store.page (b * 64 + i) = { data := .undefined, field := .undefined })
        ∧ ∀ x, x / 64 ≠ b → t.store.page x = s.store.page x))
    ∧ (∀ b n p w u, u = { s with store := { s.store with
          ta := some p, wf := w, erase := some { block := b, phase := .suspending, count := n } } } → ∃ t,
      exec .eraseSuspended u = .next t ∧ t = { s with bus := t.bus, turn := turnAsked s.turn, store := { s.store with
          erase := some { block := b, phase := .suspended, count := n + 1 },
          op := some (.read .turnAhead p false), idle := none, ta := nextTurnPage s.turn, wf := w } })
    ∧ (∀ b n p u, u = { s with store := { s.store with
          wf := some p, erase := some { block := b, phase := .suspending, count := n } } } → ∃ t,
      exec .eraseSuspended u = .next t ∧ t = { s with bus := t.bus, store := { s.store with
          erase := some { block := b, phase := .suspended, count := n + 1 },
          op := some (.read .waveform p false), idle := none } })
    ∧ (∀ b n p second page u, (Instr.pageReadEnd page).wellFormed = true → pageErased page = false →
        crc32 page.data = page.pageCrc → u = { s with store := { s.store with
          op := some (.read .turnAhead p second),
          erase := some { block := b, phase := .suspended, count := n } } } → ∃ t,
      exec (.pageReadEnd page) u = .next t
      ∧ t = { s with bus := t.bus, wm := t.wm, turn := { s.turn with arrived := s.turn.arrived ++ [some page.data] },
                     store := { s.store with erase := some { block := b, phase := .running, count := n } } })
    ∧ (∀ b n p m w second page u, (Instr.pageReadEnd page).wellFormed = true → pageErased page = false →
        crc32 page.data = page.pageCrc → u = { s with store := { s.store with
          op := some (.read .turnAhead p second), ta := some m, wf := w,
          erase := some { block := b, phase := .suspended, count := n } } } → ∃ t,
      exec (.pageReadEnd page) u = .next t
      ∧ t = { s with bus := t.bus, wm := t.wm,
                     turn := { turnAsked s.turn with arrived := s.turn.arrived ++ [some page.data] },
                     store := { s.store with
                       idle := none, op := some (.read .turnAhead m false), ta := nextTurnPage s.turn, wf := w,
                       erase := some { block := b, phase := .suspended, count := n } } })
    ∧ (∀ b n p l second page u, (Instr.pageReadEnd page).wellFormed = true → pageErased page = false →
        crc32 page.data = page.pageCrc → s.wave.load = some l → u = { s with store := { s.store with
          op := some (.read .waveform p second),
          erase := some { block := b, phase := .suspended, count := n } } } → ∃ t,
      exec (.pageReadEnd page) u = .next t
      ∧ t = { s with bus := t.bus, wm := t.wm, wave := { s.wave with load := some { l with page := some page.data } },
                     store := { s.store with erase := some { block := b, phase := .running, count := n } } })
    ∧ (∀ b n key more target e f a u, s.turn.state = .idle → s.turn.load = none → s.turn.arm = some a →
        s.turn.queue = key :: more → s.turn.targetOf key = some target → s.turn.entries[target]? = some e →
        e.bad = false → modeInForce e.mode s = true → s.turn.takeFrame = some f →
        u = { s with store := { s.store with
          idle := none, erase := some { block := b, phase := .running, count := n } } } → ∃ t,
      exec .turnArmComplete u = .next t ∧ t.turn.state = .reading ∧ t.turn.target = target ∧ t.turn.queue = more
      ∧ t.store = { s.store with
          idle := none, ta := some (e.block * 64 + e.first),
          erase := some { block := b, phase := if n < 16 then .suspending else .running, count := n } })
    ∧ (∀ b n l u, s.wave.load = some l → l.stage = .bankWait → bankReferenced s.wave.active.other s = false →
        u = { s with store := { s.store with
          idle := none, erase := some { block := b, phase := .running, count := n } } } → ∃ t,
      exec .waveformBankFree u = .next t ∧ t.store = { s.store with
          idle := none, wf := some (l.block * 64 + l.first + l.progress),
          erase := some { block := b, phase := if n < 16 then .suspending else .running, count := n } })
    ∧ (∀ b ok u, Writable .store s.executor.record.addr s → s.executor.kind ≠ none →
        u = { s with store := { s.store with op := some (.mark b) } } → ∃ t, exec (.markWriteEnd ok) u = .next t
      ∧ t.store.block b = { s.store.block b with fill := .retired }
      ∧ (∀ c, c ≠ b → t.store.block c = s.store.block c) ∧ (∀ x, x ≠ b * 64 → t.store.page x = s.store.page x)
      ∧ t.store.page (b * 64) = { s.store.page (b * 64) with field := if ok then .marked else .undefined }
      ∧ t.regs = { s.regs with cause := s.regs.cause ||| causeBit storeWornCause } ∧ t.executor.phase = .idle
      ∧ Asks s t (doneAccesses .store s.executor.record.addr
          (if s.executor.kind = some .storeIngest then .programFail else .eraseFail) 0#32 s.executor.progress))

/-- R173, R174, R198: LOCK, UNLOCK and PIN over a range change each block's protection as the table of R173 says,
count the blocks changed, and complete with Protected where an UNLOCK met a PINNED block; no fill state and no block
outside the range changes. A change of GUARD while the main domain is powered pins the unpinned, or unpins the pinned.
-/
def Obligations.ProtectionFollowsTable : Prop :=
  ∀ s : State,
    (∀ r, Ready .storeProtect r s → sparseWf s.store.blocks = true → byteAt r.bytes 32 ≤ 2 → half r.bytes 34 ≤ 4095 →
        1 ≤ half r.bytes 36 → half r.bytes 34 + half r.bytes 36 ≤ 4096 → s.power.forced = false →
        s.power.cls ≠ .exhausted → ∃ t, exec .storeProtect s = .next t
      ∧ t = { s with bus := t.bus, link := takenLink .storeProtect r s, executor := t.executor,
                     store := { s.store with blocks := t.store.blocks } }
      ∧ t.executor.phase = .idle
      ∧ (∀ b, (t.store.block b).fill = (s.store.block b).fill)
      ∧ (∀ b, (b < half r.bytes 34 ∨ half r.bytes 34 + half r.bytes 36 ≤ b) → t.store.block b = s.store.block b)
      ∧ (∀ b, half r.bytes 34 ≤ b → b < half r.bytes 34 + half r.bytes 36 →
          (t.store.block b).prot = match byteAt r.bytes 32, (s.store.block b).prot with
            | 0, .unlocked => .locked | 0, .pinnedOpen => .pinnedShut
            | 1, .locked => .unlocked | 1, .pinnedShut => .pinnedOpen
            | 2, .unlocked | 2, .locked => if s.pins.guard then .pinned else .pinnedShut
            | 2, .pinnedOpen => .pinnedShut
            | _, p => p)
      ∧ ∃ res, Asks s t (takenAccesses .storeProtect r s ++ doneAccesses .store r.addr res 0#32
            ((List.range (half r.bytes 36)).filter fun i => (t.store.block (half r.bytes 34 + i)).prot
              ≠ (s.store.block (half r.bytes 34 + i)).prot).length)
          ∧ (res = .ok ∨ res = .protectedBlock)
          ∧ (res = .protectedBlock ↔ byteAt r.bytes 32 = 1 ∧ ∃ b, half r.bytes 34 ≤ b
              ∧ b < half r.bytes 34 + half r.bytes 36 ∧ (s.store.block b).prot = .pinned))
    ∧ (∀ r res, Ready .storeProtect r s →
        ((res = .range ∧ (2 < byteAt r.bytes 32 ∨ rangeOk (half r.bytes 34) (half r.bytes 36) = false))
          ∨ (res = .lowSupply ∧ byteAt r.bytes 32 ≤ 2 ∧ rangeOk (half r.bytes 34) (half r.bytes 36) = true
              ∧ (s.power.forced = true ∨ s.power.cls = .exhausted))) → ∃ t, exec .storeProtect s = .next t
      ∧ t = { s with bus := t.bus, link := takenLink .storeProtect r s, executor := t.executor }
      ∧ t.executor.phase = .idle
      ∧ Asks s t (takenAccesses .storeProtect r s ++ doneAccesses .store r.addr res 0#32 0))
    ∧ (∀ g, s.power.vddMain = true → s.pins.guard ≠ g → ∃ t, exec (.guardChange g) s = .next t
      ∧ t = { s with bus := t.bus, pins := { s.pins with guard := g }, store := { s.store with
          blocks := t.store.blocks } }
      ∧ ∀ b, t.store.block b = { s.store.block b with prot := match g, (s.store.block b).prot with
          | true, .pinnedShut | true, .pinnedOpen => .pinned
          | false, .pinned => .pinnedShut
          | _, p => p })
    ∧ (∀ g, (s.power.vddMain = false ∨ s.pins.guard = g) → ∃ t, exec (.guardChange g) s = .next t
      ∧ t = { s with bus := t.bus, pins := { s.pins with guard := g } })

/-! ## Store Lane Executor (10) -/

/-- R186 to R191, R201: the checks of a STORE_INGEST in order, with their results; a block with its first page at the
fill mark enters VERIFYING, which reads the whole payload through the port, and an UNKNOWN one is surveyed; the
payload's CRC decides between PROGRAMMING and ChecksumMismatch; each page is read through the port, padded with 0xFF
and programmed, and after it the next is read; a program refused because the protection has changed ends the record
with Protected and the count of the pages programmed; after the last page the second CRC decides the result. The count
that the executor reports is the one its record is completed with (log entry 32). -/
def Obligations.IngestSteps : Prop :=
  ∀ (s : State) (r : RecordCopy) (b : Nat) (e : BlockEntry), b = half r.bytes 32 → e = s.store.block b →
    (Ready .storeIngest r s → ArrayFree s → ∀ res n,
        ((res = .range ∧ n = 0 ∧ ingestInRange r.bytes = false)
          ∨ (ingestInRange r.bytes = true ∧
              ((res = .lowSupply ∧ n = 0 ∧ (s.power.forced = true ∨ s.power.cls = .exhausted
                  ∨ s.power.cls = .critical))
                ∨ (s.power.forced = false ∧ s.power.cls ≠ .exhausted ∧ s.power.cls ≠ .critical ∧
                    ((res = .protectedBlock ∧ n = 0 ∧ e.prot.writable = false)
                      ∨ (e.prot.writable = true ∧ ((res = .retiredBlock ∧ n = 0 ∧ e.fill = .retired)
                          ∨ (res = .orderViolation ∧ e.fill = .mark n ∧ n ≠ byteAt r.bytes 34)))))))) → ∃ t,
      exec .storeIngest s = .next t ∧ t.executor.phase = .idle ∧ t.store.blocks = s.store.blocks
      ∧ t.store.array = s.store.array ∧ t.store.op = none ∧ t.link = takenLink .storeIngest r s
      ∧ t.executor.progress = n
      ∧ Asks s t (takenAccesses .storeIngest r s ++ doneAccesses .store r.addr res 0#32 n))
    ∧ (Ready .storeIngest r s → ArrayFree s → ingestInRange r.bytes = true → s.power.forced = false →
        (s.power.cls = .normal ∨ s.power.cls = .reduced) → e.prot.writable = true →
        (e.fill = .unknown ∨ e.fill = .mark (byteAt r.bytes 34)) → ∃ t, exec .storeIngest s = .next t
      ∧ t.executor.record = r ∧ t.executor.kind = some .storeIngest
      ∧ (e.fill = .unknown → Asks s t (takenAccesses .storeIngest r s)
          ∧ t.executor.phase = .checking ∧ t.store.op = some (.raw (b * 64) .ingest false))
      ∧ (e.fill ≠ .unknown → Asks s t (takenAccesses .storeIngest r s
            ++ [.buffer .payload (wordNat r.bytes 40) (wordNat r.bytes 36)])
          ∧ t.executor.phase = .verifying ∧ t.store.op = none))
    ∧ (∀ x y tr, s.executor.record = r → s.executor.phase = .verifying → .buffer .payload x y ∈ s.bus.transfers →
        tr = s.bus.transfers.filter (fun a => !a.isBuffer .payload) → Writable .store r.addr s →
      (∃ t, exec (.ingestVerifyEnd .busError) s = .next t ∧ t.executor.phase = .idle ∧ t.store = s.store
        ∧ PortAsked s.bus.queue tr t (doneAccesses .store r.addr .badAddress 0#32 0))
      ∧ ∀ payload, payload.length = wordNat r.bytes 36 →
        (crc32 payload = word r.bytes 44 → ∃ t, exec (.ingestVerifyEnd (.data payload)) s = .next t
          ∧ PortAsked s.bus.queue tr t [.buffer .payloadPage (wordNat r.bytes 40) (min 4096 (wordNat r.bytes 36))]
          ∧ t = { s with bus := t.bus, executor := { s.executor with
              phase := .programming, page := 0, progress := 0, crc := crcInit, buf := [] } })
        ∧ (crc32 payload ≠ word r.bytes 44 → ∃ t, exec (.ingestVerifyEnd (.data payload)) s = .next t
          ∧ t.executor.phase = .idle ∧ t.store = s.store
          ∧ PortAsked s.bus.queue tr t (doneAccesses .store r.addr .checksumMismatch 0#32 0)))
    ∧ (∀ x y q, s.executor.record = r → s.executor.phase = .programming → s.executor.buf = [] →
        s.bus.queue = .buffer .payloadPage x y :: q → Writable .store r.addr s → ArrayFree s →
      (∃ t, exec (.ingestPageDataRead .busError) s = .next t ∧ t.executor.phase = .idle ∧ t.store = s.store
        ∧ AsksAfter s q t (doneAccesses .store r.addr .badAddress 0#32 s.executor.progress))
      ∧ ∀ payload p, payload.length = ingestPageSize r.bytes s.executor.page →
          p = b * 64 + byteAt r.bytes 34 + s.executor.page →
        ((s.store.block (p / 64)).prot.writable = true → (s.store.block (p / 64)).fill = .mark (p % 64) → ∃ t,
          exec (.ingestPageDataRead (.data payload)) s = .next t
          ∧ t = { s with bus := t.bus, store := t.store, executor := t.executor }
          ∧ t.executor = { s.executor with
              buf := payload ++ List.replicate (4096 - payload.length) 0xFF#8, crc := crcUpdate s.executor.crc payload }
          ∧ t.store = { s.store with idle := none, op := some (.program p t.executor.buf) }
          ∧ AsksAfter s q t
              (if s.executor.page + 1 = ingestPages r.bytes then [.stateWrite .store r.addr .running] else []))
        ∧ ((s.store.block (p / 64)).prot.writable = false → ∃ t, exec (.ingestPageDataRead (.data payload)) s = .next t
          ∧ t.executor.phase = .idle ∧ t.executor.progress = s.executor.progress
          ∧ t.store = { s.store with idle := some s.store.idleTime }
          ∧ AsksAfter s q t
              ((if s.executor.page + 1 = ingestPages r.bytes then [.stateWrite .store r.addr .running] else [])
                ++ doneAccesses .store r.addr .protectedBlock 0#32 s.executor.progress)))
    ∧ (∀ p d u, s.executor.record = r → ArrayFree s → u = { s with store := { s.store with op := some (.program p d) } } →
      (s.executor.page + 1 < ingestPages r.bytes → ∃ t, exec (.pageProgramEnd true) u = .next t
        ∧ t.executor = { s.executor with
            page := s.executor.page + 1, progress := s.executor.progress + 1, buf := [] }
        ∧ t.store.op = none
        ∧ Asks s t [.buffer .payloadPage (wordNat r.bytes 40 + (s.executor.page + 1) * 4096)
            (min 4096 (wordNat r.bytes 36 - (s.executor.page + 1) * 4096))])
      ∧ (Writable .store r.addr s → ingestPages r.bytes ≤ s.executor.page + 1 → ∃ t,
        exec (.pageProgramEnd true) u = .next t ∧ t.executor.phase = .idle
        ∧ t.executor.progress = s.executor.progress + 1
        ∧ Asks s t (doneAccesses .store r.addr (if crcResult s.executor.crc = word r.bytes 44 then .ok
            else .checksumMismatch) 0#32 (s.executor.progress + 1))))

/-- R186, R193, R194, R199 to R201: a STORE_READ asks for its pages one by one, writes each to its destination through
the port and counts it; a STORE_SURVEY surveys the UNKNOWN blocks of its range, and writes the report of the range as
it then stands. A bus error on a destination or report write ends the record with BadAddress, and only bytes of that
page or report can have been written (log entry 48). The count that the executor reports is the one its record is
completed with (log entry 32). -/
def Obligations.ReadAndSurveySteps : Prop :=
  ∀ (s : State) (r : RecordCopy),
    (Ready .storeRead r s → ArrayFree s →
      (readInRange r.bytes = true → s.power.forced = false → s.power.cls ≠ .exhausted → ∃ t,
        exec .storeRead s = .next t ∧ Asks s t (takenAccesses .storeRead r s)
        ∧ t.executor.phase = .reading ∧ t.executor.record = r ∧ t.executor.progress = 0 ∧ t.executor.page = 0
        ∧ t.store = { s.store with
            op := some (.read .executor (half r.bytes 32 * 64 + byteAt r.bytes 34) false), idle := none })
      ∧ ∀ res, ((res = .range ∧ readInRange r.bytes = false) ∨ (res = .lowSupply ∧ readInRange r.bytes = true
            ∧ (s.power.forced = true ∨ s.power.cls = .exhausted))) → ∃ t, exec .storeRead s = .next t
        ∧ t.executor.phase = .idle ∧ t.store.op = none
        ∧ Asks s t (takenAccesses .storeRead r s ++ doneAccesses .store r.addr res 0#32 0))
    ∧ (∀ x y q, s.executor.record = r → s.executor.phase = .reading → s.executor.buf ≠ [] → sparseWf s.shared = true →
        s.bus.queue = .buffer .destination x y :: q → Writable .store r.addr s → ArrayFree s →
      (s.executor.buf.length = 4096 → ∃ t, exec (.storeReadDestWriteEnd true) s = .next t ∧ t.executor.phase = .idle
        ∧ t.executor.progress = s.executor.progress ∧ t.store.op = none
        ∧ (∀ a, (a < wordNat r.bytes 36 + s.executor.page * 4096 ∨ wordNat r.bytes 36 + s.executor.page * 4096 + 4096 ≤ a)
            → sparseGet a t.shared = sparseGet a s.shared)
        ∧ AsksAfter s q t (doneAccesses .store r.addr .badAddress s.executor.detail s.executor.progress))
      ∧ ∃ t, exec (.storeReadDestWriteEnd false) s = .next t
        ∧ SharedWritten s t (wordNat r.bytes 36 + s.executor.page * 4096) s.executor.buf
        ∧ t.executor.progress = s.executor.progress + 1
        ∧ (s.executor.page + 1 < byteAt r.bytes 35 → t.executor.phase = .reading ∧ t.executor.buf = []
            ∧ t.store.op = some (.read .executor
                (half r.bytes 32 * 64 + byteAt r.bytes 34 + (s.executor.page + 1)) false) ∧ AsksAfter s q t [])
        ∧ (byteAt r.bytes 35 ≤ s.executor.page + 1 → t.executor.phase = .idle ∧ t.store.op = none
            ∧ AsksAfter s q t (doneAccesses .store r.addr .ok s.executor.detail (s.executor.progress + 1))))
    ∧ (Ready .storeSurvey r s → ArrayFree s →
      (rangeOk (half r.bytes 32) (half r.bytes 34) = true → s.power.forced = false → s.power.cls ≠ .exhausted → ∃ t,
        exec .storeSurvey s = .next t
        ∧ ((∀ i, i < half r.bytes 34 → (s.store.block (half r.bytes 32 + i)).fill ≠ .unknown) →
            t.executor.phase = .reporting ∧ t.store.op = none
              ∧ Asks s t (takenAccesses .storeSurvey r s
                ++ [.buffer .report (wordNat r.bytes 36) (half r.bytes 34)])
              ∧ t.executor.buf = (List.range (half r.bytes 34)).map fun i =>
                (s.store.block (half r.bytes 32 + i)).reportByte)
        ∧ ∀ i, i < half r.bytes 34 → (s.store.block (half r.bytes 32 + i)).fill = .unknown →
            (∀ j, j < i → (s.store.block (half r.bytes 32 + j)).fill ≠ .unknown) →
            t.executor.phase = .surveying ∧ Asks s t (takenAccesses .storeSurvey r s)
              ∧ t.store.op = some (.raw ((half r.bytes 32 + i) * 64) .storeSurvey false))
      ∧ ∀ res, ((res = .range ∧ rangeOk (half r.bytes 32) (half r.bytes 34) = false)
          ∨ (res = .lowSupply ∧ rangeOk (half r.bytes 32) (half r.bytes 34) = true
            ∧ (s.power.forced = true ∨ s.power.cls = .exhausted))) → ∃ t, exec .storeSurvey s = .next t
        ∧ t.executor.phase = .idle ∧ t.store.op = none
        ∧ Asks s t (takenAccesses .storeSurvey r s ++ doneAccesses .store r.addr res 0#32 0))
    ∧ (∀ x y q, s.executor.record = r → s.executor.phase = .reporting → sparseWf s.shared = true →
        s.bus.queue = .buffer .report x y :: q → Writable .store r.addr s →
      (∃ t, exec (.surveyReportWriteEnd false) s = .next t ∧ t.executor.phase = .idle ∧ t.store = s.store
        ∧ SharedWritten s t (wordNat r.bytes 36) s.executor.buf ∧ t.executor.progress = s.executor.progress
        ∧ AsksAfter s q t (doneAccesses .store r.addr (if s.executor.failed then .readError else .ok) 0#32
            s.executor.progress))
      ∧ ∃ t, exec (.surveyReportWriteEnd true) s = .next t ∧ t.executor.phase = .idle ∧ t.store = s.store
        ∧ t.executor.progress = s.executor.progress
        ∧ (∀ a, (a < wordNat r.bytes 36 ∨ wordNat r.bytes 36 + s.executor.buf.length ≤ a) →
            sparseGet a t.shared = sparseGet a s.shared)
        ∧ AsksAfter s q t (doneAccesses .store r.addr .badAddress 0#32 s.executor.progress))

/-- R167, R177, R185, R195: a STORE_ERASE checks its count, and then its first block in order: Range, LowSupply,
Protected, Conflict with the turn-ahead list, Retired; a block that passes is erased. A request refused at its grant
has stopped the idle timer, which starts anew. -/
def Obligations.EraseSteps : Prop :=
  ∀ (s : State) (r : RecordCopy) (b : Nat) (e : BlockEntry), Ready .storeErase r s → ArrayFree s →
    b = half r.bytes 32 → e = s.store.block b →
    (∀ res, ((res = .range ∧ (half r.bytes 34 = 0 ∨ 64 < half r.bytes 34 ∨ 4095 < b))
        ∨ (1 ≤ half r.bytes 34 ∧ half r.bytes 34 ≤ 64 ∧ b ≤ 4095 ∧
            ((res = .lowSupply ∧ (s.power.forced = true ∨ s.power.cls = .exhausted ∨ s.power.cls = .critical))
              ∨ (s.power.forced = false ∧ s.power.cls ≠ .exhausted ∧ s.power.cls ≠ .critical ∧
                  ((res = .protectedBlock ∧ e.prot.writable = false)
                    ∨ (e.prot.writable = true ∧ ((res = .conflict ∧ ∃ x, x ∈ s.turn.entries ∧ x.touches b = true)
                        ∨ ((∀ x, x ∈ s.turn.entries → x.touches b = false)
                            ∧ res = .retiredBlock ∧ e.fill = .retired)))))))) → ∃ t,
      exec .storeErase s = .next t ∧ t.executor.phase = .idle ∧ t.store.erase = none ∧ t.store.op = none
      ∧ t.store.blocks = s.store.blocks ∧ t.store.array = s.store.array
      ∧ (res = .retiredBlock → t.store.idle = some s.store.idleTime)
      ∧ Asks s t (takenAccesses .storeErase r s ++ doneAccesses .store r.addr res 0#32 0))
    ∧ (1 ≤ half r.bytes 34 → half r.bytes 34 ≤ 64 → b ≤ 4095 → s.power.forced = false →
        (s.power.cls = .normal ∨ s.power.cls = .reduced) → e.prot.writable = true →
        (∀ x, x ∈ s.turn.entries → x.touches b = false) → e.fill ≠ .retired → ∃ t, exec .storeErase s = .next t
      ∧ Asks s t (takenAccesses .storeErase r s) ∧ t.executor.phase = .erasing ∧ t.executor.block = b
      ∧ (e.fill ≠ .unknown → t.store = { s.store with
            erase := some { block := b, phase := .running, count := 0 }, idle := none })
      ∧ (e.fill = .unknown → t.store = { s.store with op := some (.raw (b * 64) .erase false), idle := none }))

/-! ## Rules of the whole part -/

/-- The invariants hold right after Full Reset. The reset values the spec does not give are the model's choice (log
entries 12, 13). -/
def Obligations.ResetMeetsInvariants : Prop :=
  Canonical State.reset ∧ LightBounded State.reset.light State.reset.power.cls ∧ WithinCapacity State.reset
    ∧ SettingsInRange State.reset ∧ GuardAgrees State.reset ∧ LinkAgrees State.reset ∧ PowerConsistent State.reset
    ∧ SnapshotInUse State.reset ∧ StoreAgrees State.reset

/-- The sparse lists keep their canonical form, and every rectangle of the list and of the slots lies on the panel. -/
def Obligations.StepKeepsCanonical : Prop :=
  ∀ s t : State, Canonical s → step s = .next t → Canonical t

/-- R43, R154 to R157: the light never stands above the ceiling of the supply class, whatever step changes the one or
the other, and its two duties fit the lit part of a PWM period. -/
def Obligations.StepKeepsLightBounded : Prop :=
  ∀ s t : State, LightBounded s.light s.power.cls → step s = .next t → LightBounded t.light t.power.cls

/-- R9, R36, R44, R70, R99, R101, R115, R116, R129, R131, R173, R174: the lists keep within their capacities, the
taken-record tables of 32, 4 and 4 among them, no two active slots have intersecting rectangles, the settings stay in
their ranges, and the pinned blocks agree with GUARD. That a table never overflows rests on what the lanes and the
port keep between them: one record read or offered at a time, and none while its table is full. -/
def Obligations.StepKeepsBounds : Prop :=
  ∀ s t : State, WithinCapacity s ∧ SettingsInRange s ∧ GuardAgrees s ∧ LinkAgrees s → step s = .next t →
    WithinCapacity t ∧ SettingsInRange t ∧ GuardAgrees t ∧ LinkAgrees t
      ∧ t.link.display.table.length ≤ 32 ∧ t.link.store.table.length ≤ 4 ∧ t.link.control.table.length ≤ 4

/-- The items of the Power Controller stay in agreement with the power state. The agreement is the model's, a descent
that waits for a decode among it (log entry 24). -/
def Obligations.StepKeepsPowerConsistent : Prop :=
  ∀ s t : State, PowerConsistent s → step s = .next t → PowerConsistent t

/-- R17: a page write holds its snapshot from where it begins until it ends, and no longer; and every change of a page
field while the link is ATTACHED or DETACHING, its last page write not yet asked for, leads to a page write: one waits
behind the access being made, or one begins with a snapshot of the changed fields. That changes are found at the end
of a step is log entry 31. -/
def Obligations.ChangesAreReported : Prop :=
  ∀ (c : Instr) (s t : State), SnapshotInUse s → exec c s = .next t → SnapshotInUse t
    ∧ (∀ q, (t.bus.queue = .statusPage :: q ∨ t.bus.queue = .finalPage :: q) → t.bus.snapshot ≠ none)
    ∧ ((t.link.state = .attached ∨ t.link.state = .detaching) → .finalPage ∉ s.bus.queue → pageFields t ≠ pageFields s →
        t.bus.pageWaits = true ∨ ∃ code n, t.bus.snapshot = some (pageBytes t code n))

/-- R164, R171, R172, R176 to R178, R182: a page of the array changes only where it is the page being programmed, page
0 of the block being marked, its retirement field alone, or a page of the block being erased, and only at the end of
that operation, at its busy limit, or where a command that resets the main domain abandons it. Between two resets a
block's fill mark rises by one at a page programmed and falls only to 0, at an erase that succeeds, or goes with the
retirement of its block; a page program starts only on a block that is UNLOCKED or PINNED_OPEN, at its fill mark; an
erase only on such a block that is not RETIRED. R18: a step clears a cause only where it is a CAUSE write or Full
Reset. Shared memory changes at the ends of the part's own writes alone. What State keeps of the array is log entry
10, and what the Store Controller keeps between its requests log entry 27. -/
def Obligations.MemoriesChangeOnlyByWrites : Prop :=
  ∀ (c : Instr) (s t : State), exec c s = .next t →
    (sparseWf s.store.array = true → ∀ x, t.store.page x ≠ s.store.page x →
        (∃ d, s.store.op = some (.program x d))
        ∨ (∃ b, s.store.op = some (.mark b) ∧ x = b * 64 ∧ (t.store.page x).data = (s.store.page x).data)
        ∨ ∃ e, s.store.erase = some e ∧ x / 64 = e.block)
    ∧ (c.wellFormed = true → t.store.array ≠ s.store.array →
        (∃ ok p d, s.store.op = some (.program p d) ∧ (c = .pageProgramEnd ok ∨ c = .busyLimitExpiry))
        ∨ (∃ ok b, s.store.op = some (.mark b) ∧ (c = .markWriteEnd ok ∨ c = .busyLimitExpiry))
        ∨ (∃ ok, s.store.erase ≠ none ∧ (c = .eraseEnd ok ∨ c = .busyLimitExpiry))
        ∨ (t.store.blocks = [] ∧ ResetsMain c))
    ∧ (c.wellFormed = true → StoreAgrees s → ∀ b m, (s.store.block b).fill = .mark m →
        (t.store.block b).fill = .mark m
        ∨ ((t.store.block b).fill = .mark (m + 1) ∧ c = .pageProgramEnd true
            ∧ ∃ d, s.store.op = some (.program (b * 64 + m) d))
        ∨ ((t.store.block b).fill = .mark 0 ∧ c = .eraseEnd true ∧ ∃ e, s.store.erase = some e ∧ e.block = b)
        ∨ ((t.store.block b).fill = .retired ∧ s.store.op = some (.mark b)
            ∧ ∃ ok, c = .markWriteEnd ok ∨ c = .busyLimitExpiry)
        ∨ (t.store.blocks = [] ∧ ResetsMain c))
    ∧ (∀ p d, t.store.op = some (.program p d) → s.store.op ≠ some (.program p d) →
        (t.store.block (p / 64)).prot.writable = true ∧ (t.store.block (p / 64)).fill = .mark (p % 64))
    ∧ (∀ e, t.store.erase = some e → (∀ d, s.store.erase = some d → d.block ≠ e.block) →
        (t.store.block e.block).prot.writable = true ∧ (t.store.block e.block).fill ≠ .retired)
    ∧ (t.shared ≠ s.shared → ∃ ok, c = .recordHeaderWriteEnd ok ∨ c = .detachFinalPage ok ∨ c = .statusPageWriteEnd ok
        ∨ c = .storeReadDestWriteEnd ok ∨ c = .surveyReportWriteEnd ok)
    ∧ (c.wellFormed = true → c ≠ .fullReset → (∀ v, c ≠ .causeClear v) →
        ∀ k, s.regs.cause.getLsbD k = true → t.regs.cause.getLsbD k = true)

/-- R196, R195: the store never starts the erase of a block that the turn-ahead list in force names: a waiting erase
request, and an erase whose mark check is being read, keep away from the list's blocks whatever step replaces the
list, and an erase that a step starts is of a block the list does not name after it. With it goes what carries it: the
executor keeps at most one request at the Store Controller, in a phase that waits for it (log entry 27). -/
def Obligations.ErasesSpareTheList : Prop :=
  ∀ (c : Instr) (s t : State), StoreAgrees s → exec c s = .next t →
    StoreAgrees t ∧ ∀ e, t.store.erase = some e → (∀ d, s.store.erase = some d → d.block ≠ e.block) →
      t.turn.names e.block = false

/-- R41: the supply class changes at battery events, the ends of sweeps, and at Full Reset alone. R59: DEEP is left
only by a wake: a POWER press, an opened cover, a charger, the wake timer or an Attach, and under Exhausted a charger
alone; VDD_MAIN is then on and working memory is brought up anew. The epoch names undefined contents (log entry 9). -/
def Obligations.ClassAndDeepRules : Prop :=
  ∀ (c : Instr) (s t : State), exec c s = .next t → c ≠ .fullReset →
    (t.power.cls ≠ s.power.cls → t.power.seen = true ∧ ∃ raw w, c = .conversionEnd raw ∧ s.sense.sweep = some w
        ∧ w.stage = .signal ∧ w.nextChannel = none)
    ∧ (PowerConsistent s → s.power.state = .deep → t.power.state ≠ .deep → t.power.state = .waking
        ∧ t.power.vddMain = true ∧ t.wm.state = .initialising ∧ t.wm.epoch = s.wm.epoch + 1
        ∧ (t.power.wakeReason = .power ∨ t.power.wakeReason = .coverOpen ∨ t.power.wakeReason = .charger
            ∨ t.power.wakeReason = .timer ∨ t.power.wakeReason = .attach)
        ∧ (s.power.cls = .exhausted → t.power.wakeReason = .charger))
end

