-- ==== Sys2Proof/Laws/Memory.lean ====
section
/-!
SUPPORT. What the Working Memory Controller's own operations leave alone: the contents of the memory, and for the
arbiter's the controller state and the refresh debt.
-/

namespace Sys2Proof.Machine

open Sys2Proof

@[simp] theorem WorkMem.grant_keeps (w : WorkMem) (c : WmClient) :
    (w.grant c).panel = w.panel ∧ (w.grant c).frameA = w.frameA ∧ (w.grant c).frameB = w.frameB
    ∧ (w.grant c).bankA = w.bankA ∧ (w.grant c).bankB = w.bankB ∧ (w.grant c).decode = w.decode
    ∧ (w.grant c).epoch = w.epoch ∧ (w.grant c).state = w.state ∧ (w.grant c).debt = w.debt
    ∧ (w.grant c).srHeld = w.srHeld := by
  simp [WorkMem.grant]

@[simp] theorem WorkMem.wait_keeps (w : WorkMem) (c : WmClient) :
    (w.wait c).panel = w.panel ∧ (w.wait c).frameA = w.frameA ∧ (w.wait c).frameB = w.frameB
    ∧ (w.wait c).bankA = w.bankA ∧ (w.wait c).bankB = w.bankB ∧ (w.wait c).decode = w.decode
    ∧ (w.wait c).epoch = w.epoch ∧ (w.wait c).state = w.state ∧ (w.wait c).debt = w.debt
    ∧ (w.wait c).srHeld = w.srHeld ∧ (w.wait c).running = w.running ∧ (w.wait c).rr = w.rr := by
  unfold WorkMem.wait
  split <;> simp

@[simp] theorem WorkMem.refresh_keeps (w : WorkMem) :
    w.refresh.panel = w.panel ∧ w.refresh.frameA = w.frameA ∧ w.refresh.frameB = w.frameB
    ∧ w.refresh.bankA = w.bankA ∧ w.refresh.bankB = w.bankB ∧ w.refresh.decode = w.decode
    ∧ w.refresh.epoch = w.epoch ∧ w.refresh.state = w.state ∧ w.refresh.srHeld = w.srHeld
    ∧ w.refresh.waiting = w.waiting ∧ w.refresh.rr = w.rr ∧ w.refresh.debt = w.debt - 1
    ∧ w.refresh.running = some .refresh := by
  simp [WorkMem.refresh]

@[simp] theorem WorkMem.decide_keeps (w : WorkMem) :
    w.decide.panel = w.panel ∧ w.decide.frameA = w.frameA ∧ w.decide.frameB = w.frameB
    ∧ w.decide.bankA = w.bankA ∧ w.decide.bankB = w.bankB ∧ w.decide.decode = w.decode
    ∧ w.decide.epoch = w.epoch ∧ w.decide.state = w.state ∧ w.decide.srHeld = w.srHeld := by
  unfold WorkMem.decide
  repeat' split
  all_goals simp

/-- The arbiter's decision takes 1 from the debt where it issues a refresh, and nothing else (R70). -/
theorem WorkMem.decide_debt (w : WorkMem) :
    w.decide.debt = w.debt ∨ (w.decide.debt = w.debt - 1 ∧ w.decide.running = some .refresh) := by
  unfold WorkMem.decide
  repeat' split
  all_goals simp

@[simp] theorem WorkMem.foldl_wait_keeps (l : List WmClient) (w : WorkMem) :
    (l.foldl WorkMem.wait w).panel = w.panel ∧ (l.foldl WorkMem.wait w).frameA = w.frameA
    ∧ (l.foldl WorkMem.wait w).frameB = w.frameB ∧ (l.foldl WorkMem.wait w).bankA = w.bankA
    ∧ (l.foldl WorkMem.wait w).bankB = w.bankB ∧ (l.foldl WorkMem.wait w).decode = w.decode
    ∧ (l.foldl WorkMem.wait w).epoch = w.epoch ∧ (l.foldl WorkMem.wait w).state = w.state
    ∧ (l.foldl WorkMem.wait w).debt = w.debt ∧ (l.foldl WorkMem.wait w).srHeld = w.srHeld
    ∧ (l.foldl WorkMem.wait w).running = w.running ∧ (l.foldl WorkMem.wait w).rr = w.rr := by
  induction l generalizing w with
  | nil => simp
  | cons c l ih => simp [ih]

@[simp] theorem WorkMem.askSelfRefresh_keeps (w : WorkMem) :
    w.askSelfRefresh.panel = w.panel ∧ w.askSelfRefresh.frameA = w.frameA ∧ w.askSelfRefresh.frameB = w.frameB
    ∧ w.askSelfRefresh.bankA = w.bankA ∧ w.askSelfRefresh.bankB = w.bankB ∧ w.askSelfRefresh.decode = w.decode
    ∧ w.askSelfRefresh.epoch = w.epoch ∧ w.askSelfRefresh.debt = w.debt ∧ w.askSelfRefresh.waiting = w.waiting
    ∧ w.askSelfRefresh.running = w.running := by
  unfold WorkMem.askSelfRefresh
  split <;> simp

@[simp] theorem WorkMem.leave_keeps (w : WorkMem) :
    w.leave.panel = w.panel ∧ w.leave.frameA = w.frameA ∧ w.leave.frameB = w.frameB
    ∧ w.leave.bankA = w.bankA ∧ w.leave.bankB = w.bankB ∧ w.leave.decode = w.decode
    ∧ w.leave.epoch = w.epoch ∧ w.leave.debt = w.debt ∧ w.leave.waiting = w.waiting
    ∧ w.leave.running = w.running := by
  unfold WorkMem.leave
  split <;> simp

@[simp] theorem WorkMem.activate_keeps (w : WorkMem) :
    w.activate.panel = w.panel ∧ w.activate.frameA = w.frameA ∧ w.activate.frameB = w.frameB
    ∧ w.activate.bankA = w.bankA ∧ w.activate.bankB = w.bankB ∧ w.activate.decode = w.decode
    ∧ w.activate.epoch = w.epoch ∧ w.activate.debt = 0 ∧ w.activate.srHeld = false := by
  refine ⟨?_, ?_, ?_, ?_, ?_, ?_, ?_, ?_, ?_⟩
  case refine_8 =>
    unfold WorkMem.activate
    rcases WorkMem.decide_debt { w with state := if w.srHeld then .entering else .active, srHeld := false, debt := 0 }
      with h | h
    · rw [h]
    · simpa using h.1
  all_goals simp [WorkMem.activate]

@[simp] theorem WorkMem.writeFrame_keeps (w : WorkMem) (f : Frame) (l : List (BitVec 4)) :
    (w.writeFrame f l).panel = w.panel ∧ (w.writeFrame f l).bankA = w.bankA ∧ (w.writeFrame f l).bankB = w.bankB
    ∧ (w.writeFrame f l).decode = w.decode ∧ (w.writeFrame f l).epoch = w.epoch
    ∧ (w.writeFrame f l).state = w.state ∧ (w.writeFrame f l).debt = w.debt
    ∧ (w.writeFrame f l).waiting = w.waiting ∧ (w.writeFrame f l).running = w.running := by
  cases f <;> simp [WorkMem.writeFrame]

@[simp] theorem WorkMem.writeBank_keeps (w : WorkMem) (b : Bank) (off : Nat) (l : List Byte) :
    (w.writeBank b off l).panel = w.panel ∧ (w.writeBank b off l).frameA = w.frameA
    ∧ (w.writeBank b off l).frameB = w.frameB ∧ (w.writeBank b off l).decode = w.decode
    ∧ (w.writeBank b off l).epoch = w.epoch ∧ (w.writeBank b off l).state = w.state
    ∧ (w.writeBank b off l).debt = w.debt ∧ (w.writeBank b off l).waiting = w.waiting
    ∧ (w.writeBank b off l).running = w.running := by
  cases b <;> simp [WorkMem.writeBank]

/-- The frame written reads the new levels first and the old ones behind them; the other frame is as it was. -/
theorem WorkMem.frame_writeFrame (w : WorkMem) (f g : Frame) (l : List (BitVec 4)) :
    (w.writeFrame f l).frame g = if g = f then l ++ (w.frame f).drop l.length else w.frame g := by
  cases f <;> cases g <;> simp [WorkMem.writeFrame, WorkMem.frame]

/-- The bank written reads the bytes laid over the old ones; the other bank is as it was. -/
theorem WorkMem.bank_writeBank (w : WorkMem) (b c : Bank) (off : Nat) (l : List Byte) :
    (w.writeBank b off l).bank c = if c = b then overlay (w.bank b) off l else w.bank c := by
  cases b <;> cases c <;> simp [WorkMem.writeBank, WorkMem.bank]

end Sys2Proof.Machine
end

