-- ==== Sys2Proof/Laws/State.lean ====
section
/-!
SUPPORT. What each updater of the state does to each field: one lemma per field per updater.
-/

namespace Sys2Proof.Machine

open Sys2Proof

section
variable (s : State) (f : Regs → Regs)
@[simp] theorem State.modRegs_regs : (s.modRegs f).regs = f s.regs := rfl
@[simp] theorem State.modRegs_link : (s.modRegs f).link = s.link := rfl
@[simp] theorem State.modRegs_bus : (s.modRegs f).bus = s.bus := rfl
@[simp] theorem State.modRegs_sense : (s.modRegs f).sense = s.sense := rfl
@[simp] theorem State.modRegs_power : (s.modRegs f).power = s.power := rfl
@[simp] theorem State.modRegs_wm : (s.modRegs f).wm = s.wm := rfl
@[simp] theorem State.modRegs_wave : (s.modRegs f).wave = s.wave := rfl
@[simp] theorem State.modRegs_panel : (s.modRegs f).panel = s.panel := rfl
@[simp] theorem State.modRegs_pins : (s.modRegs f).pins = s.pins := rfl
@[simp] theorem State.modRegs_keys : (s.modRegs f).keys = s.keys := rfl
@[simp] theorem State.modRegs_turn : (s.modRegs f).turn = s.turn := rfl
@[simp] theorem State.modRegs_light : (s.modRegs f).light = s.light := rfl
@[simp] theorem State.modRegs_store : (s.modRegs f).store = s.store := rfl
@[simp] theorem State.modRegs_executor : (s.modRegs f).executor = s.executor := rfl
@[simp] theorem State.modRegs_shared : (s.modRegs f).shared = s.shared := rfl
@[simp] theorem State.modRegs_pending : (s.modRegs f).pending = s.pending := rfl
end

section
variable (s : State) (f : Link → Link)
@[simp] theorem State.modLink_regs : (s.modLink f).regs = s.regs := rfl
@[simp] theorem State.modLink_link : (s.modLink f).link = f s.link := rfl
@[simp] theorem State.modLink_bus : (s.modLink f).bus = s.bus := rfl
@[simp] theorem State.modLink_sense : (s.modLink f).sense = s.sense := rfl
@[simp] theorem State.modLink_power : (s.modLink f).power = s.power := rfl
@[simp] theorem State.modLink_wm : (s.modLink f).wm = s.wm := rfl
@[simp] theorem State.modLink_wave : (s.modLink f).wave = s.wave := rfl
@[simp] theorem State.modLink_panel : (s.modLink f).panel = s.panel := rfl
@[simp] theorem State.modLink_pins : (s.modLink f).pins = s.pins := rfl
@[simp] theorem State.modLink_keys : (s.modLink f).keys = s.keys := rfl
@[simp] theorem State.modLink_turn : (s.modLink f).turn = s.turn := rfl
@[simp] theorem State.modLink_light : (s.modLink f).light = s.light := rfl
@[simp] theorem State.modLink_store : (s.modLink f).store = s.store := rfl
@[simp] theorem State.modLink_executor : (s.modLink f).executor = s.executor := rfl
@[simp] theorem State.modLink_shared : (s.modLink f).shared = s.shared := rfl
@[simp] theorem State.modLink_pending : (s.modLink f).pending = s.pending := rfl
end

section
variable (s : State) (f : Bus → Bus)
@[simp] theorem State.modBus_regs : (s.modBus f).regs = s.regs := rfl
@[simp] theorem State.modBus_link : (s.modBus f).link = s.link := rfl
@[simp] theorem State.modBus_bus : (s.modBus f).bus = f s.bus := rfl
@[simp] theorem State.modBus_sense : (s.modBus f).sense = s.sense := rfl
@[simp] theorem State.modBus_power : (s.modBus f).power = s.power := rfl
@[simp] theorem State.modBus_wm : (s.modBus f).wm = s.wm := rfl
@[simp] theorem State.modBus_wave : (s.modBus f).wave = s.wave := rfl
@[simp] theorem State.modBus_panel : (s.modBus f).panel = s.panel := rfl
@[simp] theorem State.modBus_pins : (s.modBus f).pins = s.pins := rfl
@[simp] theorem State.modBus_keys : (s.modBus f).keys = s.keys := rfl
@[simp] theorem State.modBus_turn : (s.modBus f).turn = s.turn := rfl
@[simp] theorem State.modBus_light : (s.modBus f).light = s.light := rfl
@[simp] theorem State.modBus_store : (s.modBus f).store = s.store := rfl
@[simp] theorem State.modBus_executor : (s.modBus f).executor = s.executor := rfl
@[simp] theorem State.modBus_shared : (s.modBus f).shared = s.shared := rfl
@[simp] theorem State.modBus_pending : (s.modBus f).pending = s.pending := rfl
end

section
variable (s : State) (f : Sense → Sense)
@[simp] theorem State.modSense_regs : (s.modSense f).regs = s.regs := rfl
@[simp] theorem State.modSense_link : (s.modSense f).link = s.link := rfl
@[simp] theorem State.modSense_bus : (s.modSense f).bus = s.bus := rfl
@[simp] theorem State.modSense_sense : (s.modSense f).sense = f s.sense := rfl
@[simp] theorem State.modSense_power : (s.modSense f).power = s.power := rfl
@[simp] theorem State.modSense_wm : (s.modSense f).wm = s.wm := rfl
@[simp] theorem State.modSense_wave : (s.modSense f).wave = s.wave := rfl
@[simp] theorem State.modSense_panel : (s.modSense f).panel = s.panel := rfl
@[simp] theorem State.modSense_pins : (s.modSense f).pins = s.pins := rfl
@[simp] theorem State.modSense_keys : (s.modSense f).keys = s.keys := rfl
@[simp] theorem State.modSense_turn : (s.modSense f).turn = s.turn := rfl
@[simp] theorem State.modSense_light : (s.modSense f).light = s.light := rfl
@[simp] theorem State.modSense_store : (s.modSense f).store = s.store := rfl
@[simp] theorem State.modSense_executor : (s.modSense f).executor = s.executor := rfl
@[simp] theorem State.modSense_shared : (s.modSense f).shared = s.shared := rfl
@[simp] theorem State.modSense_pending : (s.modSense f).pending = s.pending := rfl
end

section
variable (s : State) (f : Power → Power)
@[simp] theorem State.modPower_regs : (s.modPower f).regs = s.regs := rfl
@[simp] theorem State.modPower_link : (s.modPower f).link = s.link := rfl
@[simp] theorem State.modPower_bus : (s.modPower f).bus = s.bus := rfl
@[simp] theorem State.modPower_sense : (s.modPower f).sense = s.sense := rfl
@[simp] theorem State.modPower_power : (s.modPower f).power = f s.power := rfl
@[simp] theorem State.modPower_wm : (s.modPower f).wm = s.wm := rfl
@[simp] theorem State.modPower_wave : (s.modPower f).wave = s.wave := rfl
@[simp] theorem State.modPower_panel : (s.modPower f).panel = s.panel := rfl
@[simp] theorem State.modPower_pins : (s.modPower f).pins = s.pins := rfl
@[simp] theorem State.modPower_keys : (s.modPower f).keys = s.keys := rfl
@[simp] theorem State.modPower_turn : (s.modPower f).turn = s.turn := rfl
@[simp] theorem State.modPower_light : (s.modPower f).light = s.light := rfl
@[simp] theorem State.modPower_store : (s.modPower f).store = s.store := rfl
@[simp] theorem State.modPower_executor : (s.modPower f).executor = s.executor := rfl
@[simp] theorem State.modPower_shared : (s.modPower f).shared = s.shared := rfl
@[simp] theorem State.modPower_pending : (s.modPower f).pending = s.pending := rfl
end

section
variable (s : State) (f : WorkMem → WorkMem)
@[simp] theorem State.modWm_regs : (s.modWm f).regs = s.regs := rfl
@[simp] theorem State.modWm_link : (s.modWm f).link = s.link := rfl
@[simp] theorem State.modWm_bus : (s.modWm f).bus = s.bus := rfl
@[simp] theorem State.modWm_sense : (s.modWm f).sense = s.sense := rfl
@[simp] theorem State.modWm_power : (s.modWm f).power = s.power := rfl
@[simp] theorem State.modWm_wm : (s.modWm f).wm = f s.wm := rfl
@[simp] theorem State.modWm_wave : (s.modWm f).wave = s.wave := rfl
@[simp] theorem State.modWm_panel : (s.modWm f).panel = s.panel := rfl
@[simp] theorem State.modWm_pins : (s.modWm f).pins = s.pins := rfl
@[simp] theorem State.modWm_keys : (s.modWm f).keys = s.keys := rfl
@[simp] theorem State.modWm_turn : (s.modWm f).turn = s.turn := rfl
@[simp] theorem State.modWm_light : (s.modWm f).light = s.light := rfl
@[simp] theorem State.modWm_store : (s.modWm f).store = s.store := rfl
@[simp] theorem State.modWm_executor : (s.modWm f).executor = s.executor := rfl
@[simp] theorem State.modWm_shared : (s.modWm f).shared = s.shared := rfl
@[simp] theorem State.modWm_pending : (s.modWm f).pending = s.pending := rfl
end

section
variable (s : State) (f : Wave → Wave)
@[simp] theorem State.modWave_regs : (s.modWave f).regs = s.regs := rfl
@[simp] theorem State.modWave_link : (s.modWave f).link = s.link := rfl
@[simp] theorem State.modWave_bus : (s.modWave f).bus = s.bus := rfl
@[simp] theorem State.modWave_sense : (s.modWave f).sense = s.sense := rfl
@[simp] theorem State.modWave_power : (s.modWave f).power = s.power := rfl
@[simp] theorem State.modWave_wm : (s.modWave f).wm = s.wm := rfl
@[simp] theorem State.modWave_wave : (s.modWave f).wave = f s.wave := rfl
@[simp] theorem State.modWave_panel : (s.modWave f).panel = s.panel := rfl
@[simp] theorem State.modWave_pins : (s.modWave f).pins = s.pins := rfl
@[simp] theorem State.modWave_keys : (s.modWave f).keys = s.keys := rfl
@[simp] theorem State.modWave_turn : (s.modWave f).turn = s.turn := rfl
@[simp] theorem State.modWave_light : (s.modWave f).light = s.light := rfl
@[simp] theorem State.modWave_store : (s.modWave f).store = s.store := rfl
@[simp] theorem State.modWave_executor : (s.modWave f).executor = s.executor := rfl
@[simp] theorem State.modWave_shared : (s.modWave f).shared = s.shared := rfl
@[simp] theorem State.modWave_pending : (s.modWave f).pending = s.pending := rfl
end

section
variable (s : State) (f : Panel → Panel)
@[simp] theorem State.modPanel_regs : (s.modPanel f).regs = s.regs := rfl
@[simp] theorem State.modPanel_link : (s.modPanel f).link = s.link := rfl
@[simp] theorem State.modPanel_bus : (s.modPanel f).bus = s.bus := rfl
@[simp] theorem State.modPanel_sense : (s.modPanel f).sense = s.sense := rfl
@[simp] theorem State.modPanel_power : (s.modPanel f).power = s.power := rfl
@[simp] theorem State.modPanel_wm : (s.modPanel f).wm = s.wm := rfl
@[simp] theorem State.modPanel_wave : (s.modPanel f).wave = s.wave := rfl
@[simp] theorem State.modPanel_panel : (s.modPanel f).panel = f s.panel := rfl
@[simp] theorem State.modPanel_pins : (s.modPanel f).pins = s.pins := rfl
@[simp] theorem State.modPanel_keys : (s.modPanel f).keys = s.keys := rfl
@[simp] theorem State.modPanel_turn : (s.modPanel f).turn = s.turn := rfl
@[simp] theorem State.modPanel_light : (s.modPanel f).light = s.light := rfl
@[simp] theorem State.modPanel_store : (s.modPanel f).store = s.store := rfl
@[simp] theorem State.modPanel_executor : (s.modPanel f).executor = s.executor := rfl
@[simp] theorem State.modPanel_shared : (s.modPanel f).shared = s.shared := rfl
@[simp] theorem State.modPanel_pending : (s.modPanel f).pending = s.pending := rfl
end

section
variable (s : State) (f : Pins → Pins)
@[simp] theorem State.modPins_regs : (s.modPins f).regs = s.regs := rfl
@[simp] theorem State.modPins_link : (s.modPins f).link = s.link := rfl
@[simp] theorem State.modPins_bus : (s.modPins f).bus = s.bus := rfl
@[simp] theorem State.modPins_sense : (s.modPins f).sense = s.sense := rfl
@[simp] theorem State.modPins_power : (s.modPins f).power = s.power := rfl
@[simp] theorem State.modPins_wm : (s.modPins f).wm = s.wm := rfl
@[simp] theorem State.modPins_wave : (s.modPins f).wave = s.wave := rfl
@[simp] theorem State.modPins_panel : (s.modPins f).panel = s.panel := rfl
@[simp] theorem State.modPins_pins : (s.modPins f).pins = f s.pins := rfl
@[simp] theorem State.modPins_keys : (s.modPins f).keys = s.keys := rfl
@[simp] theorem State.modPins_turn : (s.modPins f).turn = s.turn := rfl
@[simp] theorem State.modPins_light : (s.modPins f).light = s.light := rfl
@[simp] theorem State.modPins_store : (s.modPins f).store = s.store := rfl
@[simp] theorem State.modPins_executor : (s.modPins f).executor = s.executor := rfl
@[simp] theorem State.modPins_shared : (s.modPins f).shared = s.shared := rfl
@[simp] theorem State.modPins_pending : (s.modPins f).pending = s.pending := rfl
end

section
variable (s : State) (f : Keys → Keys)
@[simp] theorem State.modKeys_regs : (s.modKeys f).regs = s.regs := rfl
@[simp] theorem State.modKeys_link : (s.modKeys f).link = s.link := rfl
@[simp] theorem State.modKeys_bus : (s.modKeys f).bus = s.bus := rfl
@[simp] theorem State.modKeys_sense : (s.modKeys f).sense = s.sense := rfl
@[simp] theorem State.modKeys_power : (s.modKeys f).power = s.power := rfl
@[simp] theorem State.modKeys_wm : (s.modKeys f).wm = s.wm := rfl
@[simp] theorem State.modKeys_wave : (s.modKeys f).wave = s.wave := rfl
@[simp] theorem State.modKeys_panel : (s.modKeys f).panel = s.panel := rfl
@[simp] theorem State.modKeys_pins : (s.modKeys f).pins = s.pins := rfl
@[simp] theorem State.modKeys_keys : (s.modKeys f).keys = f s.keys := rfl
@[simp] theorem State.modKeys_turn : (s.modKeys f).turn = s.turn := rfl
@[simp] theorem State.modKeys_light : (s.modKeys f).light = s.light := rfl
@[simp] theorem State.modKeys_store : (s.modKeys f).store = s.store := rfl
@[simp] theorem State.modKeys_executor : (s.modKeys f).executor = s.executor := rfl
@[simp] theorem State.modKeys_shared : (s.modKeys f).shared = s.shared := rfl
@[simp] theorem State.modKeys_pending : (s.modKeys f).pending = s.pending := rfl
end

section
variable (s : State) (f : Turn → Turn)
@[simp] theorem State.modTurn_regs : (s.modTurn f).regs = s.regs := rfl
@[simp] theorem State.modTurn_link : (s.modTurn f).link = s.link := rfl
@[simp] theorem State.modTurn_bus : (s.modTurn f).bus = s.bus := rfl
@[simp] theorem State.modTurn_sense : (s.modTurn f).sense = s.sense := rfl
@[simp] theorem State.modTurn_power : (s.modTurn f).power = s.power := rfl
@[simp] theorem State.modTurn_wm : (s.modTurn f).wm = s.wm := rfl
@[simp] theorem State.modTurn_wave : (s.modTurn f).wave = s.wave := rfl
@[simp] theorem State.modTurn_panel : (s.modTurn f).panel = s.panel := rfl
@[simp] theorem State.modTurn_pins : (s.modTurn f).pins = s.pins := rfl
@[simp] theorem State.modTurn_keys : (s.modTurn f).keys = s.keys := rfl
@[simp] theorem State.modTurn_turn : (s.modTurn f).turn = f s.turn := rfl
@[simp] theorem State.modTurn_light : (s.modTurn f).light = s.light := rfl
@[simp] theorem State.modTurn_store : (s.modTurn f).store = s.store := rfl
@[simp] theorem State.modTurn_executor : (s.modTurn f).executor = s.executor := rfl
@[simp] theorem State.modTurn_shared : (s.modTurn f).shared = s.shared := rfl
@[simp] theorem State.modTurn_pending : (s.modTurn f).pending = s.pending := rfl
end

section
variable (s : State) (f : Light → Light)
@[simp] theorem State.modLight_regs : (s.modLight f).regs = s.regs := rfl
@[simp] theorem State.modLight_link : (s.modLight f).link = s.link := rfl
@[simp] theorem State.modLight_bus : (s.modLight f).bus = s.bus := rfl
@[simp] theorem State.modLight_sense : (s.modLight f).sense = s.sense := rfl
@[simp] theorem State.modLight_power : (s.modLight f).power = s.power := rfl
@[simp] theorem State.modLight_wm : (s.modLight f).wm = s.wm := rfl
@[simp] theorem State.modLight_wave : (s.modLight f).wave = s.wave := rfl
@[simp] theorem State.modLight_panel : (s.modLight f).panel = s.panel := rfl
@[simp] theorem State.modLight_pins : (s.modLight f).pins = s.pins := rfl
@[simp] theorem State.modLight_keys : (s.modLight f).keys = s.keys := rfl
@[simp] theorem State.modLight_turn : (s.modLight f).turn = s.turn := rfl
@[simp] theorem State.modLight_light : (s.modLight f).light = f s.light := rfl
@[simp] theorem State.modLight_store : (s.modLight f).store = s.store := rfl
@[simp] theorem State.modLight_executor : (s.modLight f).executor = s.executor := rfl
@[simp] theorem State.modLight_shared : (s.modLight f).shared = s.shared := rfl
@[simp] theorem State.modLight_pending : (s.modLight f).pending = s.pending := rfl
end

section
variable (s : State) (f : Store → Store)
@[simp] theorem State.modStore_regs : (s.modStore f).regs = s.regs := rfl
@[simp] theorem State.modStore_link : (s.modStore f).link = s.link := rfl
@[simp] theorem State.modStore_bus : (s.modStore f).bus = s.bus := rfl
@[simp] theorem State.modStore_sense : (s.modStore f).sense = s.sense := rfl
@[simp] theorem State.modStore_power : (s.modStore f).power = s.power := rfl
@[simp] theorem State.modStore_wm : (s.modStore f).wm = s.wm := rfl
@[simp] theorem State.modStore_wave : (s.modStore f).wave = s.wave := rfl
@[simp] theorem State.modStore_panel : (s.modStore f).panel = s.panel := rfl
@[simp] theorem State.modStore_pins : (s.modStore f).pins = s.pins := rfl
@[simp] theorem State.modStore_keys : (s.modStore f).keys = s.keys := rfl
@[simp] theorem State.modStore_turn : (s.modStore f).turn = s.turn := rfl
@[simp] theorem State.modStore_light : (s.modStore f).light = s.light := rfl
@[simp] theorem State.modStore_store : (s.modStore f).store = f s.store := rfl
@[simp] theorem State.modStore_executor : (s.modStore f).executor = s.executor := rfl
@[simp] theorem State.modStore_shared : (s.modStore f).shared = s.shared := rfl
@[simp] theorem State.modStore_pending : (s.modStore f).pending = s.pending := rfl
end

section
variable (s : State) (f : Executor → Executor)
@[simp] theorem State.modExecutor_regs : (s.modExecutor f).regs = s.regs := rfl
@[simp] theorem State.modExecutor_link : (s.modExecutor f).link = s.link := rfl
@[simp] theorem State.modExecutor_bus : (s.modExecutor f).bus = s.bus := rfl
@[simp] theorem State.modExecutor_sense : (s.modExecutor f).sense = s.sense := rfl
@[simp] theorem State.modExecutor_power : (s.modExecutor f).power = s.power := rfl
@[simp] theorem State.modExecutor_wm : (s.modExecutor f).wm = s.wm := rfl
@[simp] theorem State.modExecutor_wave : (s.modExecutor f).wave = s.wave := rfl
@[simp] theorem State.modExecutor_panel : (s.modExecutor f).panel = s.panel := rfl
@[simp] theorem State.modExecutor_pins : (s.modExecutor f).pins = s.pins := rfl
@[simp] theorem State.modExecutor_keys : (s.modExecutor f).keys = s.keys := rfl
@[simp] theorem State.modExecutor_turn : (s.modExecutor f).turn = s.turn := rfl
@[simp] theorem State.modExecutor_light : (s.modExecutor f).light = s.light := rfl
@[simp] theorem State.modExecutor_store : (s.modExecutor f).store = s.store := rfl
@[simp] theorem State.modExecutor_executor : (s.modExecutor f).executor = f s.executor := rfl
@[simp] theorem State.modExecutor_shared : (s.modExecutor f).shared = s.shared := rfl
@[simp] theorem State.modExecutor_pending : (s.modExecutor f).pending = s.pending := rfl
end

section
variable (s : State) (f : List Host.Cell → List Host.Cell)
@[simp] theorem State.modShared_regs : (s.modShared f).regs = s.regs := rfl
@[simp] theorem State.modShared_link : (s.modShared f).link = s.link := rfl
@[simp] theorem State.modShared_bus : (s.modShared f).bus = s.bus := rfl
@[simp] theorem State.modShared_sense : (s.modShared f).sense = s.sense := rfl
@[simp] theorem State.modShared_power : (s.modShared f).power = s.power := rfl
@[simp] theorem State.modShared_wm : (s.modShared f).wm = s.wm := rfl
@[simp] theorem State.modShared_wave : (s.modShared f).wave = s.wave := rfl
@[simp] theorem State.modShared_panel : (s.modShared f).panel = s.panel := rfl
@[simp] theorem State.modShared_pins : (s.modShared f).pins = s.pins := rfl
@[simp] theorem State.modShared_keys : (s.modShared f).keys = s.keys := rfl
@[simp] theorem State.modShared_turn : (s.modShared f).turn = s.turn := rfl
@[simp] theorem State.modShared_light : (s.modShared f).light = s.light := rfl
@[simp] theorem State.modShared_store : (s.modShared f).store = s.store := rfl
@[simp] theorem State.modShared_executor : (s.modShared f).executor = s.executor := rfl
@[simp] theorem State.modShared_shared : (s.modShared f).shared = f s.shared := rfl
@[simp] theorem State.modShared_pending : (s.modShared f).pending = s.pending := rfl
end

end Sys2Proof.Machine
end

