-- ==== Sys2Proof/Laws/Frames.lean ====
section
/-!
SUPPORT. What each operation of the shared operations, the memory, the Waveform Unit and the Panel Update Engine leaves alone: one lemma for each operation.
-/

namespace Sys2Proof.Machine

open Sys2Proof

@[simp] theorem setCause_keeps (c : Cause) (s : State) :
    (setCause c s).regs.anchor = s.regs.anchor ∧ (setCause c s).regs.causemask = s.regs.causemask
    ∧ (setCause c s).link = s.link ∧ (setCause c s).bus = s.bus ∧ (setCause c s).sense = s.sense
    ∧ (setCause c s).power = s.power ∧ (setCause c s).wm = s.wm ∧ (setCause c s).wave = s.wave
    ∧ (setCause c s).panel = s.panel ∧ (setCause c s).pins = s.pins ∧ (setCause c s).keys = s.keys
    ∧ (setCause c s).turn = s.turn ∧ (setCause c s).light = s.light ∧ (setCause c s).store = s.store
    ∧ (setCause c s).executor = s.executor ∧ (setCause c s).shared = s.shared ∧ (setCause c s).pending = s.pending := by
  unfold setCause
  try dsimp only
  all_goals simp

@[simp] theorem setHostwake_keeps (s : State) :
    (setHostwake s).regs.anchor = s.regs.anchor ∧ (setHostwake s).regs.causemask = s.regs.causemask
    ∧ (setHostwake s).link = s.link ∧ (setHostwake s).bus = s.bus ∧ (setHostwake s).sense = s.sense
    ∧ (setHostwake s).power = s.power ∧ (setHostwake s).wm = s.wm ∧ (setHostwake s).wave = s.wave
    ∧ (setHostwake s).panel = s.panel ∧ (setHostwake s).pins = s.pins ∧ (setHostwake s).keys = s.keys
    ∧ (setHostwake s).turn = s.turn ∧ (setHostwake s).light = s.light ∧ (setHostwake s).store = s.store
    ∧ (setHostwake s).executor = s.executor ∧ (setHostwake s).shared = s.shared
    ∧ (setHostwake s).pending = s.pending := by
  unfold setHostwake
  try dsimp only
  all_goals simp

@[simp] theorem State.modLane_keeps (s : State) (i : LaneId) (f : Lane → Lane) :
    (State.modLane s i f).regs = s.regs ∧ (State.modLane s i f).link.state = s.link.state
    ∧ (State.modLane s i f).bus = s.bus ∧ (State.modLane s i f).sense = s.sense
    ∧ (State.modLane s i f).power = s.power ∧ (State.modLane s i f).wm = s.wm ∧ (State.modLane s i f).wave = s.wave
    ∧ (State.modLane s i f).panel = s.panel ∧ (State.modLane s i f).pins = s.pins
    ∧ (State.modLane s i f).keys = s.keys ∧ (State.modLane s i f).turn = s.turn
    ∧ (State.modLane s i f).light = s.light ∧ (State.modLane s i f).store = s.store
    ∧ (State.modLane s i f).executor = s.executor ∧ (State.modLane s i f).shared = s.shared
    ∧ (State.modLane s i f).pending = s.pending := by
  cases i <;> simp [State.modLane, Link.setLane]

@[simp] theorem enqueue_keeps (a : BusAccess) (s : State) :
    (enqueue a s).regs = s.regs ∧ (enqueue a s).link = s.link ∧ (enqueue a s).sense = s.sense
    ∧ (enqueue a s).power = s.power ∧ (enqueue a s).wm = s.wm ∧ (enqueue a s).wave = s.wave
    ∧ (enqueue a s).panel = s.panel ∧ (enqueue a s).pins = s.pins ∧ (enqueue a s).keys = s.keys
    ∧ (enqueue a s).turn = s.turn ∧ (enqueue a s).light = s.light ∧ (enqueue a s).store = s.store
    ∧ (enqueue a s).executor = s.executor ∧ (enqueue a s).shared = s.shared ∧ (enqueue a s).pending = s.pending := by
  unfold enqueue
  try dsimp only
  all_goals simp

@[simp] theorem requestPage_keeps (s : State) :
    (requestPage s).regs = s.regs ∧ (requestPage s).link = s.link ∧ (requestPage s).sense = s.sense
    ∧ (requestPage s).power = s.power ∧ (requestPage s).wm = s.wm ∧ (requestPage s).wave = s.wave
    ∧ (requestPage s).panel = s.panel ∧ (requestPage s).pins = s.pins ∧ (requestPage s).keys = s.keys
    ∧ (requestPage s).turn = s.turn ∧ (requestPage s).light = s.light ∧ (requestPage s).store = s.store
    ∧ (requestPage s).executor = s.executor ∧ (requestPage s).shared = s.shared
    ∧ (requestPage s).pending = s.pending := by
  unfold requestPage
  try dsimp only
  repeat' split
  all_goals simp

@[simp] theorem beginAccess_keeps (s : State) :
    (beginAccess s).regs = s.regs ∧ (beginAccess s).link = s.link ∧ (beginAccess s).sense = s.sense
    ∧ (beginAccess s).power = s.power ∧ (beginAccess s).wm = s.wm ∧ (beginAccess s).wave = s.wave
    ∧ (beginAccess s).panel = s.panel ∧ (beginAccess s).pins = s.pins ∧ (beginAccess s).keys = s.keys
    ∧ (beginAccess s).turn = s.turn ∧ (beginAccess s).light = s.light ∧ (beginAccess s).store = s.store
    ∧ (beginAccess s).executor = s.executor ∧ (beginAccess s).shared = s.shared
    ∧ (beginAccess s).pending = s.pending := by
  unfold beginAccess
  try dsimp only
  repeat' split
  all_goals simp

@[simp] theorem requestFinal_keeps (s : State) :
    (requestFinal s).regs = s.regs ∧ (requestFinal s).link = s.link ∧ (requestFinal s).sense = s.sense
    ∧ (requestFinal s).power = s.power ∧ (requestFinal s).wm = s.wm ∧ (requestFinal s).wave = s.wave
    ∧ (requestFinal s).panel = s.panel ∧ (requestFinal s).pins = s.pins ∧ (requestFinal s).keys = s.keys
    ∧ (requestFinal s).turn = s.turn ∧ (requestFinal s).light = s.light ∧ (requestFinal s).store = s.store
    ∧ (requestFinal s).executor = s.executor ∧ (requestFinal s).shared = s.shared
    ∧ (requestFinal s).pending = s.pending := by
  unfold requestFinal
  try dsimp only
  repeat' split
  all_goals simp

@[simp] theorem startTransfers_keeps (s : State) :
    (startTransfers s).regs = s.regs ∧ (startTransfers s).link = s.link ∧ (startTransfers s).sense = s.sense
    ∧ (startTransfers s).power = s.power ∧ (startTransfers s).wm = s.wm ∧ (startTransfers s).wave = s.wave
    ∧ (startTransfers s).panel = s.panel ∧ (startTransfers s).pins = s.pins ∧ (startTransfers s).keys = s.keys
    ∧ (startTransfers s).turn = s.turn ∧ (startTransfers s).light = s.light ∧ (startTransfers s).store = s.store
    ∧ (startTransfers s).executor = s.executor ∧ (startTransfers s).shared = s.shared
    ∧ (startTransfers s).pending = s.pending := by
  unfold startTransfers
  simp

@[simp] theorem settlePort_keeps (s t : State) :
    (settlePort s t).regs = t.regs ∧ (settlePort s t).link = t.link ∧ (settlePort s t).sense = t.sense
    ∧ (settlePort s t).power = t.power ∧ (settlePort s t).wm = t.wm ∧ (settlePort s t).wave = t.wave
    ∧ (settlePort s t).panel = t.panel ∧ (settlePort s t).pins = t.pins ∧ (settlePort s t).keys = t.keys
    ∧ (settlePort s t).turn = t.turn ∧ (settlePort s t).light = t.light ∧ (settlePort s t).store = t.store
    ∧ (settlePort s t).executor = t.executor ∧ (settlePort s t).shared = t.shared
    ∧ (settlePort s t).pending = t.pending := by
  unfold settlePort
  try dsimp only
  repeat' split
  all_goals simp

@[simp] theorem retire_keeps (i : LaneId) (s : State) :
    (retire i s).regs.anchor = s.regs.anchor ∧ (retire i s).regs.causemask = s.regs.causemask
    ∧ (retire i s).link.state = s.link.state ∧ (retire i s).bus = s.bus ∧ (retire i s).sense = s.sense
    ∧ (retire i s).power = s.power ∧ (retire i s).wm = s.wm ∧ (retire i s).wave = s.wave
    ∧ (retire i s).panel = s.panel ∧ (retire i s).pins = s.pins ∧ (retire i s).keys = s.keys
    ∧ (retire i s).turn = s.turn ∧ (retire i s).light = s.light ∧ (retire i s).store = s.store
    ∧ (retire i s).executor = s.executor ∧ (retire i s).shared = s.shared ∧ (retire i s).pending = s.pending := by
  unfold retire
  try dsimp only
  repeat' split
  all_goals simp

@[simp] theorem markDone_keeps (i : LaneId) (addr : Word) (s : State) :
    (markDone i addr s).regs.anchor = s.regs.anchor ∧ (markDone i addr s).regs.causemask = s.regs.causemask
    ∧ (markDone i addr s).link.state = s.link.state ∧ (markDone i addr s).bus = s.bus
    ∧ (markDone i addr s).sense = s.sense ∧ (markDone i addr s).power = s.power ∧ (markDone i addr s).wm = s.wm
    ∧ (markDone i addr s).wave = s.wave ∧ (markDone i addr s).panel = s.panel ∧ (markDone i addr s).pins = s.pins
    ∧ (markDone i addr s).keys = s.keys ∧ (markDone i addr s).turn = s.turn ∧ (markDone i addr s).light = s.light
    ∧ (markDone i addr s).store = s.store ∧ (markDone i addr s).executor = s.executor
    ∧ (markDone i addr s).shared = s.shared ∧ (markDone i addr s).pending = s.pending := by
  unfold markDone
  try dsimp only
  all_goals simp

@[simp] theorem completeRecord_keeps (i : LaneId) (addr : Word) (result : ResultCode) (detail : Word) (progress : Nat) (s : State) :
    (completeRecord i addr result detail progress s).regs.anchor = s.regs.anchor
    ∧ (completeRecord i addr result detail progress s).regs.causemask = s.regs.causemask
    ∧ (completeRecord i addr result detail progress s).link.state = s.link.state
    ∧ (completeRecord i addr result detail progress s).sense = s.sense
    ∧ (completeRecord i addr result detail progress s).power = s.power
    ∧ (completeRecord i addr result detail progress s).wm = s.wm
    ∧ (completeRecord i addr result detail progress s).wave = s.wave
    ∧ (completeRecord i addr result detail progress s).panel = s.panel
    ∧ (completeRecord i addr result detail progress s).pins = s.pins
    ∧ (completeRecord i addr result detail progress s).keys = s.keys
    ∧ (completeRecord i addr result detail progress s).turn = s.turn
    ∧ (completeRecord i addr result detail progress s).light = s.light
    ∧ (completeRecord i addr result detail progress s).store = s.store
    ∧ (completeRecord i addr result detail progress s).executor = s.executor
    ∧ (completeRecord i addr result detail progress s).shared = s.shared
    ∧ (completeRecord i addr result detail progress s).pending = s.pending := by
  unfold completeRecord
  try dsimp only
  repeat' split
  all_goals simp

@[simp] theorem markRunning_keeps (i : LaneId) (addr : Word) (s : State) :
    (markRunning i addr s).regs = s.regs ∧ (markRunning i addr s).link = s.link
    ∧ (markRunning i addr s).sense = s.sense ∧ (markRunning i addr s).power = s.power
    ∧ (markRunning i addr s).wm = s.wm ∧ (markRunning i addr s).wave = s.wave
    ∧ (markRunning i addr s).panel = s.panel ∧ (markRunning i addr s).pins = s.pins
    ∧ (markRunning i addr s).keys = s.keys ∧ (markRunning i addr s).turn = s.turn
    ∧ (markRunning i addr s).light = s.light ∧ (markRunning i addr s).store = s.store
    ∧ (markRunning i addr s).executor = s.executor ∧ (markRunning i addr s).shared = s.shared
    ∧ (markRunning i addr s).pending = s.pending := by
  unfold markRunning
  try dsimp only
  repeat' split
  all_goals simp

@[simp] theorem stopLane_keeps (i : LaneId) (addr : Word) (s : State) :
    (stopLane i addr s).regs.anchor = s.regs.anchor ∧ (stopLane i addr s).regs.causemask = s.regs.causemask
    ∧ (stopLane i addr s).link.state = s.link.state ∧ (stopLane i addr s).sense = s.sense
    ∧ (stopLane i addr s).power = s.power ∧ (stopLane i addr s).wm = s.wm ∧ (stopLane i addr s).wave = s.wave
    ∧ (stopLane i addr s).panel = s.panel ∧ (stopLane i addr s).pins = s.pins ∧ (stopLane i addr s).keys = s.keys
    ∧ (stopLane i addr s).turn = s.turn ∧ (stopLane i addr s).light = s.light ∧ (stopLane i addr s).store = s.store
    ∧ (stopLane i addr s).executor = s.executor ∧ (stopLane i addr s).shared = s.shared
    ∧ (stopLane i addr s).pending = s.pending := by
  unfold stopLane
  try dsimp only
  repeat' split
  all_goals simp

@[simp] theorem requestLink_keeps (i : LaneId) (why : LinkReadWhy) (s : State) :
    (requestLink i why s).regs = s.regs ∧ (requestLink i why s).link = s.link
    ∧ (requestLink i why s).sense = s.sense ∧ (requestLink i why s).power = s.power
    ∧ (requestLink i why s).wm = s.wm ∧ (requestLink i why s).wave = s.wave ∧ (requestLink i why s).panel = s.panel
    ∧ (requestLink i why s).pins = s.pins ∧ (requestLink i why s).keys = s.keys
    ∧ (requestLink i why s).turn = s.turn ∧ (requestLink i why s).light = s.light
    ∧ (requestLink i why s).store = s.store ∧ (requestLink i why s).executor = s.executor
    ∧ (requestLink i why s).shared = s.shared ∧ (requestLink i why s).pending = s.pending := by
  unfold requestLink
  try dsimp only
  all_goals simp

@[simp] theorem takeCursor_keeps (i : LaneId) (s : State) :
    (takeCursor i s).regs.anchor = s.regs.anchor ∧ (takeCursor i s).regs.causemask = s.regs.causemask
    ∧ (takeCursor i s).link.state = s.link.state ∧ (takeCursor i s).sense = s.sense
    ∧ (takeCursor i s).power = s.power ∧ (takeCursor i s).wm = s.wm ∧ (takeCursor i s).wave = s.wave
    ∧ (takeCursor i s).panel = s.panel ∧ (takeCursor i s).pins = s.pins ∧ (takeCursor i s).keys = s.keys
    ∧ (takeCursor i s).turn = s.turn ∧ (takeCursor i s).light = s.light ∧ (takeCursor i s).store = s.store
    ∧ (takeCursor i s).executor = s.executor ∧ (takeCursor i s).shared = s.shared
    ∧ (takeCursor i s).pending = s.pending := by
  unfold takeCursor
  try dsimp only
  repeat' split
  all_goals simp

@[simp] theorem addEntry_keeps (i : LaneId) (e : TakenEntry) (s : State) :
    (addEntry i e s).regs = s.regs ∧ (addEntry i e s).link.state = s.link.state ∧ (addEntry i e s).bus = s.bus
    ∧ (addEntry i e s).sense = s.sense ∧ (addEntry i e s).power = s.power ∧ (addEntry i e s).wm = s.wm
    ∧ (addEntry i e s).wave = s.wave ∧ (addEntry i e s).panel = s.panel ∧ (addEntry i e s).pins = s.pins
    ∧ (addEntry i e s).keys = s.keys ∧ (addEntry i e s).turn = s.turn ∧ (addEntry i e s).light = s.light
    ∧ (addEntry i e s).store = s.store ∧ (addEntry i e s).executor = s.executor ∧ (addEntry i e s).shared = s.shared
    ∧ (addEntry i e s).pending = s.pending := by
  unfold addEntry
  try dsimp only
  all_goals simp

@[simp] theorem refuseRecord_keeps (i : LaneId) (r : RecordCopy) (result : ResultCode) (s : State) :
    (refuseRecord i r result s).regs = s.regs ∧ (refuseRecord i r result s).link.state = s.link.state
    ∧ (refuseRecord i r result s).sense = s.sense ∧ (refuseRecord i r result s).power = s.power
    ∧ (refuseRecord i r result s).wm = s.wm ∧ (refuseRecord i r result s).wave = s.wave
    ∧ (refuseRecord i r result s).panel = s.panel ∧ (refuseRecord i r result s).pins = s.pins
    ∧ (refuseRecord i r result s).keys = s.keys ∧ (refuseRecord i r result s).turn = s.turn
    ∧ (refuseRecord i r result s).light = s.light ∧ (refuseRecord i r result s).store = s.store
    ∧ (refuseRecord i r result s).executor = s.executor ∧ (refuseRecord i r result s).shared = s.shared
    ∧ (refuseRecord i r result s).pending = s.pending := by
  unfold refuseRecord
  try dsimp only
  all_goals simp

@[simp] theorem acceptRecord_keeps (k : Kind) (r : RecordCopy) (s : State) :
    (acceptRecord k r s).regs = s.regs ∧ (acceptRecord k r s).link.state = s.link.state
    ∧ (acceptRecord k r s).sense = s.sense ∧ (acceptRecord k r s).power = s.power ∧ (acceptRecord k r s).wm = s.wm
    ∧ (acceptRecord k r s).wave = s.wave ∧ (acceptRecord k r s).panel = s.panel ∧ (acceptRecord k r s).pins = s.pins
    ∧ (acceptRecord k r s).keys = s.keys ∧ (acceptRecord k r s).turn = s.turn ∧ (acceptRecord k r s).light = s.light
    ∧ (acceptRecord k r s).store = s.store ∧ (acceptRecord k r s).executor = s.executor
    ∧ (acceptRecord k r s).shared = s.shared ∧ (acceptRecord k r s).pending = s.pending := by
  unfold acceptRecord
  try dsimp only
  all_goals simp

@[simp] theorem holdLane_keeps (i : LaneId) (s : State) :
    (holdLane i s).regs = s.regs ∧ (holdLane i s).link.state = s.link.state ∧ (holdLane i s).bus = s.bus
    ∧ (holdLane i s).sense = s.sense ∧ (holdLane i s).power = s.power ∧ (holdLane i s).wm = s.wm
    ∧ (holdLane i s).wave = s.wave ∧ (holdLane i s).panel = s.panel ∧ (holdLane i s).pins = s.pins
    ∧ (holdLane i s).keys = s.keys ∧ (holdLane i s).turn = s.turn ∧ (holdLane i s).light = s.light
    ∧ (holdLane i s).store = s.store ∧ (holdLane i s).executor = s.executor ∧ (holdLane i s).shared = s.shared
    ∧ (holdLane i s).pending = s.pending := by
  unfold holdLane
  try dsimp only
  all_goals simp

@[simp] theorem wmRequest_keeps (c : WmClient) (s : State) :
    (wmRequest c s).regs = s.regs ∧ (wmRequest c s).link = s.link ∧ (wmRequest c s).bus = s.bus
    ∧ (wmRequest c s).sense = s.sense ∧ (wmRequest c s).power = s.power ∧ (wmRequest c s).wm.panel = s.wm.panel
    ∧ (wmRequest c s).wave = s.wave ∧ (wmRequest c s).panel = s.panel ∧ (wmRequest c s).pins = s.pins
    ∧ (wmRequest c s).keys = s.keys ∧ (wmRequest c s).turn = s.turn ∧ (wmRequest c s).light = s.light
    ∧ (wmRequest c s).store = s.store ∧ (wmRequest c s).executor = s.executor ∧ (wmRequest c s).shared = s.shared
    ∧ (wmRequest c s).pending = s.pending := by
  refine ⟨rfl, rfl, rfl, rfl, rfl, ?_, rfl, rfl, rfl, rfl, rfl, rfl, rfl, rfl, rfl, rfl⟩
  unfold wmRequest
  simp only [State.modWm_wm]
  split <;> simp

@[simp] theorem wmDrop_keeps (c : WmClient) (s : State) :
    (wmDrop c s).regs = s.regs ∧ (wmDrop c s).link = s.link ∧ (wmDrop c s).bus = s.bus
    ∧ (wmDrop c s).sense = s.sense ∧ (wmDrop c s).power = s.power ∧ (wmDrop c s).wm.panel = s.wm.panel
    ∧ (wmDrop c s).wave = s.wave ∧ (wmDrop c s).panel = s.panel ∧ (wmDrop c s).pins = s.pins
    ∧ (wmDrop c s).keys = s.keys ∧ (wmDrop c s).turn = s.turn ∧ (wmDrop c s).light = s.light
    ∧ (wmDrop c s).store = s.store ∧ (wmDrop c s).executor = s.executor ∧ (wmDrop c s).shared = s.shared
    ∧ (wmDrop c s).pending = s.pending := by
  unfold wmDrop
  try dsimp only
  all_goals simp

@[simp] theorem wmGoOn_keeps (requests : List WmClient) (s : State) :
    (wmGoOn requests s).regs = s.regs ∧ (wmGoOn requests s).link = s.link ∧ (wmGoOn requests s).bus = s.bus
    ∧ (wmGoOn requests s).sense = s.sense ∧ (wmGoOn requests s).power = s.power
    ∧ (wmGoOn requests s).wm.panel = s.wm.panel ∧ (wmGoOn requests s).wave = s.wave
    ∧ (wmGoOn requests s).panel = s.panel ∧ (wmGoOn requests s).pins = s.pins ∧ (wmGoOn requests s).keys = s.keys
    ∧ (wmGoOn requests s).turn = s.turn ∧ (wmGoOn requests s).light = s.light ∧ (wmGoOn requests s).store = s.store
    ∧ (wmGoOn requests s).executor = s.executor ∧ (wmGoOn requests s).shared = s.shared
    ∧ (wmGoOn requests s).pending = s.pending := by
  unfold wmGoOn
  try dsimp only
  all_goals simp

@[simp] theorem wmInitialise_keeps (s : State) :
    (wmInitialise s).regs = s.regs ∧ (wmInitialise s).link = s.link ∧ (wmInitialise s).bus = s.bus
    ∧ (wmInitialise s).sense = s.sense ∧ (wmInitialise s).power = s.power ∧ (wmInitialise s).wave = s.wave
    ∧ (wmInitialise s).panel = s.panel ∧ (wmInitialise s).pins = s.pins ∧ (wmInitialise s).keys = s.keys
    ∧ (wmInitialise s).turn = s.turn ∧ (wmInitialise s).light = s.light ∧ (wmInitialise s).store = s.store
    ∧ (wmInitialise s).executor = s.executor ∧ (wmInitialise s).shared = s.shared
    ∧ (wmInitialise s).pending = s.pending := by
  unfold wmInitialise
  try dsimp only
  all_goals simp

@[simp] theorem wmUnpower_keeps (s : State) :
    (wmUnpower s).regs = s.regs ∧ (wmUnpower s).link = s.link ∧ (wmUnpower s).bus = s.bus
    ∧ (wmUnpower s).sense = s.sense ∧ (wmUnpower s).power = s.power ∧ (wmUnpower s).wave = s.wave
    ∧ (wmUnpower s).panel = s.panel ∧ (wmUnpower s).pins = s.pins ∧ (wmUnpower s).keys = s.keys
    ∧ (wmUnpower s).turn = s.turn ∧ (wmUnpower s).light = s.light ∧ (wmUnpower s).store = s.store
    ∧ (wmUnpower s).executor = s.executor ∧ (wmUnpower s).shared = s.shared ∧ (wmUnpower s).pending = s.pending := by
  unfold wmUnpower
  try dsimp only
  all_goals simp

@[simp] theorem rangeEvent_keeps (s : State) :
    (rangeEvent s).regs = s.regs ∧ (rangeEvent s).link = s.link ∧ (rangeEvent s).bus = s.bus
    ∧ (rangeEvent s).sense = s.sense ∧ (rangeEvent s).power = s.power ∧ (rangeEvent s).wm = s.wm
    ∧ (rangeEvent s).panel = s.panel ∧ (rangeEvent s).pins = s.pins ∧ (rangeEvent s).keys = s.keys
    ∧ (rangeEvent s).turn = s.turn ∧ (rangeEvent s).light = s.light ∧ (rangeEvent s).store = s.store
    ∧ (rangeEvent s).executor = s.executor ∧ (rangeEvent s).shared = s.shared ∧ (rangeEvent s).pending = s.pending := by
  unfold rangeEvent
  try dsimp only
  repeat' split
  all_goals simp

@[simp] theorem settlePeriod_keeps (s : State) :
    (settlePeriod s).regs = s.regs ∧ (settlePeriod s).link = s.link ∧ (settlePeriod s).bus = s.bus
    ∧ (settlePeriod s).sense = s.sense ∧ (settlePeriod s).power = s.power ∧ (settlePeriod s).wm = s.wm
    ∧ (settlePeriod s).panel = s.panel ∧ (settlePeriod s).pins = s.pins ∧ (settlePeriod s).keys = s.keys
    ∧ (settlePeriod s).turn = s.turn ∧ (settlePeriod s).light = s.light ∧ (settlePeriod s).store = s.store
    ∧ (settlePeriod s).executor = s.executor ∧ (settlePeriod s).shared = s.shared
    ∧ (settlePeriod s).pending = s.pending := by
  unfold settlePeriod
  try dsimp only
  repeat' split
  all_goals simp

@[simp] theorem endLoad_keeps (result : ResultCode) (s : State) :
    (endLoad result s).regs.anchor = s.regs.anchor ∧ (endLoad result s).regs.causemask = s.regs.causemask
    ∧ (endLoad result s).link.state = s.link.state ∧ (endLoad result s).sense = s.sense
    ∧ (endLoad result s).power = s.power ∧ (endLoad result s).wm = s.wm ∧ (endLoad result s).panel = s.panel
    ∧ (endLoad result s).pins = s.pins ∧ (endLoad result s).keys = s.keys ∧ (endLoad result s).turn = s.turn
    ∧ (endLoad result s).light = s.light ∧ (endLoad result s).store = s.store
    ∧ (endLoad result s).executor = s.executor ∧ (endLoad result s).shared = s.shared
    ∧ (endLoad result s).pending = s.pending := by
  unfold endLoad
  try dsimp only
  repeat' split
  all_goals simp

@[simp] theorem endWaitingLoad_keeps (result : ResultCode) (s : State) :
    (endWaitingLoad result s).regs.anchor = s.regs.anchor
    ∧ (endWaitingLoad result s).regs.causemask = s.regs.causemask
    ∧ (endWaitingLoad result s).link.state = s.link.state ∧ (endWaitingLoad result s).sense = s.sense
    ∧ (endWaitingLoad result s).power = s.power ∧ (endWaitingLoad result s).wm = s.wm
    ∧ (endWaitingLoad result s).panel = s.panel ∧ (endWaitingLoad result s).pins = s.pins
    ∧ (endWaitingLoad result s).keys = s.keys ∧ (endWaitingLoad result s).turn = s.turn
    ∧ (endWaitingLoad result s).light = s.light ∧ (endWaitingLoad result s).store = s.store
    ∧ (endWaitingLoad result s).executor = s.executor ∧ (endWaitingLoad result s).shared = s.shared
    ∧ (endWaitingLoad result s).pending = s.pending := by
  unfold endWaitingLoad
  try dsimp only
  repeat' split
  all_goals simp

@[simp] theorem endListWaitLoad_keeps (s : State) :
    (endListWaitLoad s).regs.anchor = s.regs.anchor ∧ (endListWaitLoad s).regs.causemask = s.regs.causemask
    ∧ (endListWaitLoad s).link.state = s.link.state ∧ (endListWaitLoad s).sense = s.sense
    ∧ (endListWaitLoad s).power = s.power ∧ (endListWaitLoad s).wm = s.wm ∧ (endListWaitLoad s).panel = s.panel
    ∧ (endListWaitLoad s).pins = s.pins ∧ (endListWaitLoad s).keys = s.keys ∧ (endListWaitLoad s).turn = s.turn
    ∧ (endListWaitLoad s).light = s.light ∧ (endListWaitLoad s).store = s.store
    ∧ (endListWaitLoad s).executor = s.executor ∧ (endListWaitLoad s).shared = s.shared
    ∧ (endListWaitLoad s).pending = s.pending := by
  unfold endListWaitLoad
  try dsimp only
  repeat' split
  all_goals simp

@[simp] theorem flip_keeps (s : State) :
    (flip s).regs = s.regs ∧ (flip s).link = s.link ∧ (flip s).bus = s.bus ∧ (flip s).sense = s.sense
    ∧ (flip s).power = s.power ∧ (flip s).wm = s.wm ∧ (flip s).panel = s.panel ∧ (flip s).pins = s.pins
    ∧ (flip s).keys = s.keys ∧ (flip s).turn = s.turn ∧ (flip s).light = s.light ∧ (flip s).store = s.store
    ∧ (flip s).executor = s.executor ∧ (flip s).shared = s.shared ∧ (flip s).pending = s.pending := by
  unfold flip
  try dsimp only
  repeat' split
  all_goals simp

@[simp] theorem waveLost_keeps (s : State) :
    (waveLost s).regs = s.regs ∧ (waveLost s).link = s.link ∧ (waveLost s).bus = s.bus
    ∧ (waveLost s).sense = s.sense ∧ (waveLost s).power = s.power ∧ (waveLost s).wm = s.wm
    ∧ (waveLost s).panel = s.panel ∧ (waveLost s).pins = s.pins ∧ (waveLost s).keys = s.keys
    ∧ (waveLost s).turn = s.turn ∧ (waveLost s).light = s.light ∧ (waveLost s).store = s.store
    ∧ (waveLost s).executor = s.executor ∧ (waveLost s).shared = s.shared ∧ (waveLost s).pending = s.pending := by
  unfold waveLost
  try dsimp only
  all_goals simp

@[simp] theorem reportCopied_keeps (f : Frame) (s : State) :
    (reportCopied f s).regs = s.regs ∧ (reportCopied f s).link = s.link ∧ (reportCopied f s).bus = s.bus
    ∧ (reportCopied f s).sense = s.sense ∧ (reportCopied f s).power = s.power ∧ (reportCopied f s).wm = s.wm
    ∧ (reportCopied f s).wave = s.wave ∧ (reportCopied f s).panel = s.panel ∧ (reportCopied f s).pins = s.pins
    ∧ (reportCopied f s).keys = s.keys ∧ (reportCopied f s).light = s.light ∧ (reportCopied f s).store = s.store
    ∧ (reportCopied f s).executor = s.executor ∧ (reportCopied f s).shared = s.shared
    ∧ (reportCopied f s).pending = s.pending := by
  unfold reportCopied
  try dsimp only
  all_goals simp

@[simp] theorem reportRemoved_keeps (f : Frame) (id : Nat) (s : State) :
    (reportRemoved f id s).regs = s.regs ∧ (reportRemoved f id s).link = s.link ∧ (reportRemoved f id s).bus = s.bus
    ∧ (reportRemoved f id s).sense = s.sense ∧ (reportRemoved f id s).power = s.power
    ∧ (reportRemoved f id s).wm = s.wm ∧ (reportRemoved f id s).wave = s.wave
    ∧ (reportRemoved f id s).panel = s.panel ∧ (reportRemoved f id s).pins = s.pins
    ∧ (reportRemoved f id s).keys = s.keys ∧ (reportRemoved f id s).light = s.light
    ∧ (reportRemoved f id s).store = s.store ∧ (reportRemoved f id s).executor = s.executor
    ∧ (reportRemoved f id s).shared = s.shared ∧ (reportRemoved f id s).pending = s.pending := by
  unfold reportRemoved
  try dsimp only
  all_goals simp

@[simp] theorem reportEnded_keeps (id : Nat) (s : State) :
    (reportEnded id s).regs = s.regs ∧ (reportEnded id s).link = s.link ∧ (reportEnded id s).bus = s.bus
    ∧ (reportEnded id s).sense = s.sense ∧ (reportEnded id s).power = s.power ∧ (reportEnded id s).wm = s.wm
    ∧ (reportEnded id s).wave = s.wave ∧ (reportEnded id s).panel = s.panel ∧ (reportEnded id s).pins = s.pins
    ∧ (reportEnded id s).keys = s.keys ∧ (reportEnded id s).light = s.light ∧ (reportEnded id s).store = s.store
    ∧ (reportEnded id s).executor = s.executor ∧ (reportEnded id s).shared = s.shared
    ∧ (reportEnded id s).pending = s.pending := by
  unfold reportEnded
  try dsimp only
  all_goals simp

@[simp] theorem reportCompleted_keeps (id : Nat) (s : State) :
    (reportCompleted id s).regs = s.regs ∧ (reportCompleted id s).link = s.link ∧ (reportCompleted id s).bus = s.bus
    ∧ (reportCompleted id s).sense = s.sense ∧ (reportCompleted id s).power = s.power
    ∧ (reportCompleted id s).wm = s.wm ∧ (reportCompleted id s).wave = s.wave
    ∧ (reportCompleted id s).panel = s.panel ∧ (reportCompleted id s).pins = s.pins
    ∧ (reportCompleted id s).keys = s.keys ∧ (reportCompleted id s).light = s.light
    ∧ (reportCompleted id s).store = s.store ∧ (reportCompleted id s).executor = s.executor
    ∧ (reportCompleted id s).shared = s.shared ∧ (reportCompleted id s).pending = s.pending := by
  unfold reportCompleted
  try dsimp only
  all_goals simp

@[simp] theorem endEntry_keeps (result : ResultCode) (e : Entry) (s : State) :
    (endEntry result e s).regs.anchor = s.regs.anchor ∧ (endEntry result e s).regs.causemask = s.regs.causemask
    ∧ (endEntry result e s).link.state = s.link.state ∧ (endEntry result e s).sense = s.sense
    ∧ (endEntry result e s).power = s.power ∧ (endEntry result e s).wm = s.wm ∧ (endEntry result e s).wave = s.wave
    ∧ (endEntry result e s).panel = s.panel ∧ (endEntry result e s).pins = s.pins
    ∧ (endEntry result e s).keys = s.keys ∧ (endEntry result e s).light = s.light
    ∧ (endEntry result e s).store = s.store ∧ (endEntry result e s).executor = s.executor
    ∧ (endEntry result e s).shared = s.shared ∧ (endEntry result e s).pending = s.pending := by
  unfold endEntry
  try dsimp only
  repeat' split
  all_goals simp

@[simp] theorem endEntries_keeps (result : ResultCode) (l : List Entry) (s : State) :
    (endEntries result l s).regs.anchor = s.regs.anchor ∧ (endEntries result l s).regs.causemask = s.regs.causemask
    ∧ (endEntries result l s).link.state = s.link.state ∧ (endEntries result l s).sense = s.sense
    ∧ (endEntries result l s).power = s.power ∧ (endEntries result l s).wm = s.wm
    ∧ (endEntries result l s).wave = s.wave ∧ (endEntries result l s).panel = s.panel
    ∧ (endEntries result l s).pins = s.pins ∧ (endEntries result l s).keys = s.keys
    ∧ (endEntries result l s).light = s.light ∧ (endEntries result l s).store = s.store
    ∧ (endEntries result l s).executor = s.executor ∧ (endEntries result l s).shared = s.shared
    ∧ (endEntries result l s).pending = s.pending := by
  induction l generalizing s with
  | nil => simp [endEntries]
  | cons e l ih => simp [endEntries, ih]

@[simp] theorem removeEntries_keeps (result : ResultCode) (p : Entry → Bool) (s : State) :
    (removeEntries result p s).regs.anchor = s.regs.anchor
    ∧ (removeEntries result p s).regs.causemask = s.regs.causemask
    ∧ (removeEntries result p s).link.state = s.link.state ∧ (removeEntries result p s).sense = s.sense
    ∧ (removeEntries result p s).power = s.power ∧ (removeEntries result p s).wm = s.wm
    ∧ (removeEntries result p s).wave = s.wave ∧ (removeEntries result p s).pins = s.pins
    ∧ (removeEntries result p s).keys = s.keys ∧ (removeEntries result p s).light = s.light
    ∧ (removeEntries result p s).store = s.store ∧ (removeEntries result p s).executor = s.executor
    ∧ (removeEntries result p s).shared = s.shared ∧ (removeEntries result p s).pending = s.pending := by
  unfold removeEntries
  try dsimp only
  all_goals simp

@[simp] theorem joinList_keeps (e : Entry) (s : State) :
    (joinList e s).regs.anchor = s.regs.anchor ∧ (joinList e s).regs.causemask = s.regs.causemask
    ∧ (joinList e s).link.state = s.link.state ∧ (joinList e s).sense = s.sense ∧ (joinList e s).power = s.power
    ∧ (joinList e s).wm = s.wm ∧ (joinList e s).wave = s.wave ∧ (joinList e s).pins = s.pins
    ∧ (joinList e s).keys = s.keys ∧ (joinList e s).light = s.light ∧ (joinList e s).store = s.store
    ∧ (joinList e s).executor = s.executor ∧ (joinList e s).shared = s.shared ∧ (joinList e s).pending = s.pending := by
  unfold joinList
  try dsimp only
  all_goals simp

@[simp] theorem flushList_keeps (result : ResultCode) (s : State) :
    (flushList result s).regs.anchor = s.regs.anchor ∧ (flushList result s).regs.causemask = s.regs.causemask
    ∧ (flushList result s).link.state = s.link.state ∧ (flushList result s).sense = s.sense
    ∧ (flushList result s).power = s.power ∧ (flushList result s).wm = s.wm ∧ (flushList result s).wave = s.wave
    ∧ (flushList result s).pins = s.pins ∧ (flushList result s).keys = s.keys ∧ (flushList result s).light = s.light
    ∧ (flushList result s).store = s.store ∧ (flushList result s).executor = s.executor
    ∧ (flushList result s).shared = s.shared ∧ (flushList result s).pending = s.pending := by
  unfold flushList
  try dsimp only
  all_goals simp

@[simp] theorem flushRecords_keeps (s : State) :
    (flushRecords s).regs.anchor = s.regs.anchor ∧ (flushRecords s).regs.causemask = s.regs.causemask
    ∧ (flushRecords s).link.state = s.link.state ∧ (flushRecords s).sense = s.sense
    ∧ (flushRecords s).power = s.power ∧ (flushRecords s).wm = s.wm ∧ (flushRecords s).wave = s.wave
    ∧ (flushRecords s).pins = s.pins ∧ (flushRecords s).keys = s.keys ∧ (flushRecords s).light = s.light
    ∧ (flushRecords s).store = s.store ∧ (flushRecords s).executor = s.executor ∧ (flushRecords s).shared = s.shared
    ∧ (flushRecords s).pending = s.pending := by
  unfold flushRecords
  try dsimp only
  all_goals simp

@[simp] theorem modSlot_keeps (n : Nat) (f : Slot → Slot) (s : State) :
    (modSlot n f s).regs = s.regs ∧ (modSlot n f s).link = s.link ∧ (modSlot n f s).bus = s.bus
    ∧ (modSlot n f s).sense = s.sense ∧ (modSlot n f s).power = s.power ∧ (modSlot n f s).wm = s.wm
    ∧ (modSlot n f s).wave = s.wave ∧ (modSlot n f s).pins = s.pins ∧ (modSlot n f s).keys = s.keys
    ∧ (modSlot n f s).turn = s.turn ∧ (modSlot n f s).light = s.light ∧ (modSlot n f s).store = s.store
    ∧ (modSlot n f s).executor = s.executor ∧ (modSlot n f s).shared = s.shared
    ∧ (modSlot n f s).pending = s.pending := by
  unfold modSlot
  try dsimp only
  all_goals simp

@[simp] theorem requestRows_keeps (s : State) :
    (requestRows s).regs = s.regs ∧ (requestRows s).link = s.link ∧ (requestRows s).sense = s.sense
    ∧ (requestRows s).power = s.power ∧ (requestRows s).wm = s.wm ∧ (requestRows s).wave = s.wave
    ∧ (requestRows s).panel = s.panel ∧ (requestRows s).pins = s.pins ∧ (requestRows s).keys = s.keys
    ∧ (requestRows s).turn = s.turn ∧ (requestRows s).light = s.light ∧ (requestRows s).store = s.store
    ∧ (requestRows s).executor = s.executor ∧ (requestRows s).shared = s.shared
    ∧ (requestRows s).pending = s.pending := by
  unfold requestRows
  try dsimp only
  repeat' split
  all_goals simp

@[simp] theorem dropRows_keeps (n : Nat) (s : State) :
    (dropRows n s).regs = s.regs ∧ (dropRows n s).link = s.link ∧ (dropRows n s).sense = s.sense
    ∧ (dropRows n s).power = s.power ∧ (dropRows n s).wm = s.wm ∧ (dropRows n s).wave = s.wave
    ∧ (dropRows n s).panel = s.panel ∧ (dropRows n s).pins = s.pins ∧ (dropRows n s).keys = s.keys
    ∧ (dropRows n s).turn = s.turn ∧ (dropRows n s).light = s.light ∧ (dropRows n s).store = s.store
    ∧ (dropRows n s).executor = s.executor ∧ (dropRows n s).shared = s.shared ∧ (dropRows n s).pending = s.pending := by
  unfold dropRows
  try dsimp only
  all_goals simp

@[simp] theorem startEntry_keeps (e : Entry) (s : State) :
    (startEntry e s).regs.anchor = s.regs.anchor ∧ (startEntry e s).regs.causemask = s.regs.causemask
    ∧ (startEntry e s).link.state = s.link.state ∧ (startEntry e s).sense = s.sense
    ∧ (startEntry e s).power = s.power ∧ (startEntry e s).wm.panel = s.wm.panel ∧ (startEntry e s).wave = s.wave
    ∧ (startEntry e s).pins = s.pins ∧ (startEntry e s).keys = s.keys ∧ (startEntry e s).light = s.light
    ∧ (startEntry e s).store = s.store ∧ (startEntry e s).executor = s.executor ∧ (startEntry e s).shared = s.shared
    ∧ (startEntry e s).pending = s.pending := by
  unfold startEntry
  try dsimp only
  repeat' split
  all_goals simp

@[simp] theorem startAll_keeps (n : Nat) (s : State) :
    (startAll n s).regs.anchor = s.regs.anchor ∧ (startAll n s).regs.causemask = s.regs.causemask
    ∧ (startAll n s).link.state = s.link.state ∧ (startAll n s).sense = s.sense ∧ (startAll n s).power = s.power
    ∧ (startAll n s).wm.panel = s.wm.panel ∧ (startAll n s).wave = s.wave ∧ (startAll n s).pins = s.pins
    ∧ (startAll n s).keys = s.keys ∧ (startAll n s).light = s.light ∧ (startAll n s).store = s.store
    ∧ (startAll n s).executor = s.executor ∧ (startAll n s).shared = s.shared ∧ (startAll n s).pending = s.pending := by
  induction n generalizing s with
  | zero => simp [startAll]
  | succ n ih =>
    unfold startAll
    repeat' split
    all_goals simp [ih]

@[simp] theorem evaluateStarts_keeps (s : State) :
    (evaluateStarts s).regs.anchor = s.regs.anchor ∧ (evaluateStarts s).regs.causemask = s.regs.causemask
    ∧ (evaluateStarts s).link.state = s.link.state ∧ (evaluateStarts s).sense = s.sense
    ∧ (evaluateStarts s).power = s.power ∧ (evaluateStarts s).wm.panel = s.wm.panel
    ∧ (evaluateStarts s).wave = s.wave ∧ (evaluateStarts s).pins = s.pins ∧ (evaluateStarts s).keys = s.keys
    ∧ (evaluateStarts s).light = s.light ∧ (evaluateStarts s).store = s.store
    ∧ (evaluateStarts s).executor = s.executor ∧ (evaluateStarts s).shared = s.shared
    ∧ (evaluateStarts s).pending = s.pending := by
  unfold evaluateStarts
  try dsimp only
  all_goals simp

@[simp] theorem refuseOffer_keeps (s : State) :
    (refuseOffer s).regs = s.regs ∧ (refuseOffer s).link = s.link ∧ (refuseOffer s).bus = s.bus
    ∧ (refuseOffer s).sense = s.sense ∧ (refuseOffer s).power = s.power ∧ (refuseOffer s).wm = s.wm
    ∧ (refuseOffer s).wave = s.wave ∧ (refuseOffer s).panel = s.panel ∧ (refuseOffer s).pins = s.pins
    ∧ (refuseOffer s).keys = s.keys ∧ (refuseOffer s).light = s.light ∧ (refuseOffer s).store = s.store
    ∧ (refuseOffer s).executor = s.executor ∧ (refuseOffer s).shared = s.shared
    ∧ (refuseOffer s).pending = s.pending := by
  unfold refuseOffer
  try dsimp only
  all_goals simp

@[simp] theorem tryOffer_keeps (s : State) :
    (tryOffer s).regs.anchor = s.regs.anchor ∧ (tryOffer s).regs.causemask = s.regs.causemask
    ∧ (tryOffer s).link.state = s.link.state ∧ (tryOffer s).sense = s.sense ∧ (tryOffer s).power = s.power
    ∧ (tryOffer s).wm.panel = s.wm.panel ∧ (tryOffer s).wave = s.wave ∧ (tryOffer s).pins = s.pins
    ∧ (tryOffer s).keys = s.keys ∧ (tryOffer s).light = s.light ∧ (tryOffer s).store = s.store
    ∧ (tryOffer s).executor = s.executor ∧ (tryOffer s).shared = s.shared ∧ (tryOffer s).pending = s.pending := by
  unfold tryOffer
  try dsimp only
  repeat' split
  all_goals simp

@[simp] theorem settlePanel_keeps (s : State) :
    (settlePanel s).regs.anchor = s.regs.anchor ∧ (settlePanel s).regs.causemask = s.regs.causemask
    ∧ (settlePanel s).link.state = s.link.state ∧ (settlePanel s).sense = s.sense ∧ (settlePanel s).power = s.power
    ∧ (settlePanel s).wm.panel = s.wm.panel ∧ (settlePanel s).wave = s.wave ∧ (settlePanel s).pins = s.pins
    ∧ (settlePanel s).keys = s.keys ∧ (settlePanel s).light = s.light ∧ (settlePanel s).store = s.store
    ∧ (settlePanel s).executor = s.executor ∧ (settlePanel s).shared = s.shared
    ∧ (settlePanel s).pending = s.pending := by
  unfold settlePanel
  try dsimp only
  all_goals simp

@[simp] theorem reportAbort_keeps (sl : Slot) (s : State) :
    (reportAbort sl s).regs = s.regs ∧ (reportAbort sl s).link = s.link ∧ (reportAbort sl s).bus = s.bus
    ∧ (reportAbort sl s).sense = s.sense ∧ (reportAbort sl s).power = s.power ∧ (reportAbort sl s).wm = s.wm
    ∧ (reportAbort sl s).wave = s.wave ∧ (reportAbort sl s).panel = s.panel ∧ (reportAbort sl s).pins = s.pins
    ∧ (reportAbort sl s).keys = s.keys ∧ (reportAbort sl s).light = s.light ∧ (reportAbort sl s).store = s.store
    ∧ (reportAbort sl s).executor = s.executor ∧ (reportAbort sl s).shared = s.shared
    ∧ (reportAbort sl s).pending = s.pending := by
  unfold reportAbort
  try dsimp only
  repeat' split
  all_goals simp

@[simp] theorem copyOn_keeps (s : State) :
    (copyOn s).regs = s.regs ∧ (copyOn s).link = s.link ∧ (copyOn s).sense = s.sense ∧ (copyOn s).power = s.power
    ∧ (copyOn s).wm.panel = s.wm.panel ∧ (copyOn s).wave = s.wave ∧ (copyOn s).panel = s.panel
    ∧ (copyOn s).pins = s.pins ∧ (copyOn s).keys = s.keys ∧ (copyOn s).turn = s.turn ∧ (copyOn s).light = s.light
    ∧ (copyOn s).store = s.store ∧ (copyOn s).executor = s.executor ∧ (copyOn s).shared = s.shared
    ∧ (copyOn s).pending = s.pending := by
  unfold copyOn
  try dsimp only
  repeat' split
  all_goals simp

@[simp] theorem abortSlot_keeps (result : ResultCode) (n : Nat) (s : State) :
    (abortSlot result n s).regs = s.regs ∧ (abortSlot result n s).link = s.link
    ∧ (abortSlot result n s).sense = s.sense ∧ (abortSlot result n s).power = s.power
    ∧ (abortSlot result n s).wm.panel = s.wm.panel ∧ (abortSlot result n s).pins = s.pins
    ∧ (abortSlot result n s).keys = s.keys ∧ (abortSlot result n s).light = s.light
    ∧ (abortSlot result n s).store = s.store ∧ (abortSlot result n s).executor = s.executor
    ∧ (abortSlot result n s).shared = s.shared ∧ (abortSlot result n s).pending = s.pending := by
  unfold abortSlot
  try dsimp only
  repeat' split
  all_goals simp

@[simp] theorem abortSlots_keeps (result : ResultCode) (l : List Nat) (s : State) :
    (abortSlots result l s).regs = s.regs ∧ (abortSlots result l s).link = s.link
    ∧ (abortSlots result l s).sense = s.sense ∧ (abortSlots result l s).power = s.power
    ∧ (abortSlots result l s).wm.panel = s.wm.panel ∧ (abortSlots result l s).pins = s.pins
    ∧ (abortSlots result l s).keys = s.keys ∧ (abortSlots result l s).light = s.light
    ∧ (abortSlots result l s).store = s.store ∧ (abortSlots result l s).executor = s.executor
    ∧ (abortSlots result l s).shared = s.shared ∧ (abortSlots result l s).pending = s.pending := by
  induction l generalizing s with
  | nil => simp [abortSlots]
  | cons n l ih => simp [abortSlots, ih]

/-- Completing a list of records, one after another, touches the link, the port and the causes alone. -/
theorem foldl_complete_keeps {α : Type} (f : α → State → State)
    (h : ∀ a s, ∃ l b r, f a s = { s with link := l, bus := b, regs := r }
      ∧ l.state = s.link.state ∧ r.anchor = s.regs.anchor ∧ r.causemask = s.regs.causemask)
    (l : List α) (s : State) :
    ∃ k b r, l.foldl (fun u a => f a u) s = { s with link := k, bus := b, regs := r }
      ∧ k.state = s.link.state ∧ r.anchor = s.regs.anchor ∧ r.causemask = s.regs.causemask := by
  induction l generalizing s with
  | nil => exact ⟨s.link, s.bus, s.regs, rfl, rfl, rfl, rfl⟩
  | cons a l ih =>
    obtain ⟨k, b, r, e, h1, h2, h3⟩ := h a s
    obtain ⟨k', b', r', e', g1, g2, g3⟩ := ih (f a s)
    exact ⟨k', b', r', by rw [List.foldl_cons, e', e], by rw [g1, e, h1], by rw [g2, e, h2], by rw [g3, e, h3]⟩

/-- A state that keeps all but the link, the port and the causes is the old one with those replaced. -/
theorem State.eq_of_keeps {s t : State} (h : t.sense = s.sense ∧ t.power = s.power ∧ t.wm = s.wm ∧ t.wave = s.wave ∧
    t.panel = s.panel ∧ t.pins = s.pins ∧ t.keys = s.keys ∧ t.turn = s.turn ∧ t.light = s.light ∧ t.store = s.store ∧
    t.executor = s.executor ∧ t.shared = s.shared ∧ t.pending = s.pending) :
    t = { s with link := t.link, bus := t.bus, regs := t.regs } := by
  cases s; cases t; simp_all

/-- What completing one record replaces. -/
theorem completeRecord_only (i : LaneId) (addr : Word) (result : ResultCode) (detail : Word) (progress : Nat)
    (s : State) :
    ∃ l b r, completeRecord i addr result detail progress s = { s with link := l, bus := b, regs := r }
      ∧ l.state = s.link.state ∧ r.anchor = s.regs.anchor ∧ r.causemask = s.regs.causemask :=
  ⟨_, _, _, State.eq_of_keeps (by simp), by simp, by simp, by simp⟩

@[simp] theorem completeStops_keeps (s : State) :
    (completeStops s).regs.anchor = s.regs.anchor ∧ (completeStops s).regs.causemask = s.regs.causemask
    ∧ (completeStops s).link.state = s.link.state ∧ (completeStops s).sense = s.sense
    ∧ (completeStops s).power = s.power ∧ (completeStops s).wm = s.wm ∧ (completeStops s).wave = s.wave
    ∧ (completeStops s).pins = s.pins ∧ (completeStops s).keys = s.keys ∧ (completeStops s).turn = s.turn
    ∧ (completeStops s).light = s.light ∧ (completeStops s).store = s.store
    ∧ (completeStops s).executor = s.executor ∧ (completeStops s).shared = s.shared
    ∧ (completeStops s).pending = s.pending := by
  obtain ⟨k, b, r, e, h1, h2, h3⟩ := foldl_complete_keeps
    (fun (st : Stop) u => completeRecord .display st.addr .ok st.detail st.stopped u)
    (fun st u => completeRecord_only _ _ _ _ _ u) (s.panel.stops.filter fun st => st.effect && st.waits.isEmpty)
    (s.modPanel fun p => { p with stops := p.stops.filter fun st => !(st.effect && st.waits.isEmpty) })
  unfold completeStops
  rw [e]
  simp_all

@[simp] theorem effectStop_keeps (st : Stop) (s : State) :
    (effectStop st s).regs.anchor = s.regs.anchor ∧ (effectStop st s).regs.causemask = s.regs.causemask
    ∧ (effectStop st s).link.state = s.link.state ∧ (effectStop st s).sense = s.sense
    ∧ (effectStop st s).power = s.power ∧ (effectStop st s).wm.panel = s.wm.panel ∧ (effectStop st s).pins = s.pins
    ∧ (effectStop st s).keys = s.keys ∧ (effectStop st s).light = s.light ∧ (effectStop st s).store = s.store
    ∧ (effectStop st s).executor = s.executor ∧ (effectStop st s).shared = s.shared
    ∧ (effectStop st s).pending = s.pending := by
  unfold effectStop
  try dsimp only
  all_goals simp

@[simp] theorem effectList_keeps (l done : List Stop) (s : State) :
    (effectList l done s).regs.anchor = s.regs.anchor ∧ (effectList l done s).regs.causemask = s.regs.causemask
    ∧ (effectList l done s).link.state = s.link.state ∧ (effectList l done s).sense = s.sense
    ∧ (effectList l done s).power = s.power ∧ (effectList l done s).wm.panel = s.wm.panel
    ∧ (effectList l done s).pins = s.pins ∧ (effectList l done s).keys = s.keys
    ∧ (effectList l done s).light = s.light ∧ (effectList l done s).store = s.store
    ∧ (effectList l done s).executor = s.executor ∧ (effectList l done s).shared = s.shared
    ∧ (effectList l done s).pending = s.pending := by
  induction l generalizing done s with
  | nil => simp [effectList]
  | cons st l ih =>
    unfold effectList
    split
    all_goals simp [ih]

@[simp] theorem effectStops_keeps (s : State) :
    (effectStops s).regs.anchor = s.regs.anchor ∧ (effectStops s).regs.causemask = s.regs.causemask
    ∧ (effectStops s).link.state = s.link.state ∧ (effectStops s).sense = s.sense ∧ (effectStops s).power = s.power
    ∧ (effectStops s).wm.panel = s.wm.panel ∧ (effectStops s).pins = s.pins ∧ (effectStops s).keys = s.keys
    ∧ (effectStops s).light = s.light ∧ (effectStops s).store = s.store ∧ (effectStops s).executor = s.executor
    ∧ (effectStops s).shared = s.shared ∧ (effectStops s).pending = s.pending := by
  unfold effectStops
  try dsimp only
  all_goals simp

@[simp] theorem enterHolding_keeps (s : State) :
    (enterHolding s).regs.anchor = s.regs.anchor ∧ (enterHolding s).regs.causemask = s.regs.causemask
    ∧ (enterHolding s).link.state = s.link.state ∧ (enterHolding s).sense = s.sense
    ∧ (enterHolding s).power = s.power ∧ (enterHolding s).wm.panel = s.wm.panel ∧ (enterHolding s).pins = s.pins
    ∧ (enterHolding s).keys = s.keys ∧ (enterHolding s).light = s.light ∧ (enterHolding s).store = s.store
    ∧ (enterHolding s).executor = s.executor ∧ (enterHolding s).shared = s.shared
    ∧ (enterHolding s).pending = s.pending := by
  unfold enterHolding
  try dsimp only
  all_goals simp

@[simp] theorem leaveDriving_keeps (s : State) :
    (leaveDriving s).regs.anchor = s.regs.anchor ∧ (leaveDriving s).regs.causemask = s.regs.causemask
    ∧ (leaveDriving s).link.state = s.link.state ∧ (leaveDriving s).sense = s.sense
    ∧ (leaveDriving s).power = s.power ∧ (leaveDriving s).wm.panel = s.wm.panel ∧ (leaveDriving s).pins = s.pins
    ∧ (leaveDriving s).keys = s.keys ∧ (leaveDriving s).light = s.light ∧ (leaveDriving s).store = s.store
    ∧ (leaveDriving s).executor = s.executor ∧ (leaveDriving s).shared = s.shared
    ∧ (leaveDriving s).pending = s.pending := by
  unfold leaveDriving
  try dsimp only
  repeat' split
  all_goals simp

@[simp] theorem applyHoldCut_keeps (s : State) :
    (applyHoldCut s).regs = s.regs ∧ (applyHoldCut s).link = s.link ∧ (applyHoldCut s).bus = s.bus
    ∧ (applyHoldCut s).sense = s.sense ∧ (applyHoldCut s).power = s.power ∧ (applyHoldCut s).wm = s.wm
    ∧ (applyHoldCut s).wave = s.wave ∧ (applyHoldCut s).pins = s.pins ∧ (applyHoldCut s).keys = s.keys
    ∧ (applyHoldCut s).turn = s.turn ∧ (applyHoldCut s).light = s.light ∧ (applyHoldCut s).store = s.store
    ∧ (applyHoldCut s).executor = s.executor ∧ (applyHoldCut s).shared = s.shared
    ∧ (applyHoldCut s).pending = s.pending := by
  unfold applyHoldCut
  try dsimp only
  all_goals simp

@[simp] theorem freeSlot_keeps (n : Nat) (id : Nat) (s : State) :
    (freeSlot n id s).regs.anchor = s.regs.anchor ∧ (freeSlot n id s).regs.causemask = s.regs.causemask
    ∧ (freeSlot n id s).link.state = s.link.state ∧ (freeSlot n id s).sense = s.sense
    ∧ (freeSlot n id s).power = s.power ∧ (freeSlot n id s).wm.panel = s.wm.panel ∧ (freeSlot n id s).pins = s.pins
    ∧ (freeSlot n id s).keys = s.keys ∧ (freeSlot n id s).light = s.light ∧ (freeSlot n id s).store = s.store
    ∧ (freeSlot n id s).executor = s.executor ∧ (freeSlot n id s).shared = s.shared
    ∧ (freeSlot n id s).pending = s.pending := by
  unfold freeSlot
  try dsimp only
  repeat' split
  all_goals simp

@[simp] theorem haltEngine_keeps (s : State) :
    (haltEngine s).regs.anchor = s.regs.anchor ∧ (haltEngine s).regs.causemask = s.regs.causemask
    ∧ (haltEngine s).link.state = s.link.state ∧ (haltEngine s).sense = s.sense ∧ (haltEngine s).power = s.power
    ∧ (haltEngine s).wm.panel = s.wm.panel ∧ (haltEngine s).pins = s.pins ∧ (haltEngine s).keys = s.keys
    ∧ (haltEngine s).light = s.light ∧ (haltEngine s).store = s.store ∧ (haltEngine s).executor = s.executor
    ∧ (haltEngine s).shared = s.shared ∧ (haltEngine s).pending = s.pending := by
  unfold haltEngine
  try dsimp only
  all_goals simp

@[simp] theorem copyTargets_keeps (n : Nat) (sl : Slot) (image : List Byte) (s : State) :
    (copyTargets n sl image s).regs = s.regs ∧ (copyTargets n sl image s).link = s.link
    ∧ (copyTargets n sl image s).bus = s.bus ∧ (copyTargets n sl image s).sense = s.sense
    ∧ (copyTargets n sl image s).power = s.power ∧ (copyTargets n sl image s).wave = s.wave
    ∧ (copyTargets n sl image s).panel = s.panel ∧ (copyTargets n sl image s).pins = s.pins
    ∧ (copyTargets n sl image s).keys = s.keys ∧ (copyTargets n sl image s).turn = s.turn
    ∧ (copyTargets n sl image s).light = s.light ∧ (copyTargets n sl image s).store = s.store
    ∧ (copyTargets n sl image s).executor = s.executor ∧ (copyTargets n sl image s).shared = s.shared
    ∧ (copyTargets n sl image s).pending = s.pending := by
  unfold copyTargets
  try dsimp only
  all_goals simp

@[simp] theorem passOver_keeps (n : Nat) (sl : Slot) (retires : Bool) (s : State) :
    (passOver n sl retires s).regs = s.regs ∧ (passOver n sl retires s).link = s.link
    ∧ (passOver n sl retires s).bus = s.bus ∧ (passOver n sl retires s).sense = s.sense
    ∧ (passOver n sl retires s).power = s.power ∧ (passOver n sl retires s).wave = s.wave
    ∧ (passOver n sl retires s).panel = s.panel ∧ (passOver n sl retires s).pins = s.pins
    ∧ (passOver n sl retires s).keys = s.keys ∧ (passOver n sl retires s).turn = s.turn
    ∧ (passOver n sl retires s).light = s.light ∧ (passOver n sl retires s).store = s.store
    ∧ (passOver n sl retires s).executor = s.executor ∧ (passOver n sl retires s).shared = s.shared
    ∧ (passOver n sl retires s).pending = s.pending := by
  unfold passOver
  try dsimp only
  all_goals simp

@[simp] theorem completeSlot_keeps (sl : Slot) (s : State) :
    (completeSlot sl s).regs.anchor = s.regs.anchor ∧ (completeSlot sl s).regs.causemask = s.regs.causemask
    ∧ (completeSlot sl s).link.state = s.link.state ∧ (completeSlot sl s).sense = s.sense
    ∧ (completeSlot sl s).power = s.power ∧ (completeSlot sl s).wm = s.wm ∧ (completeSlot sl s).wave = s.wave
    ∧ (completeSlot sl s).panel = s.panel ∧ (completeSlot sl s).pins = s.pins ∧ (completeSlot sl s).keys = s.keys
    ∧ (completeSlot sl s).light = s.light ∧ (completeSlot sl s).store = s.store
    ∧ (completeSlot sl s).executor = s.executor ∧ (completeSlot sl s).shared = s.shared
    ∧ (completeSlot sl s).pending = s.pending := by
  unfold completeSlot
  try dsimp only
  repeat' split
  all_goals simp

@[simp] theorem panelLost_keeps (s : State) :
    (panelLost s).regs = s.regs ∧ (panelLost s).link = s.link ∧ (panelLost s).bus = s.bus
    ∧ (panelLost s).sense = s.sense ∧ (panelLost s).power = s.power ∧ (panelLost s).wm = s.wm
    ∧ (panelLost s).wave = s.wave ∧ (panelLost s).pins = s.pins ∧ (panelLost s).keys = s.keys
    ∧ (panelLost s).turn = s.turn ∧ (panelLost s).light = s.light ∧ (panelLost s).store = s.store
    ∧ (panelLost s).executor = s.executor ∧ (panelLost s).shared = s.shared ∧ (panelLost s).pending = s.pending := by
  unfold panelLost
  try dsimp only
  all_goals simp

@[simp] theorem turnLost_keeps (s : State) :
    (turnLost s).regs = s.regs ∧ (turnLost s).link = s.link ∧ (turnLost s).bus = s.bus
    ∧ (turnLost s).sense = s.sense ∧ (turnLost s).power = s.power ∧ (turnLost s).wm = s.wm
    ∧ (turnLost s).wave = s.wave ∧ (turnLost s).panel = s.panel ∧ (turnLost s).pins = s.pins
    ∧ (turnLost s).keys = s.keys ∧ (turnLost s).light = s.light ∧ (turnLost s).store = s.store
    ∧ (turnLost s).executor = s.executor ∧ (turnLost s).shared = s.shared ∧ (turnLost s).pending = s.pending := by
  unfold turnLost
  try dsimp only
  all_goals simp

end Sys2Proof.Machine
end

