-- ==== Sys2Proof/Laws/PerInstr.lean ====
section
/-!
SUPPORT. Per-command statements about the syntax: no word spells a command, since the opcode table gives no row any
bits (log entry 3).
-/

namespace Sys2Proof.Laws.Unspelled

/-- No word of any length spells the command. -/
def Statement (i : Instr) : Prop := ∀ nbits w : Nat, decodeTableWord nbits w ≠ some i

/-- The decoder answers no command at all. -/
theorem holds (i : Instr) : Statement i := fun _ _ h => nomatch h

theorem attach : Statement .attach := holds _
theorem detach : Statement .detach := holds _
theorem engineReset : Statement .engineReset := holds _
theorem waitingCommandTaken : Statement .waitingCommandTaken := holds _
theorem anchorWrite (value : Word) : Statement (.anchorWrite value) := holds _
theorem nudge (mask : Word) : Statement (.nudge mask) := holds _
theorem causeClear (value : Word) : Statement (.causeClear value) := holds _
theorem causemaskWrite (value : Word) : Statement (.causemaskWrite value) := holds _
theorem registerWriteOther (offset width : Nat) (value : Word) : Statement (.registerWriteOther offset width value) := holds _
theorem fullReset : Statement .fullReset := holds _
theorem anchorBlockReadEnd (answer : BusRead) : Statement (.anchorBlockReadEnd answer) := holds _
theorem scanTick : Statement .scanTick := holds _
theorem recordReadEnd (answer : BusRead) : Statement (.recordReadEnd answer) := holds _
theorem heldRelease (lane : LaneId) : Statement (.heldRelease lane) := holds _
theorem linkReadEnd (value : Word) : Statement (.linkReadEnd value) := holds _
theorem recordHeaderWriteEnd (busError : Bool) : Statement (.recordHeaderWriteEnd busError) := holds _
theorem detachFinalPage (busError : Bool) : Statement (.detachFinalPage busError) := holds _
theorem statusPageWriteEnd (busError : Bool) : Statement (.statusPageWriteEnd busError) := holds _
theorem pwmPeriodStart : Statement .pwmPeriodStart := holds _
theorem sweepTimerExpiry : Statement .sweepTimerExpiry := holds _
theorem conversionEnd (raw : BitVec 12) : Statement (.conversionEnd raw) := holds _
theorem senseSetup : Statement .senseSetup := holds _
theorem senseSetupApply : Statement .senseSetupApply := holds _
theorem powerSetup : Statement .powerSetup := holds _
theorem powerSleep : Statement .powerSleep := holds _
theorem graceTimerExpiry : Statement .graceTimerExpiry := holds _
theorem dozeTimerExpiry : Statement .dozeTimerExpiry := holds _
theorem wakeTimerExpiry : Statement .wakeTimerExpiry := holds _
theorem dozeDrainComplete : Statement .dozeDrainComplete := holds _
theorem deepEntryComplete : Statement .deepEntryComplete := holds _
theorem wakingComplete : Statement .wakingComplete := holds _
theorem inputChange (input : InputId) (level : Bool) : Statement (.inputChange input level) := holds _
theorem debounceEnd (input : InputId) : Statement (.debounceEnd input) := holds _
theorem refreshDue : Statement .refreshDue := holds _
theorem burstEnd (requests : List WmClient) : Statement (.burstEnd requests) := holds _
theorem refreshEnd (requests : List WmClient) : Statement (.refreshEnd requests) := holds _
theorem selfRefreshEntry : Statement .selfRefreshEntry := holds _
theorem memoryLeaveEnd : Statement .memoryLeaveEnd := holds _
theorem initialisingEnd : Statement .initialisingEnd := holds _
theorem waveformLoad : Statement .waveformLoad := holds _
theorem waveformListEmpty : Statement .waveformListEmpty := holds _
theorem waveformBankFree : Statement .waveformBankFree := holds _
theorem waveformPageWritten : Statement .waveformPageWritten := holds _
theorem waveformCrcCheckEnd : Statement .waveformCrcCheckEnd := holds _
theorem panelUpdate : Statement .panelUpdate := holds _
theorem imageCopyEnd (image : List Byte) : Statement (.imageCopyEnd image) := holds _
theorem imageCopyBusError : Statement .imageCopyBusError := holds _
theorem frameTick : Statement .frameTick := holds _
theorem frameScanEnd : Statement .frameScanEnd := holds _
theorem retirePassEnd : Statement .retirePassEnd := holds _
theorem clearingPassEnd : Statement .clearingPassEnd := holds _
theorem railGoodAssert : Statement .railGoodAssert := holds _
theorem railGoodDeassert : Statement .railGoodDeassert := holds _
theorem risingTimerExpiry : Statement .risingTimerExpiry := holds _
theorem holdTimerExpiry : Statement .holdTimerExpiry := holds _
theorem fallingTimerExpiry : Statement .fallingTimerExpiry := holds _
theorem panelStop : Statement .panelStop := holds _
theorem panelResume : Statement .panelResume := holds _
theorem panelResumeComplete : Statement .panelResumeComplete := holds _
theorem panelSetup : Statement .panelSetup := holds _
theorem turnLoad : Statement .turnLoad := holds _
theorem turnLoadCheck : Statement .turnLoadCheck := holds _
theorem turnLoadArrayReadEnd (answer : BusRead) : Statement (.turnLoadArrayReadEnd answer) := holds _
theorem turnArm : Statement .turnArm := holds _
theorem turnArmComplete : Statement .turnArmComplete := holds _
theorem turnPageReadEnd : Statement .turnPageReadEnd := holds _
theorem turnImageCheckEnd : Statement .turnImageCheckEnd := holds _
theorem decodeEnd : Statement .decodeEnd := holds _
theorem lightSet : Statement .lightSet := holds _
theorem lightCurve : Statement .lightCurve := holds _
theorem rampTick : Statement .rampTick := holds _
theorem arrayPowerUpEnd : Statement .arrayPowerUpEnd := holds _
theorem arrayIdleTimerExpiry : Statement .arrayIdleTimerExpiry := holds _
theorem pageReadEnd (page : RawPage) : Statement (.pageReadEnd page) := holds _
theorem rawReadEnd (page : RawPage) : Statement (.rawReadEnd page) := holds _
theorem pageProgramEnd (success : Bool) : Statement (.pageProgramEnd success) := holds _
theorem eraseEnd (success : Bool) : Statement (.eraseEnd success) := holds _
theorem eraseSuspended : Statement .eraseSuspended := holds _
theorem markWriteEnd (success : Bool) : Statement (.markWriteEnd success) := holds _
theorem busyLimitExpiry : Statement .busyLimitExpiry := holds _
theorem guardChange (asserted : Bool) : Statement (.guardChange asserted) := holds _
theorem storeIngest : Statement .storeIngest := holds _
theorem ingestVerifyEnd (answer : BusRead) : Statement (.ingestVerifyEnd answer) := holds _
theorem ingestPageDataRead (answer : BusRead) : Statement (.ingestPageDataRead answer) := holds _
theorem storeRead : Statement .storeRead := holds _
theorem storeReadDestWriteEnd (busError : Bool) : Statement (.storeReadDestWriteEnd busError) := holds _
theorem storeErase : Statement .storeErase := holds _
theorem storeProtect : Statement .storeProtect := holds _
theorem storeSurvey : Statement .storeSurvey := holds _
theorem surveyReportWriteEnd (busError : Bool) : Statement (.surveyReportWriteEnd busError) := holds _

end Sys2Proof.Laws.Unspelled
end

