-- ==== Sys2Proof/Laws/PowerFrames.lean ====
section
/-!
SUPPORT. What each operation of the Power Controller and the Link Engine leaves alone: one lemma for each operation.
-/

namespace Sys2Proof.Machine

open Sys2Proof

@[simp] theorem setPower_keeps (q : PowerState) (s : State) :
    (setPower q s).regs = s.regs ∧ (setPower q s).link = s.link ∧ (setPower q s).bus = s.bus
    ∧ (setPower q s).power.cls = s.power.cls ∧ (setPower q s).power.vddMain = s.power.vddMain
    ∧ (setPower q s).wm = s.wm ∧ (setPower q s).wave = s.wave ∧ (setPower q s).panel = s.panel
    ∧ (setPower q s).pins = s.pins ∧ (setPower q s).keys = s.keys ∧ (setPower q s).turn = s.turn
    ∧ (setPower q s).light = s.light ∧ (setPower q s).store = s.store ∧ (setPower q s).executor = s.executor
    ∧ (setPower q s).shared = s.shared ∧ (setPower q s).pending = s.pending := by
  unfold setPower
  try dsimp only
  all_goals simp

@[simp] theorem askSelfRefresh_keeps (s : State) :
    (askSelfRefresh s).regs = s.regs ∧ (askSelfRefresh s).link = s.link ∧ (askSelfRefresh s).bus = s.bus
    ∧ (askSelfRefresh s).sense = s.sense ∧ (askSelfRefresh s).power = s.power
    ∧ (askSelfRefresh s).wm.panel = s.wm.panel ∧ (askSelfRefresh s).wave = s.wave
    ∧ (askSelfRefresh s).panel = s.panel ∧ (askSelfRefresh s).pins = s.pins ∧ (askSelfRefresh s).keys = s.keys
    ∧ (askSelfRefresh s).turn = s.turn ∧ (askSelfRefresh s).light = s.light ∧ (askSelfRefresh s).store = s.store
    ∧ (askSelfRefresh s).executor = s.executor ∧ (askSelfRefresh s).shared = s.shared
    ∧ (askSelfRefresh s).pending = s.pending := by
  unfold askSelfRefresh
  try dsimp only
  all_goals simp

@[simp] theorem leaveSelfRefresh_keeps (s : State) :
    (leaveSelfRefresh s).regs = s.regs ∧ (leaveSelfRefresh s).link = s.link ∧ (leaveSelfRefresh s).bus = s.bus
    ∧ (leaveSelfRefresh s).sense = s.sense ∧ (leaveSelfRefresh s).power = s.power
    ∧ (leaveSelfRefresh s).wm.panel = s.wm.panel ∧ (leaveSelfRefresh s).wave = s.wave
    ∧ (leaveSelfRefresh s).panel = s.panel ∧ (leaveSelfRefresh s).pins = s.pins ∧ (leaveSelfRefresh s).keys = s.keys
    ∧ (leaveSelfRefresh s).turn = s.turn ∧ (leaveSelfRefresh s).light = s.light
    ∧ (leaveSelfRefresh s).store = s.store ∧ (leaveSelfRefresh s).executor = s.executor
    ∧ (leaveSelfRefresh s).shared = s.shared ∧ (leaveSelfRefresh s).pending = s.pending := by
  unfold leaveSelfRefresh
  try dsimp only
  all_goals simp

@[simp] theorem withdrawDrain_keeps (s : State) :
    (withdrawDrain s).regs = s.regs ∧ (withdrawDrain s).link = s.link ∧ (withdrawDrain s).bus = s.bus
    ∧ (withdrawDrain s).sense = s.sense ∧ (withdrawDrain s).power.cls = s.power.cls
    ∧ (withdrawDrain s).power.state = s.power.state ∧ (withdrawDrain s).power.vddMain = s.power.vddMain
    ∧ (withdrawDrain s).wm.panel = s.wm.panel ∧ (withdrawDrain s).wave = s.wave ∧ (withdrawDrain s).panel = s.panel
    ∧ (withdrawDrain s).pins = s.pins ∧ (withdrawDrain s).keys = s.keys ∧ (withdrawDrain s).turn = s.turn
    ∧ (withdrawDrain s).light = s.light ∧ (withdrawDrain s).store = s.store
    ∧ (withdrawDrain s).executor = s.executor ∧ (withdrawDrain s).shared = s.shared
    ∧ (withdrawDrain s).pending = s.pending := by
  unfold withdrawDrain
  try dsimp only
  repeat' split
  all_goals simp

@[simp] theorem reachDozeQuiet_keeps (s : State) :
    (reachDozeQuiet s).regs = s.regs ∧ (reachDozeQuiet s).link = s.link ∧ (reachDozeQuiet s).bus = s.bus
    ∧ (reachDozeQuiet s).power.cls = s.power.cls ∧ (reachDozeQuiet s).power.vddMain = s.power.vddMain
    ∧ (reachDozeQuiet s).wm = s.wm ∧ (reachDozeQuiet s).wave = s.wave ∧ (reachDozeQuiet s).panel = s.panel
    ∧ (reachDozeQuiet s).pins = s.pins ∧ (reachDozeQuiet s).keys = s.keys ∧ (reachDozeQuiet s).turn = s.turn
    ∧ (reachDozeQuiet s).light = s.light ∧ (reachDozeQuiet s).store = s.store
    ∧ (reachDozeQuiet s).executor = s.executor ∧ (reachDozeQuiet s).shared = s.shared
    ∧ (reachDozeQuiet s).pending = s.pending := by
  unfold reachDozeQuiet
  try dsimp only
  repeat' split
  all_goals simp
  split <;> simp

@[simp] theorem resetMain_keeps (s : State) :
    (resetMain s).regs = s.regs ∧ (resetMain s).power = s.power ∧ (resetMain s).wm = s.wm
    ∧ (resetMain s).pins = s.pins ∧ (resetMain s).keys = s.keys ∧ (resetMain s).light = s.light
    ∧ (resetMain s).shared = s.shared ∧ (resetMain s).pending = s.pending := by
  unfold resetMain
  try dsimp only
  all_goals simp

@[simp] theorem engineReset_keeps (s : State) :
    (engineReset s).regs = s.regs ∧ (engineReset s).power.cls = s.power.cls
    ∧ (engineReset s).power.state = s.power.state ∧ (engineReset s).power.vddMain = s.power.vddMain
    ∧ (engineReset s).pins = s.pins ∧ (engineReset s).keys = s.keys ∧ (engineReset s).light = s.light
    ∧ (engineReset s).shared = s.shared ∧ (engineReset s).pending = s.pending := by
  unfold engineReset
  try dsimp only
  all_goals simp [Power.engineReset]

@[simp] theorem recordWake_keeps (r : WakeReason) (s : State) :
    (recordWake r s).regs.anchor = s.regs.anchor ∧ (recordWake r s).regs.causemask = s.regs.causemask
    ∧ (recordWake r s).link = s.link ∧ (recordWake r s).bus = s.bus ∧ (recordWake r s).sense = s.sense
    ∧ (recordWake r s).power.cls = s.power.cls ∧ (recordWake r s).power.state = s.power.state
    ∧ (recordWake r s).power.vddMain = s.power.vddMain ∧ (recordWake r s).wm = s.wm ∧ (recordWake r s).wave = s.wave
    ∧ (recordWake r s).panel = s.panel ∧ (recordWake r s).pins = s.pins ∧ (recordWake r s).keys = s.keys
    ∧ (recordWake r s).turn = s.turn ∧ (recordWake r s).light = s.light ∧ (recordWake r s).store = s.store
    ∧ (recordWake r s).executor = s.executor ∧ (recordWake r s).shared = s.shared
    ∧ (recordWake r s).pending = s.pending := by
  unfold recordWake
  try dsimp only
  repeat' split
  all_goals simp

@[simp] theorem wakeFromDoze_keeps (r : WakeReason) (s : State) :
    (wakeFromDoze r s).regs.anchor = s.regs.anchor ∧ (wakeFromDoze r s).regs.causemask = s.regs.causemask
    ∧ (wakeFromDoze r s).power.cls = s.power.cls ∧ (wakeFromDoze r s).power.vddMain = s.power.vddMain
    ∧ (wakeFromDoze r s).pins = s.pins ∧ (wakeFromDoze r s).keys = s.keys ∧ (wakeFromDoze r s).light = s.light
    ∧ (wakeFromDoze r s).shared = s.shared ∧ (wakeFromDoze r s).pending = s.pending := by
  unfold wakeFromDoze
  try dsimp only
  repeat' split
  all_goals simp

@[simp] theorem wakeFromDeep_keeps (r : WakeReason) (s : State) :
    (wakeFromDeep r s).regs.anchor = s.regs.anchor ∧ (wakeFromDeep r s).regs.causemask = s.regs.causemask
    ∧ (wakeFromDeep r s).power.cls = s.power.cls ∧ (wakeFromDeep r s).pins = s.pins
    ∧ (wakeFromDeep r s).keys = s.keys ∧ (wakeFromDeep r s).light = s.light ∧ (wakeFromDeep r s).shared = s.shared
    ∧ (wakeFromDeep r s).pending = s.pending := by
  unfold wakeFromDeep
  try dsimp only
  all_goals simp

@[simp] theorem wakeInDeep_keeps (r : WakeReason) (s : State) :
    (wakeInDeep r s).regs.anchor = s.regs.anchor ∧ (wakeInDeep r s).regs.causemask = s.regs.causemask
    ∧ (wakeInDeep r s).power.cls = s.power.cls ∧ (wakeInDeep r s).pins = s.pins ∧ (wakeInDeep r s).keys = s.keys
    ∧ (wakeInDeep r s).light = s.light ∧ (wakeInDeep r s).shared = s.shared ∧ (wakeInDeep r s).pending = s.pending := by
  unfold wakeInDeep
  try dsimp only
  repeat' split
  all_goals simp

@[simp] theorem rememberWake_keeps (r : WakeReason) (s : State) :
    (rememberWake r s).regs = s.regs ∧ (rememberWake r s).link = s.link ∧ (rememberWake r s).bus = s.bus
    ∧ (rememberWake r s).sense = s.sense ∧ (rememberWake r s).power.cls = s.power.cls
    ∧ (rememberWake r s).power.state = s.power.state ∧ (rememberWake r s).power.vddMain = s.power.vddMain
    ∧ (rememberWake r s).wm = s.wm ∧ (rememberWake r s).wave = s.wave ∧ (rememberWake r s).panel = s.panel
    ∧ (rememberWake r s).pins = s.pins ∧ (rememberWake r s).keys = s.keys ∧ (rememberWake r s).turn = s.turn
    ∧ (rememberWake r s).light = s.light ∧ (rememberWake r s).store = s.store
    ∧ (rememberWake r s).executor = s.executor ∧ (rememberWake r s).shared = s.shared
    ∧ (rememberWake r s).pending = s.pending := by
  unfold rememberWake
  try dsimp only
  repeat' split
  all_goals simp

@[simp] theorem wakeEvent_keeps (r : WakeReason) (s : State) :
    (wakeEvent r s).regs.anchor = s.regs.anchor ∧ (wakeEvent r s).regs.causemask = s.regs.causemask
    ∧ (wakeEvent r s).power.cls = s.power.cls ∧ (wakeEvent r s).pins = s.pins ∧ (wakeEvent r s).keys = s.keys
    ∧ (wakeEvent r s).light = s.light ∧ (wakeEvent r s).shared = s.shared ∧ (wakeEvent r s).pending = s.pending := by
  unfold wakeEvent
  split
  all_goals repeat' split
  all_goals simp

/-- A wake that is neither an Engine Reset nor one that reaches DEEP resets nothing. -/
theorem wakeEvent_soft (r : WakeReason) (s : State) (h : r.reachesDeep = false) (h2 : r ≠ .engineReset) :
    (wakeEvent r s).link = s.link ∧ (wakeEvent r s).bus = s.bus ∧ (wakeEvent r s).wave = s.wave
    ∧ (wakeEvent r s).pins = s.pins ∧ (wakeEvent r s).keys = s.keys ∧ (wakeEvent r s).turn = s.turn
    ∧ (wakeEvent r s).light = s.light ∧ (wakeEvent r s).store = s.store ∧ (wakeEvent r s).executor = s.executor
    ∧ (wakeEvent r s).shared = s.shared ∧ (wakeEvent r s).pending = s.pending
    ∧ (wakeEvent r s).power.cls = s.power.cls ∧ (wakeEvent r s).power.vddMain = s.power.vddMain
    ∧ (wakeEvent r s).regs.anchor = s.regs.anchor ∧ (wakeEvent r s).regs.causemask = s.regs.causemask
    ∧ (wakeEvent r s).wm.panel = s.wm.panel := by
  unfold wakeEvent
  split
  all_goals simp only [rememberWake, wakeFromDoze, h, h2]
  all_goals repeat' split
  all_goals simp_all

@[simp] theorem wakeEvent_menu_keeps (s : State) :
    (wakeEvent .menu s).link = s.link ∧ (wakeEvent .menu s).bus = s.bus ∧ (wakeEvent .menu s).wave = s.wave
    ∧ (wakeEvent .menu s).pins = s.pins ∧ (wakeEvent .menu s).keys = s.keys ∧ (wakeEvent .menu s).turn = s.turn
    ∧ (wakeEvent .menu s).light = s.light ∧ (wakeEvent .menu s).store = s.store
    ∧ (wakeEvent .menu s).executor = s.executor ∧ (wakeEvent .menu s).shared = s.shared
    ∧ (wakeEvent .menu s).pending = s.pending ∧ (wakeEvent .menu s).power.cls = s.power.cls
    ∧ (wakeEvent .menu s).power.vddMain = s.power.vddMain ∧ (wakeEvent .menu s).regs.anchor = s.regs.anchor
    ∧ (wakeEvent .menu s).regs.causemask = s.regs.causemask ∧ (wakeEvent .menu s).wm.panel = s.wm.panel :=
  wakeEvent_soft .menu s rfl (by decide)

@[simp] theorem wakeEvent_turnEnd_keeps (s : State) :
    (wakeEvent .turnEnd s).link = s.link ∧ (wakeEvent .turnEnd s).bus = s.bus ∧ (wakeEvent .turnEnd s).wave = s.wave
    ∧ (wakeEvent .turnEnd s).pins = s.pins ∧ (wakeEvent .turnEnd s).keys = s.keys
    ∧ (wakeEvent .turnEnd s).turn = s.turn ∧ (wakeEvent .turnEnd s).light = s.light
    ∧ (wakeEvent .turnEnd s).store = s.store ∧ (wakeEvent .turnEnd s).executor = s.executor
    ∧ (wakeEvent .turnEnd s).shared = s.shared ∧ (wakeEvent .turnEnd s).pending = s.pending
    ∧ (wakeEvent .turnEnd s).power.cls = s.power.cls ∧ (wakeEvent .turnEnd s).power.vddMain = s.power.vddMain
    ∧ (wakeEvent .turnEnd s).regs.anchor = s.regs.anchor ∧ (wakeEvent .turnEnd s).regs.causemask = s.regs.causemask
    ∧ (wakeEvent .turnEnd s).wm.panel = s.wm.panel :=
  wakeEvent_soft .turnEnd s rfl (by decide)

@[simp] theorem wakeEvent_turnError_keeps (s : State) :
    (wakeEvent .turnError s).link = s.link ∧ (wakeEvent .turnError s).bus = s.bus
    ∧ (wakeEvent .turnError s).wave = s.wave ∧ (wakeEvent .turnError s).pins = s.pins
    ∧ (wakeEvent .turnError s).keys = s.keys ∧ (wakeEvent .turnError s).turn = s.turn
    ∧ (wakeEvent .turnError s).light = s.light ∧ (wakeEvent .turnError s).store = s.store
    ∧ (wakeEvent .turnError s).executor = s.executor ∧ (wakeEvent .turnError s).shared = s.shared
    ∧ (wakeEvent .turnError s).pending = s.pending ∧ (wakeEvent .turnError s).power.cls = s.power.cls
    ∧ (wakeEvent .turnError s).power.vddMain = s.power.vddMain
    ∧ (wakeEvent .turnError s).regs.anchor = s.regs.anchor
    ∧ (wakeEvent .turnError s).regs.causemask = s.regs.causemask ∧ (wakeEvent .turnError s).wm.panel = s.wm.panel :=
  wakeEvent_soft .turnError s rfl (by decide)

@[simp] theorem wakeEvent_panelHalted_keeps (s : State) :
    (wakeEvent .panelHalted s).link = s.link ∧ (wakeEvent .panelHalted s).bus = s.bus
    ∧ (wakeEvent .panelHalted s).wave = s.wave ∧ (wakeEvent .panelHalted s).pins = s.pins
    ∧ (wakeEvent .panelHalted s).keys = s.keys ∧ (wakeEvent .panelHalted s).turn = s.turn
    ∧ (wakeEvent .panelHalted s).light = s.light ∧ (wakeEvent .panelHalted s).store = s.store
    ∧ (wakeEvent .panelHalted s).executor = s.executor ∧ (wakeEvent .panelHalted s).shared = s.shared
    ∧ (wakeEvent .panelHalted s).pending = s.pending ∧ (wakeEvent .panelHalted s).power.cls = s.power.cls
    ∧ (wakeEvent .panelHalted s).power.vddMain = s.power.vddMain
    ∧ (wakeEvent .panelHalted s).regs.anchor = s.regs.anchor
    ∧ (wakeEvent .panelHalted s).regs.causemask = s.regs.causemask
    ∧ (wakeEvent .panelHalted s).wm.panel = s.wm.panel :=
  wakeEvent_soft .panelHalted s rfl (by decide)

@[simp] theorem enterDetaching_keeps (s : State) :
    (enterDetaching s).regs.anchor = s.regs.anchor ∧ (enterDetaching s).regs.causemask = s.regs.causemask
    ∧ (enterDetaching s).sense = s.sense ∧ (enterDetaching s).power = s.power
    ∧ (enterDetaching s).wm.panel = s.wm.panel ∧ (enterDetaching s).wave = s.wave ∧ (enterDetaching s).pins = s.pins
    ∧ (enterDetaching s).keys = s.keys ∧ (enterDetaching s).light = s.light ∧ (enterDetaching s).store = s.store
    ∧ (enterDetaching s).executor = s.executor ∧ (enterDetaching s).shared = s.shared
    ∧ (enterDetaching s).pending = s.pending := by
  unfold enterDetaching
  try dsimp only
  repeat' split
  all_goals simp

@[simp] theorem detachIfAttached_keeps (s : State) :
    (detachIfAttached s).regs.anchor = s.regs.anchor ∧ (detachIfAttached s).regs.causemask = s.regs.causemask
    ∧ (detachIfAttached s).sense = s.sense ∧ (detachIfAttached s).power = s.power
    ∧ (detachIfAttached s).wm.panel = s.wm.panel ∧ (detachIfAttached s).wave = s.wave
    ∧ (detachIfAttached s).pins = s.pins ∧ (detachIfAttached s).keys = s.keys ∧ (detachIfAttached s).light = s.light
    ∧ (detachIfAttached s).store = s.store ∧ (detachIfAttached s).executor = s.executor
    ∧ (detachIfAttached s).shared = s.shared ∧ (detachIfAttached s).pending = s.pending := by
  unfold detachIfAttached
  try dsimp only
  repeat' split
  all_goals simp

@[simp] theorem flushHalted_keeps (s : State) :
    (flushHalted s).regs.anchor = s.regs.anchor ∧ (flushHalted s).regs.causemask = s.regs.causemask
    ∧ (flushHalted s).link.state = s.link.state ∧ (flushHalted s).sense = s.sense ∧ (flushHalted s).power = s.power
    ∧ (flushHalted s).wm.panel = s.wm.panel ∧ (flushHalted s).wave = s.wave ∧ (flushHalted s).pins = s.pins
    ∧ (flushHalted s).keys = s.keys ∧ (flushHalted s).light = s.light ∧ (flushHalted s).store = s.store
    ∧ (flushHalted s).executor = s.executor ∧ (flushHalted s).shared = s.shared
    ∧ (flushHalted s).pending = s.pending := by
  unfold flushHalted
  try dsimp only
  all_goals simp

@[simp] theorem enterDeepEntry_keeps (s : State) :
    (enterDeepEntry s).regs.anchor = s.regs.anchor ∧ (enterDeepEntry s).regs.causemask = s.regs.causemask
    ∧ (enterDeepEntry s).link.state = s.link.state ∧ (enterDeepEntry s).power.cls = s.power.cls
    ∧ (enterDeepEntry s).power.vddMain = s.power.vddMain ∧ (enterDeepEntry s).wm.panel = s.wm.panel
    ∧ (enterDeepEntry s).wave = s.wave ∧ (enterDeepEntry s).pins = s.pins ∧ (enterDeepEntry s).keys = s.keys
    ∧ (enterDeepEntry s).store = s.store ∧ (enterDeepEntry s).executor = s.executor
    ∧ (enterDeepEntry s).shared = s.shared ∧ (enterDeepEntry s).pending = s.pending := by
  unfold enterDeepEntry
  try dsimp only
  repeat' split
  all_goals simp

@[simp] theorem forceDescent_keeps (s : State) :
    (forceDescent s).regs.anchor = s.regs.anchor ∧ (forceDescent s).regs.causemask = s.regs.causemask
    ∧ (forceDescent s).link.state = s.link.state ∧ (forceDescent s).sense = s.sense
    ∧ (forceDescent s).power.cls = s.power.cls ∧ (forceDescent s).power.state = s.power.state
    ∧ (forceDescent s).power.vddMain = s.power.vddMain ∧ (forceDescent s).wm.panel = s.wm.panel
    ∧ (forceDescent s).pins = s.pins ∧ (forceDescent s).keys = s.keys ∧ (forceDescent s).light = s.light
    ∧ (forceDescent s).store = s.store ∧ (forceDescent s).executor = s.executor ∧ (forceDescent s).shared = s.shared
    ∧ (forceDescent s).pending = s.pending := by
  unfold forceDescent
  try dsimp only
  all_goals simp

@[simp] theorem beginForcedDescent_keeps (s : State) :
    (beginForcedDescent s).regs.anchor = s.regs.anchor ∧ (beginForcedDescent s).regs.causemask = s.regs.causemask
    ∧ (beginForcedDescent s).power.cls = s.power.cls ∧ (beginForcedDescent s).power.vddMain = s.power.vddMain
    ∧ (beginForcedDescent s).wm.panel = s.wm.panel ∧ (beginForcedDescent s).pins = s.pins
    ∧ (beginForcedDescent s).keys = s.keys ∧ (beginForcedDescent s).store = s.store
    ∧ (beginForcedDescent s).executor = s.executor ∧ (beginForcedDescent s).shared = s.shared
    ∧ (beginForcedDescent s).pending = s.pending := by
  unfold beginForcedDescent
  try dsimp only
  all_goals simp

@[simp] theorem startGrace_keeps (s : State) :
    (startGrace s).regs.anchor = s.regs.anchor ∧ (startGrace s).regs.causemask = s.regs.causemask
    ∧ (startGrace s).link = s.link ∧ (startGrace s).bus = s.bus ∧ (startGrace s).sense = s.sense
    ∧ (startGrace s).power.cls = s.power.cls ∧ (startGrace s).power.state = s.power.state
    ∧ (startGrace s).power.vddMain = s.power.vddMain ∧ (startGrace s).wm = s.wm ∧ (startGrace s).wave = s.wave
    ∧ (startGrace s).panel = s.panel ∧ (startGrace s).pins = s.pins ∧ (startGrace s).keys = s.keys
    ∧ (startGrace s).turn = s.turn ∧ (startGrace s).light = s.light ∧ (startGrace s).store = s.store
    ∧ (startGrace s).executor = s.executor ∧ (startGrace s).shared = s.shared ∧ (startGrace s).pending = s.pending := by
  unfold startGrace
  try dsimp only
  repeat' split
  all_goals simp

@[simp] theorem exhaustedDescent_keeps (s : State) :
    (exhaustedDescent s).regs.anchor = s.regs.anchor ∧ (exhaustedDescent s).regs.causemask = s.regs.causemask
    ∧ (exhaustedDescent s).power.cls = s.power.cls ∧ (exhaustedDescent s).power.vddMain = s.power.vddMain
    ∧ (exhaustedDescent s).wm.panel = s.wm.panel ∧ (exhaustedDescent s).pins = s.pins
    ∧ (exhaustedDescent s).keys = s.keys ∧ (exhaustedDescent s).store = s.store
    ∧ (exhaustedDescent s).executor = s.executor ∧ (exhaustedDescent s).shared = s.shared
    ∧ (exhaustedDescent s).pending = s.pending := by
  unfold exhaustedDescent
  try dsimp only
  repeat' split
  all_goals simp

@[simp] theorem finishDescent_keeps (s : State) :
    (finishDescent s).regs.anchor = s.regs.anchor ∧ (finishDescent s).regs.causemask = s.regs.causemask
    ∧ (finishDescent s).power.cls = s.power.cls ∧ (finishDescent s).power.vddMain = s.power.vddMain
    ∧ (finishDescent s).wm.panel = s.wm.panel ∧ (finishDescent s).pins = s.pins ∧ (finishDescent s).keys = s.keys
    ∧ (finishDescent s).store = s.store ∧ (finishDescent s).executor = s.executor
    ∧ (finishDescent s).shared = s.shared ∧ (finishDescent s).pending = s.pending := by
  unfold finishDescent
  try dsimp only
  repeat' split
  all_goals simp

@[simp] theorem changeClass_keeps (c : SupplyClass) (s : State) :
    (changeClass c s).regs.anchor = s.regs.anchor ∧ (changeClass c s).regs.causemask = s.regs.causemask
    ∧ (changeClass c s).power.vddMain = s.power.vddMain ∧ (changeClass c s).wm.panel = s.wm.panel
    ∧ (changeClass c s).pins = s.pins ∧ (changeClass c s).keys = s.keys ∧ (changeClass c s).store = s.store
    ∧ (changeClass c s).executor = s.executor ∧ (changeClass c s).shared = s.shared
    ∧ (changeClass c s).pending = s.pending := by
  unfold changeClass
  try dsimp only
  repeat' split
  all_goals simp

@[simp] theorem batteryEvent_keeps (s : State) :
    (batteryEvent s).regs.anchor = s.regs.anchor ∧ (batteryEvent s).regs.causemask = s.regs.causemask
    ∧ (batteryEvent s).power.vddMain = s.power.vddMain ∧ (batteryEvent s).wm.panel = s.wm.panel
    ∧ (batteryEvent s).pins = s.pins ∧ (batteryEvent s).keys = s.keys ∧ (batteryEvent s).store = s.store
    ∧ (batteryEvent s).executor = s.executor ∧ (batteryEvent s).shared = s.shared
    ∧ (batteryEvent s).pending = s.pending := by
  unfold batteryEvent
  try dsimp only
  repeat' split
  all_goals simp

@[simp] theorem railFault_keeps (s : State) :
    (railFault s).regs.anchor = s.regs.anchor ∧ (railFault s).regs.causemask = s.regs.causemask
    ∧ (railFault s).link.state = s.link.state ∧ (railFault s).power.cls = s.power.cls
    ∧ (railFault s).power.vddMain = s.power.vddMain ∧ (railFault s).wm.panel = s.wm.panel
    ∧ (railFault s).pins = s.pins ∧ (railFault s).keys = s.keys ∧ (railFault s).light = s.light
    ∧ (railFault s).store = s.store ∧ (railFault s).executor = s.executor ∧ (railFault s).shared = s.shared
    ∧ (railFault s).pending = s.pending := by
  unfold railFault
  try dsimp only
  repeat' split
  all_goals simp

@[simp] theorem startAttach_keeps (s : State) :
    (startAttach s).regs.anchor = s.regs.anchor ∧ (startAttach s).regs.causemask = s.regs.causemask
    ∧ (startAttach s).sense = s.sense ∧ (startAttach s).power = s.power ∧ (startAttach s).wm = s.wm
    ∧ (startAttach s).wave = s.wave ∧ (startAttach s).panel = s.panel ∧ (startAttach s).pins = s.pins
    ∧ (startAttach s).keys = s.keys ∧ (startAttach s).turn = s.turn ∧ (startAttach s).light = s.light
    ∧ (startAttach s).store = s.store ∧ (startAttach s).executor = s.executor ∧ (startAttach s).shared = s.shared
    ∧ (startAttach s).pending = s.pending := by
  unfold startAttach
  try dsimp only
  repeat' split
  all_goals simp

@[simp] theorem attachToWait_keeps (s : State) :
    (attachToWait s).regs.anchor = s.regs.anchor ∧ (attachToWait s).regs.causemask = s.regs.causemask
    ∧ (attachToWait s).bus = s.bus ∧ (attachToWait s).sense = s.sense ∧ (attachToWait s).power = s.power
    ∧ (attachToWait s).wm = s.wm ∧ (attachToWait s).wave = s.wave ∧ (attachToWait s).panel = s.panel
    ∧ (attachToWait s).pins = s.pins ∧ (attachToWait s).keys = s.keys ∧ (attachToWait s).turn = s.turn
    ∧ (attachToWait s).light = s.light ∧ (attachToWait s).store = s.store ∧ (attachToWait s).executor = s.executor
    ∧ (attachToWait s).shared = s.shared ∧ (attachToWait s).pending = s.pending := by
  unfold attachToWait
  try dsimp only
  all_goals simp

@[simp] theorem takeAttach_keeps (s : State) :
    (takeAttach s).regs.anchor = s.regs.anchor ∧ (takeAttach s).regs.causemask = s.regs.causemask
    ∧ (takeAttach s).power.cls = s.power.cls ∧ (takeAttach s).pins = s.pins ∧ (takeAttach s).keys = s.keys
    ∧ (takeAttach s).light = s.light ∧ (takeAttach s).shared = s.shared ∧ (takeAttach s).pending = s.pending := by
  unfold takeAttach
  try dsimp only
  repeat' split
  all_goals simp

@[simp] theorem takeDetach_keeps (s : State) :
    (takeDetach s).regs.anchor = s.regs.anchor ∧ (takeDetach s).regs.causemask = s.regs.causemask
    ∧ (takeDetach s).sense = s.sense ∧ (takeDetach s).power = s.power ∧ (takeDetach s).wm.panel = s.wm.panel
    ∧ (takeDetach s).wave = s.wave ∧ (takeDetach s).pins = s.pins ∧ (takeDetach s).keys = s.keys
    ∧ (takeDetach s).light = s.light ∧ (takeDetach s).store = s.store ∧ (takeDetach s).executor = s.executor
    ∧ (takeDetach s).shared = s.shared ∧ (takeDetach s).pending = s.pending := by
  unfold takeDetach
  try dsimp only
  repeat' split
  all_goals simp

@[simp] theorem takeEngineReset_keeps (s : State) :
    (takeEngineReset s).regs.anchor = s.regs.anchor ∧ (takeEngineReset s).regs.causemask = s.regs.causemask
    ∧ (takeEngineReset s).power.cls = s.power.cls ∧ (takeEngineReset s).pins = s.pins
    ∧ (takeEngineReset s).keys = s.keys ∧ (takeEngineReset s).light = s.light
    ∧ (takeEngineReset s).shared = s.shared ∧ (takeEngineReset s).pending = s.pending := by
  unfold takeEngineReset
  try dsimp only
  repeat' split
  all_goals simp

@[simp] theorem takeCommand_keeps (c : ControlCommand) (s : State) :
    (takeCommand c s).regs.anchor = s.regs.anchor ∧ (takeCommand c s).regs.causemask = s.regs.causemask
    ∧ (takeCommand c s).power.cls = s.power.cls ∧ (takeCommand c s).pins = s.pins ∧ (takeCommand c s).keys = s.keys
    ∧ (takeCommand c s).light = s.light ∧ (takeCommand c s).shared = s.shared
    ∧ (takeCommand c s).pending = s.pending := by
  unfold takeCommand
  try dsimp only
  repeat' split
  all_goals simp

@[simp] theorem controlWrite_keeps (c : ControlCommand) (s : State) :
    (controlWrite c s).regs.anchor = s.regs.anchor ∧ (controlWrite c s).regs.causemask = s.regs.causemask
    ∧ (controlWrite c s).power.cls = s.power.cls ∧ (controlWrite c s).pins = s.pins
    ∧ (controlWrite c s).keys = s.keys ∧ (controlWrite c s).light = s.light ∧ (controlWrite c s).shared = s.shared
    ∧ (controlWrite c s).pending = s.pending := by
  unfold controlWrite
  try dsimp only
  repeat' split
  all_goals simp

@[simp] theorem writeAnswered_keeps (s : State) :
    (writeAnswered s).regs.anchor = s.regs.anchor ∧ (writeAnswered s).regs.causemask = s.regs.causemask
    ∧ (writeAnswered s).link = s.link ∧ (writeAnswered s).bus = s.bus ∧ (writeAnswered s).sense = s.sense
    ∧ (writeAnswered s).power = s.power ∧ (writeAnswered s).wm = s.wm ∧ (writeAnswered s).wave = s.wave
    ∧ (writeAnswered s).panel = s.panel ∧ (writeAnswered s).pins = s.pins ∧ (writeAnswered s).keys = s.keys
    ∧ (writeAnswered s).turn = s.turn ∧ (writeAnswered s).light = s.light ∧ (writeAnswered s).store = s.store
    ∧ (writeAnswered s).executor = s.executor ∧ (writeAnswered s).shared = s.shared
    ∧ (writeAnswered s).pending = s.pending := by
  unfold writeAnswered
  try dsimp only
  all_goals simp

@[simp] theorem writeRefused_keeps (s : State) :
    (writeRefused s).regs.anchor = s.regs.anchor ∧ (writeRefused s).regs.causemask = s.regs.causemask
    ∧ (writeRefused s).link = s.link ∧ (writeRefused s).bus = s.bus ∧ (writeRefused s).sense = s.sense
    ∧ (writeRefused s).power = s.power ∧ (writeRefused s).wm = s.wm ∧ (writeRefused s).wave = s.wave
    ∧ (writeRefused s).panel = s.panel ∧ (writeRefused s).pins = s.pins ∧ (writeRefused s).keys = s.keys
    ∧ (writeRefused s).turn = s.turn ∧ (writeRefused s).light = s.light ∧ (writeRefused s).store = s.store
    ∧ (writeRefused s).executor = s.executor ∧ (writeRefused s).shared = s.shared
    ∧ (writeRefused s).pending = s.pending := by
  unfold writeRefused
  try dsimp only
  all_goals simp

@[simp] theorem writeAnchor_keeps (v : Word) (s : State) :
    (writeAnchor v s).regs.causemask = s.regs.causemask ∧ (writeAnchor v s).link = s.link
    ∧ (writeAnchor v s).bus = s.bus ∧ (writeAnchor v s).sense = s.sense ∧ (writeAnchor v s).power = s.power
    ∧ (writeAnchor v s).wm = s.wm ∧ (writeAnchor v s).wave = s.wave ∧ (writeAnchor v s).panel = s.panel
    ∧ (writeAnchor v s).pins = s.pins ∧ (writeAnchor v s).keys = s.keys ∧ (writeAnchor v s).turn = s.turn
    ∧ (writeAnchor v s).light = s.light ∧ (writeAnchor v s).store = s.store
    ∧ (writeAnchor v s).executor = s.executor ∧ (writeAnchor v s).shared = s.shared
    ∧ (writeAnchor v s).pending = s.pending := by
  unfold writeAnchor
  try dsimp only
  repeat' split
  all_goals simp

@[simp] theorem clearCauses_keeps (v : Word) (s : State) :
    (clearCauses v s).regs.anchor = s.regs.anchor ∧ (clearCauses v s).regs.causemask = s.regs.causemask
    ∧ (clearCauses v s).link = s.link ∧ (clearCauses v s).bus = s.bus ∧ (clearCauses v s).sense = s.sense
    ∧ (clearCauses v s).power = s.power ∧ (clearCauses v s).wm = s.wm ∧ (clearCauses v s).wave = s.wave
    ∧ (clearCauses v s).panel = s.panel ∧ (clearCauses v s).pins = s.pins ∧ (clearCauses v s).keys = s.keys
    ∧ (clearCauses v s).turn = s.turn ∧ (clearCauses v s).light = s.light ∧ (clearCauses v s).store = s.store
    ∧ (clearCauses v s).executor = s.executor ∧ (clearCauses v s).shared = s.shared
    ∧ (clearCauses v s).pending = s.pending := by
  unfold clearCauses
  try dsimp only
  all_goals simp

@[simp] theorem writeCausemask_keeps (v : Word) (s : State) :
    (writeCausemask v s).regs.anchor = s.regs.anchor ∧ (writeCausemask v s).link = s.link
    ∧ (writeCausemask v s).bus = s.bus ∧ (writeCausemask v s).sense = s.sense ∧ (writeCausemask v s).power = s.power
    ∧ (writeCausemask v s).wm = s.wm ∧ (writeCausemask v s).wave = s.wave ∧ (writeCausemask v s).panel = s.panel
    ∧ (writeCausemask v s).pins = s.pins ∧ (writeCausemask v s).keys = s.keys ∧ (writeCausemask v s).turn = s.turn
    ∧ (writeCausemask v s).light = s.light ∧ (writeCausemask v s).store = s.store
    ∧ (writeCausemask v s).executor = s.executor ∧ (writeCausemask v s).shared = s.shared
    ∧ (writeCausemask v s).pending = s.pending := by
  unfold writeCausemask
  try dsimp only
  all_goals simp

@[simp] theorem nudgeLane_keeps (i : LaneId) (s : State) :
    (nudgeLane i s).regs = s.regs ∧ (nudgeLane i s).link.state = s.link.state ∧ (nudgeLane i s).sense = s.sense
    ∧ (nudgeLane i s).power = s.power ∧ (nudgeLane i s).wm = s.wm ∧ (nudgeLane i s).wave = s.wave
    ∧ (nudgeLane i s).panel = s.panel ∧ (nudgeLane i s).pins = s.pins ∧ (nudgeLane i s).keys = s.keys
    ∧ (nudgeLane i s).turn = s.turn ∧ (nudgeLane i s).light = s.light ∧ (nudgeLane i s).store = s.store
    ∧ (nudgeLane i s).executor = s.executor ∧ (nudgeLane i s).shared = s.shared
    ∧ (nudgeLane i s).pending = s.pending := by
  unfold nudgeLane
  try dsimp only
  repeat' split
  all_goals simp

@[simp] theorem nudgeIf_keeps (mask : Word) (i : LaneId) (s : State) :
    (nudgeIf mask i s).regs = s.regs ∧ (nudgeIf mask i s).link.state = s.link.state
    ∧ (nudgeIf mask i s).sense = s.sense ∧ (nudgeIf mask i s).power = s.power ∧ (nudgeIf mask i s).wm = s.wm
    ∧ (nudgeIf mask i s).wave = s.wave ∧ (nudgeIf mask i s).panel = s.panel ∧ (nudgeIf mask i s).pins = s.pins
    ∧ (nudgeIf mask i s).keys = s.keys ∧ (nudgeIf mask i s).turn = s.turn ∧ (nudgeIf mask i s).light = s.light
    ∧ (nudgeIf mask i s).store = s.store ∧ (nudgeIf mask i s).executor = s.executor
    ∧ (nudgeIf mask i s).shared = s.shared ∧ (nudgeIf mask i s).pending = s.pending := by
  unfold nudgeIf
  try dsimp only
  repeat' split
  all_goals simp

@[simp] theorem writeNudge_keeps (mask : Word) (s : State) :
    (writeNudge mask s).regs = s.regs ∧ (writeNudge mask s).link.state = s.link.state
    ∧ (writeNudge mask s).sense = s.sense ∧ (writeNudge mask s).power = s.power ∧ (writeNudge mask s).wm = s.wm
    ∧ (writeNudge mask s).wave = s.wave ∧ (writeNudge mask s).panel = s.panel ∧ (writeNudge mask s).pins = s.pins
    ∧ (writeNudge mask s).keys = s.keys ∧ (writeNudge mask s).turn = s.turn ∧ (writeNudge mask s).light = s.light
    ∧ (writeNudge mask s).store = s.store ∧ (writeNudge mask s).executor = s.executor
    ∧ (writeNudge mask s).shared = s.shared ∧ (writeNudge mask s).pending = s.pending := by
  unfold writeNudge
  try dsimp only
  repeat' split
  all_goals simp

@[simp] theorem tickLane_keeps (i : LaneId) (s : State) :
    (tickLane i s).regs = s.regs ∧ (tickLane i s).link = s.link ∧ (tickLane i s).sense = s.sense
    ∧ (tickLane i s).power = s.power ∧ (tickLane i s).wm = s.wm ∧ (tickLane i s).wave = s.wave
    ∧ (tickLane i s).panel = s.panel ∧ (tickLane i s).pins = s.pins ∧ (tickLane i s).keys = s.keys
    ∧ (tickLane i s).turn = s.turn ∧ (tickLane i s).light = s.light ∧ (tickLane i s).store = s.store
    ∧ (tickLane i s).executor = s.executor ∧ (tickLane i s).shared = s.shared ∧ (tickLane i s).pending = s.pending := by
  unfold tickLane
  try dsimp only
  repeat' split
  all_goals simp

@[simp] theorem latchAnchor_keeps (b : List Byte) (s : State) :
    (latchAnchor b s).regs = s.regs ∧ (latchAnchor b s).sense = s.sense ∧ (latchAnchor b s).power = s.power
    ∧ (latchAnchor b s).wm = s.wm ∧ (latchAnchor b s).wave = s.wave ∧ (latchAnchor b s).panel = s.panel
    ∧ (latchAnchor b s).pins = s.pins ∧ (latchAnchor b s).keys = s.keys ∧ (latchAnchor b s).turn = s.turn
    ∧ (latchAnchor b s).light = s.light ∧ (latchAnchor b s).store = s.store
    ∧ (latchAnchor b s).executor = s.executor ∧ (latchAnchor b s).shared = s.shared
    ∧ (latchAnchor b s).pending = s.pending := by
  unfold latchAnchor
  try dsimp only
  all_goals simp

@[simp] theorem startLane_keeps (i : LaneId) (s : State) :
    (startLane i s).regs.anchor = s.regs.anchor ∧ (startLane i s).regs.causemask = s.regs.causemask
    ∧ (startLane i s).link.state = s.link.state ∧ (startLane i s).sense = s.sense ∧ (startLane i s).power = s.power
    ∧ (startLane i s).wm = s.wm ∧ (startLane i s).wave = s.wave ∧ (startLane i s).panel = s.panel
    ∧ (startLane i s).pins = s.pins ∧ (startLane i s).keys = s.keys ∧ (startLane i s).turn = s.turn
    ∧ (startLane i s).light = s.light ∧ (startLane i s).store = s.store ∧ (startLane i s).executor = s.executor
    ∧ (startLane i s).shared = s.shared ∧ (startLane i s).pending = s.pending := by
  unfold startLane
  try dsimp only
  repeat' split
  all_goals simp

@[simp] theorem attachSucceeds_keeps (b : List Byte) (s : State) :
    (attachSucceeds b s).regs.anchor = s.regs.anchor ∧ (attachSucceeds b s).regs.causemask = s.regs.causemask
    ∧ (attachSucceeds b s).sense = s.sense ∧ (attachSucceeds b s).power = s.power ∧ (attachSucceeds b s).wm = s.wm
    ∧ (attachSucceeds b s).wave = s.wave ∧ (attachSucceeds b s).panel = s.panel ∧ (attachSucceeds b s).pins = s.pins
    ∧ (attachSucceeds b s).keys = s.keys ∧ (attachSucceeds b s).turn = s.turn ∧ (attachSucceeds b s).light = s.light
    ∧ (attachSucceeds b s).store = s.store ∧ (attachSucceeds b s).executor = s.executor
    ∧ (attachSucceeds b s).shared = s.shared ∧ (attachSucceeds b s).pending = s.pending := by
  unfold attachSucceeds
  try dsimp only
  all_goals simp

@[simp] theorem attachFails_keeps (s : State) :
    (attachFails s).regs = s.regs ∧ (attachFails s).bus = s.bus ∧ (attachFails s).sense = s.sense
    ∧ (attachFails s).power = s.power ∧ (attachFails s).wm = s.wm ∧ (attachFails s).wave = s.wave
    ∧ (attachFails s).panel = s.panel ∧ (attachFails s).pins = s.pins ∧ (attachFails s).keys = s.keys
    ∧ (attachFails s).turn = s.turn ∧ (attachFails s).light = s.light ∧ (attachFails s).store = s.store
    ∧ (attachFails s).executor = s.executor ∧ (attachFails s).shared = s.shared
    ∧ (attachFails s).pending = s.pending := by
  unfold attachFails
  try dsimp only
  all_goals simp

@[simp] theorem takeRecord_keeps (i : LaneId) (r : RecordCopy) (s : State) :
    (takeRecord i r s).regs = s.regs ∧ (takeRecord i r s).link.state = s.link.state
    ∧ (takeRecord i r s).sense = s.sense ∧ (takeRecord i r s).power = s.power ∧ (takeRecord i r s).wm = s.wm
    ∧ (takeRecord i r s).wave = s.wave ∧ (takeRecord i r s).panel = s.panel ∧ (takeRecord i r s).pins = s.pins
    ∧ (takeRecord i r s).keys = s.keys ∧ (takeRecord i r s).turn = s.turn ∧ (takeRecord i r s).light = s.light
    ∧ (takeRecord i r s).store = s.store ∧ (takeRecord i r s).executor = s.executor
    ∧ (takeRecord i r s).shared = s.shared ∧ (takeRecord i r s).pending = s.pending := by
  unfold takeRecord
  try dsimp only
  repeat' split
  all_goals simp

@[simp] theorem recordReadError_keeps (i : LaneId) (addr : Word) (s : State) :
    (recordReadError i addr s).regs.anchor = s.regs.anchor
    ∧ (recordReadError i addr s).regs.causemask = s.regs.causemask
    ∧ (recordReadError i addr s).link.state = s.link.state ∧ (recordReadError i addr s).sense = s.sense
    ∧ (recordReadError i addr s).power = s.power ∧ (recordReadError i addr s).wm = s.wm
    ∧ (recordReadError i addr s).wave = s.wave ∧ (recordReadError i addr s).panel = s.panel
    ∧ (recordReadError i addr s).pins = s.pins ∧ (recordReadError i addr s).keys = s.keys
    ∧ (recordReadError i addr s).turn = s.turn ∧ (recordReadError i addr s).light = s.light
    ∧ (recordReadError i addr s).store = s.store ∧ (recordReadError i addr s).executor = s.executor
    ∧ (recordReadError i addr s).shared = s.shared ∧ (recordReadError i addr s).pending = s.pending := by
  unfold recordReadError
  try dsimp only
  all_goals simp

@[simp] theorem recordRead_keeps (i : LaneId) (addr : Word) (answer : BusRead) (s : State) :
    (recordRead i addr answer s).regs.anchor = s.regs.anchor
    ∧ (recordRead i addr answer s).regs.causemask = s.regs.causemask
    ∧ (recordRead i addr answer s).link.state = s.link.state ∧ (recordRead i addr answer s).sense = s.sense
    ∧ (recordRead i addr answer s).power = s.power ∧ (recordRead i addr answer s).wm = s.wm
    ∧ (recordRead i addr answer s).wave = s.wave ∧ (recordRead i addr answer s).panel = s.panel
    ∧ (recordRead i addr answer s).pins = s.pins ∧ (recordRead i addr answer s).keys = s.keys
    ∧ (recordRead i addr answer s).turn = s.turn ∧ (recordRead i addr answer s).light = s.light
    ∧ (recordRead i addr answer s).store = s.store ∧ (recordRead i addr answer s).executor = s.executor
    ∧ (recordRead i addr answer s).shared = s.shared ∧ (recordRead i addr answer s).pending = s.pending := by
  unfold recordRead
  try dsimp only
  repeat' split
  all_goals simp

@[simp] theorem releaseHeld_keeps (i : LaneId) (s : State) :
    (releaseHeld i s).regs.anchor = s.regs.anchor ∧ (releaseHeld i s).regs.causemask = s.regs.causemask
    ∧ (releaseHeld i s).link.state = s.link.state ∧ (releaseHeld i s).sense = s.sense
    ∧ (releaseHeld i s).power = s.power ∧ (releaseHeld i s).wm = s.wm ∧ (releaseHeld i s).wave = s.wave
    ∧ (releaseHeld i s).panel = s.panel ∧ (releaseHeld i s).pins = s.pins ∧ (releaseHeld i s).keys = s.keys
    ∧ (releaseHeld i s).turn = s.turn ∧ (releaseHeld i s).light = s.light ∧ (releaseHeld i s).store = s.store
    ∧ (releaseHeld i s).executor = s.executor ∧ (releaseHeld i s).shared = s.shared
    ∧ (releaseHeld i s).pending = s.pending := by
  unfold releaseHeld
  try dsimp only
  repeat' split
  all_goals simp

@[simp] theorem dropLinkReads_keeps (i : LaneId) (s : State) :
    (dropLinkReads i s).regs = s.regs ∧ (dropLinkReads i s).link.state = s.link.state
    ∧ (dropLinkReads i s).sense = s.sense ∧ (dropLinkReads i s).power = s.power ∧ (dropLinkReads i s).wm = s.wm
    ∧ (dropLinkReads i s).wave = s.wave ∧ (dropLinkReads i s).panel = s.panel ∧ (dropLinkReads i s).pins = s.pins
    ∧ (dropLinkReads i s).keys = s.keys ∧ (dropLinkReads i s).turn = s.turn ∧ (dropLinkReads i s).light = s.light
    ∧ (dropLinkReads i s).store = s.store ∧ (dropLinkReads i s).executor = s.executor
    ∧ (dropLinkReads i s).shared = s.shared ∧ (dropLinkReads i s).pending = s.pending := by
  unfold dropLinkReads
  try dsimp only
  all_goals simp

@[simp] theorem followLink_keeps (i : LaneId) (v : Word) (s : State) :
    (followLink i v s).regs.anchor = s.regs.anchor ∧ (followLink i v s).regs.causemask = s.regs.causemask
    ∧ (followLink i v s).link.state = s.link.state ∧ (followLink i v s).sense = s.sense
    ∧ (followLink i v s).power = s.power ∧ (followLink i v s).wm = s.wm ∧ (followLink i v s).wave = s.wave
    ∧ (followLink i v s).panel = s.panel ∧ (followLink i v s).pins = s.pins ∧ (followLink i v s).keys = s.keys
    ∧ (followLink i v s).turn = s.turn ∧ (followLink i v s).light = s.light ∧ (followLink i v s).store = s.store
    ∧ (followLink i v s).executor = s.executor ∧ (followLink i v s).shared = s.shared
    ∧ (followLink i v s).pending = s.pending := by
  unfold followLink
  try dsimp only
  repeat' split
  all_goals simp

@[simp] theorem parkLane_keeps (i : LaneId) (s : State) :
    (parkLane i s).regs = s.regs ∧ (parkLane i s).link.state = s.link.state ∧ (parkLane i s).sense = s.sense
    ∧ (parkLane i s).power = s.power ∧ (parkLane i s).wm = s.wm ∧ (parkLane i s).wave = s.wave
    ∧ (parkLane i s).panel = s.panel ∧ (parkLane i s).pins = s.pins ∧ (parkLane i s).keys = s.keys
    ∧ (parkLane i s).turn = s.turn ∧ (parkLane i s).light = s.light ∧ (parkLane i s).store = s.store
    ∧ (parkLane i s).executor = s.executor ∧ (parkLane i s).shared = s.shared ∧ (parkLane i s).pending = s.pending := by
  unfold parkLane
  try dsimp only
  repeat' split
  all_goals simp

@[simp] theorem linkRead_keeps (i : LaneId) (v : Word) (s : State) :
    (linkRead i v s).regs.anchor = s.regs.anchor ∧ (linkRead i v s).regs.causemask = s.regs.causemask
    ∧ (linkRead i v s).link.state = s.link.state ∧ (linkRead i v s).sense = s.sense
    ∧ (linkRead i v s).power = s.power ∧ (linkRead i v s).wm = s.wm ∧ (linkRead i v s).wave = s.wave
    ∧ (linkRead i v s).panel = s.panel ∧ (linkRead i v s).pins = s.pins ∧ (linkRead i v s).keys = s.keys
    ∧ (linkRead i v s).turn = s.turn ∧ (linkRead i v s).light = s.light ∧ (linkRead i v s).store = s.store
    ∧ (linkRead i v s).executor = s.executor ∧ (linkRead i v s).shared = s.shared
    ∧ (linkRead i v s).pending = s.pending := by
  unfold linkRead
  try dsimp only
  repeat' split
  all_goals simp

@[simp] theorem headerWriteError_keeps (i : LaneId) (addr : Word) (wasDone : Bool) (s : State) :
    (headerWriteError i addr wasDone s).regs.anchor = s.regs.anchor
    ∧ (headerWriteError i addr wasDone s).regs.causemask = s.regs.causemask
    ∧ (headerWriteError i addr wasDone s).link.state = s.link.state
    ∧ (headerWriteError i addr wasDone s).sense = s.sense ∧ (headerWriteError i addr wasDone s).power = s.power
    ∧ (headerWriteError i addr wasDone s).wm = s.wm ∧ (headerWriteError i addr wasDone s).wave = s.wave
    ∧ (headerWriteError i addr wasDone s).panel = s.panel ∧ (headerWriteError i addr wasDone s).pins = s.pins
    ∧ (headerWriteError i addr wasDone s).keys = s.keys ∧ (headerWriteError i addr wasDone s).turn = s.turn
    ∧ (headerWriteError i addr wasDone s).light = s.light ∧ (headerWriteError i addr wasDone s).store = s.store
    ∧ (headerWriteError i addr wasDone s).executor = s.executor
    ∧ (headerWriteError i addr wasDone s).shared = s.shared
    ∧ (headerWriteError i addr wasDone s).pending = s.pending := by
  unfold headerWriteError
  try dsimp only
  repeat' split
  all_goals simp

@[simp] theorem headerWritten_keeps (a : BusAccess) (busError : Bool) (s : State) :
    (headerWritten a busError s).regs.anchor = s.regs.anchor
    ∧ (headerWritten a busError s).regs.causemask = s.regs.causemask
    ∧ (headerWritten a busError s).link.state = s.link.state ∧ (headerWritten a busError s).sense = s.sense
    ∧ (headerWritten a busError s).power = s.power ∧ (headerWritten a busError s).wm = s.wm
    ∧ (headerWritten a busError s).wave = s.wave ∧ (headerWritten a busError s).panel = s.panel
    ∧ (headerWritten a busError s).pins = s.pins ∧ (headerWritten a busError s).keys = s.keys
    ∧ (headerWritten a busError s).turn = s.turn ∧ (headerWritten a busError s).light = s.light
    ∧ (headerWritten a busError s).store = s.store ∧ (headerWritten a busError s).executor = s.executor
    ∧ (headerWritten a busError s).pending = s.pending := by
  unfold headerWritten
  try dsimp only
  repeat' split
  all_goals simp

end Sys2Proof.Machine
end

