-- ==== Sys2Proof/Laws/Sparse.lean ====
section
/-!
SUPPORT. The laws of sparse lists: every operation keeps the canonical form, a read after a write gives what was
written, and a write leaves every other key alone.
-/

namespace Sys2Proof.Machine

open Sys2Proof

variable {β τ : Type}

/-! ## The canonical form -/

theorem sparseFrom_mono {lo lo' : Nat} (h : lo' ≤ lo) : ∀ {m : List (Nat × β)}, sparseFrom lo m = true →
    sparseFrom lo' m = true
  | [], _ => rfl
  | (k, _) :: m, hm => by
    simp only [sparseFrom, Bool.and_eq_true, decide_eq_true_eq] at hm ⊢
    exact ⟨Nat.le_trans h hm.1, hm.2⟩

theorem sparsePut_wf {lo key : Nat} (v : β) (h : lo ≤ key) : ∀ {m : List (Nat × β)}, sparseFrom lo m = true →
    sparseFrom lo (sparsePut key v m) = true
  | [], _ => by simp [sparsePut, sparseFrom, h]
  | (k, w) :: m, hm => by
    simp only [sparseFrom, Bool.and_eq_true, decide_eq_true_eq] at hm
    unfold sparsePut
    split
    · simp only [sparseFrom, Bool.and_eq_true, decide_eq_true_eq]
      exact ⟨h, by omega, hm.2⟩
    · split
      · subst_vars
        simp only [sparseFrom, Bool.and_eq_true, decide_eq_true_eq]
        exact hm
      · simp only [sparseFrom, Bool.and_eq_true, decide_eq_true_eq]
        exact ⟨hm.1, sparsePut_wf v (by omega) hm.2⟩

theorem sparseErase_wf {lo key : Nat} : ∀ {m : List (Nat × β)}, sparseFrom lo m = true →
    sparseFrom lo (sparseErase key m) = true
  | [], _ => rfl
  | (k, w) :: m, hm => by
    simp only [sparseFrom, Bool.and_eq_true, decide_eq_true_eq] at hm
    unfold sparseErase
    split
    · exact sparseFrom_mono (by omega) hm.2
    · simp only [sparseFrom, Bool.and_eq_true, decide_eq_true_eq]
      exact ⟨hm.1, sparseErase_wf hm.2⟩

theorem sparseMap_wf {lo : Nat} (f : Nat → β → β) : ∀ {m : List (Nat × β)},
    sparseFrom lo (sparseMap f m) = sparseFrom lo m
  | [] => rfl
  | (k, w) :: m => by simp only [sparseMap, sparseFrom, sparseMap_wf f]

theorem sparseWeave_wf (f : Nat → τ → Option β → β) (n : Nat) : ∀ {lo : Nat} {new : List (Nat × τ)}
    {old : List (Nat × β)}, sparseFrom lo new = true → sparseFrom lo old = true →
    sparseFrom lo (sparseWeave f n new old) = true := by
  induction n with
  | zero => intro lo new old _ ho; simpa [sparseWeave] using ho
  | succ n ih =>
    intro lo new old hn ho
    match new, old with
    | [], old => simpa [sparseWeave] using ho
    | (k, t) :: new, [] =>
      simp only [sparseFrom, Bool.and_eq_true, decide_eq_true_eq] at hn
      simp only [sparseWeave, sparseFrom, Bool.and_eq_true, decide_eq_true_eq]
      exact ⟨hn.1, ih hn.2 rfl⟩
    | (k, t) :: new, (j, w) :: old =>
      simp only [sparseFrom, Bool.and_eq_true, decide_eq_true_eq] at hn ho
      simp only [sparseWeave]
      split
      · simp only [sparseFrom, Bool.and_eq_true, decide_eq_true_eq]
        refine ⟨ho.1, ih ?_ ho.2⟩
        simp only [sparseFrom, Bool.and_eq_true, decide_eq_true_eq]
        exact ⟨by omega, hn.2⟩
      · split
        · subst_vars
          simp only [sparseFrom, Bool.and_eq_true, decide_eq_true_eq]
          exact ⟨hn.1, ih hn.2 ho.2⟩
        · simp only [sparseFrom, Bool.and_eq_true, decide_eq_true_eq]
          refine ⟨hn.1, ih hn.2 ?_⟩
          simp only [sparseFrom, Bool.and_eq_true, decide_eq_true_eq]
          exact ⟨by omega, ho.2⟩

theorem consecutive_wf : ∀ (l : List τ) (first : Nat), sparseFrom first (consecutive first l) = true
  | [], _ => rfl
  | t :: l, first => by
    simp only [consecutive, sparseFrom, Bool.and_eq_true, decide_eq_true_eq]
    exact ⟨Nat.le_refl _, consecutive_wf l (first + 1)⟩

theorem sparseWrite_wf (f : Nat → τ → Option β → β) {lo : Nat} {new : List (Nat × τ)} {old : List (Nat × β)}
    (hn : sparseFrom lo new = true) (ho : sparseFrom lo old = true) : sparseFrom lo (sparseWrite f new old) = true :=
  sparseWeave_wf f _ hn ho

theorem writeShared_wf (addr : Nat) (bytes : List Byte) {m : List Host.Cell} (h : sparseWf m = true) :
    sparseWf (writeShared addr bytes m) = true :=
  sparseWrite_wf _ (sparseFrom_mono (Nat.zero_le _) (consecutive_wf _ _)) h

/-! ## Reads -/

theorem sparseGet_below {lo a : Nat} (h : a < lo) : ∀ {m : List (Nat × β)}, sparseFrom lo m = true →
    sparseGet a m = none
  | [], _ => rfl
  | (k, w) :: m, hm => by
    simp only [sparseFrom, Bool.and_eq_true, decide_eq_true_eq] at hm
    have : k ≠ a := by omega
    simp only [sparseGet, this, if_false]
    exact sparseGet_below (by omega) hm.2

@[simp] theorem sparseGet_put_same (key : Nat) (v : β) : ∀ (m : List (Nat × β)),
    sparseGet key (sparsePut key v m) = some v
  | [] => by simp [sparsePut, sparseGet]
  | (k, w) :: m => by
    unfold sparsePut
    split
    · simp [sparseGet]
    · split
      · simp [sparseGet]
      · rename_i h1 h2
        have : k ≠ key := fun e => h2 e.symm
        simp [sparseGet, this, sparseGet_put_same key v m]

theorem sparseGet_put_other {key a : Nat} (h : a ≠ key) (v : β) : ∀ (m : List (Nat × β)),
    sparseGet a (sparsePut key v m) = sparseGet a m
  | [] => by simp [sparsePut, sparseGet, Ne.symm h]
  | (k, w) :: m => by
    unfold sparsePut
    split
    · simp [sparseGet, Ne.symm h]
    · split
      · subst_vars; simp [sparseGet, Ne.symm h]
      · simp [sparseGet, sparseGet_put_other h v m]

theorem sparseGet_erase_other {key a : Nat} (h : a ≠ key) : ∀ (m : List (Nat × β)),
    sparseGet a (sparseErase key m) = sparseGet a m
  | [] => rfl
  | (k, w) :: m => by
    unfold sparseErase
    split
    · subst_vars; simp [sparseGet, Ne.symm h]
    · simp [sparseGet, sparseGet_erase_other h m]

theorem sparseGet_erase_same {lo : Nat} (key : Nat) : ∀ {m : List (Nat × β)}, sparseFrom lo m = true →
    sparseGet key (sparseErase key m) = none
  | [], _ => rfl
  | (k, w) :: m, hm => by
    simp only [sparseFrom, Bool.and_eq_true, decide_eq_true_eq] at hm
    unfold sparseErase
    split
    · subst_vars; exact sparseGet_below (Nat.lt_succ_self _) hm.2
    · rename_i hk
      simp only [sparseGet, hk, if_false]
      exact sparseGet_erase_same key hm.2

@[simp] theorem sparseGet_map (f : Nat → β → β) (a : Nat) : ∀ (m : List (Nat × β)),
    sparseGet a (sparseMap f m) = (sparseGet a m).map (f a)
  | [] => rfl
  | (k, w) :: m => by
    simp only [sparseMap, sparseGet]
    split
    · subst_vars; rfl
    · exact sparseGet_map f a m

/-- A weave with fuel enough gives at each key the new item's value where one is listed, and the old one elsewhere. -/
theorem sparseGet_weave (f : Nat → τ → Option β → β) (a n : Nat) : ∀ {lo : Nat} {new : List (Nat × τ)}
    {old : List (Nat × β)}, sparseFrom lo new = true → sparseFrom lo old = true → new.length + old.length ≤ n →
    sparseGet a (sparseWeave f n new old) =
      match sparseGet a new with
      | some t => some (f a t (sparseGet a old))
      | none   => sparseGet a old := by
  induction n with
  | zero =>
    intro lo new old _ _ hl
    have h1 : new = [] := List.length_eq_zero_iff.mp (by omega)
    subst h1; simp [sparseWeave, sparseGet]
  | succ n ih =>
    intro lo new old hn ho hl
    match new, old with
    | [], old => simp [sparseWeave, sparseGet]
    | (k, t) :: new, [] =>
      simp only [sparseFrom, Bool.and_eq_true, decide_eq_true_eq] at hn
      simp only [sparseWeave, sparseGet]
      split
      · subst_vars; rfl
      · rw [ih hn.2 (rfl : sparseFrom (k + 1) [] = true) (by simp at hl ⊢; omega)]; simp [sparseGet]
    | (k, t) :: new, (j, w) :: old =>
      simp only [sparseFrom, Bool.and_eq_true, decide_eq_true_eq] at hn ho
      simp only [List.length_cons] at hl
      simp only [sparseWeave]
      split
      · rename_i hjk
        have hn' : sparseFrom (j + 1) ((k, t) :: new) = true := by
          simp only [sparseFrom, Bool.and_eq_true, decide_eq_true_eq]; exact ⟨by omega, hn.2⟩
        by_cases hja : j = a
        · subst hja
          rw [sparseGet_below (Nat.lt_succ_self _) hn']
          simp [sparseGet]
        · simp only [sparseGet, hja, if_false]
          rw [ih hn' ho.2 (by simp only [List.length_cons]; omega)]
          simp only [sparseGet]
      · split
        · rename_i h1 h2
          subst h2
          by_cases hja : j = a
          · subst hja; simp [sparseGet]
          · simp only [sparseGet, hja, if_false]
            exact ih hn.2 ho.2 (by omega)
        · rename_i h1 h2
          have ho' : sparseFrom (k + 1) ((j, w) :: old) = true := by
            simp only [sparseFrom, Bool.and_eq_true, decide_eq_true_eq]; exact ⟨by omega, ho.2⟩
          by_cases hka : k = a
          · subst hka
            rw [sparseGet_below (Nat.lt_succ_self _) ho']
            simp [sparseGet]
          · simp only [sparseGet, hka, if_false]
            rw [ih hn.2 ho' (by simp only [List.length_cons]; omega)]
            simp only [sparseGet]

theorem sparseGet_consecutive (a : Nat) : ∀ (l : List τ) (first : Nat),
    sparseGet a (consecutive first l) = if first ≤ a then l[a - first]? else none
  | [], first => by simp [consecutive, sparseGet]
  | t :: l, first => by
    simp only [consecutive, sparseGet]
    by_cases h : first = a
    · subst h; simp
    · simp only [h, if_false]
      rw [sparseGet_consecutive a l (first + 1)]
      by_cases h2 : first ≤ a
      · have h3 : first + 1 ≤ a := by omega
        have h4 : a - first = (a - (first + 1)) + 1 := by omega
        simp [h2, h3, h4]
      · have h3 : ¬ first + 1 ≤ a := by omega
        simp [h2, h3]

/-- Reading shared memory after a write: the bytes written where they lie, and what was there before elsewhere. -/
theorem sparseGet_writeShared (a addr : Nat) (bytes : List Byte) {m : List Host.Cell} (h : sparseWf m = true) :
    sparseGet a (writeShared addr bytes m) =
      if addr ≤ a ∧ a < addr + bytes.length then bytes[a - addr]? else sparseGet a m := by
  unfold writeShared sparseWrite
  rw [sparseGet_weave _ a _ (sparseFrom_mono (Nat.zero_le _) (consecutive_wf bytes addr)) h (Nat.le_refl _),
    sparseGet_consecutive]
  by_cases h1 : addr ≤ a
  · by_cases h2 : a < addr + bytes.length
    · have : a - addr < bytes.length := by omega
      simp [h1, h2, this]
    · have : bytes.length ≤ a - addr := by omega
      simp [h1, h2, this]
  · simp [h1]

end Sys2Proof.Machine
end

