-- ==== Sys2Proof/Laws/Store.lean ====
section
/-!
SUPPORT. The laws of the block table: what its operations leave alone, what a block reads as after them, and that they
keep its canonical form (keys strictly rising, no entry that reads as an unlisted block).
-/

namespace Sys2Proof.Machine

open Sys2Proof

/-- The canonical form of the block table: keys strictly rising, and no listed entry is the blank one. -/
def blocksWf (m : List (Nat × BlockEntry)) : Bool := sparseWf m && m.all fun e => e.2 != .blank

@[simp] theorem Store.launch_keeps (st : Store) (o : ArrayOp) :
    (st.launch o).power = st.power ∧ (st.launch o).idleTime = st.idleTime ∧ (st.launch o).ta = st.ta
    ∧ (st.launch o).wf = st.wf ∧ (st.launch o).ex = st.ex ∧ (st.launch o).op = some o ∧ (st.launch o).idle = none
    ∧ (st.launch o).erase = st.erase ∧ (st.launch o).blocks = st.blocks ∧ (st.launch o).array = st.array := by
  simp [Store.launch]

@[simp] theorem Store.putBlock_keeps (st : Store) (b : Nat) (e : BlockEntry) :
    (st.putBlock b e).power = st.power ∧ (st.putBlock b e).idle = st.idle ∧ (st.putBlock b e).idleTime = st.idleTime
    ∧ (st.putBlock b e).ta = st.ta ∧ (st.putBlock b e).wf = st.wf ∧ (st.putBlock b e).ex = st.ex
    ∧ (st.putBlock b e).op = st.op ∧ (st.putBlock b e).erase = st.erase ∧ (st.putBlock b e).array = st.array := by
  simp [Store.putBlock]

@[simp] theorem Store.setFill_keeps (st : Store) (b : Nat) (f : Fill) :
    (st.setFill b f).power = st.power ∧ (st.setFill b f).idle = st.idle ∧ (st.setFill b f).idleTime = st.idleTime
    ∧ (st.setFill b f).ta = st.ta ∧ (st.setFill b f).wf = st.wf ∧ (st.setFill b f).ex = st.ex
    ∧ (st.setFill b f).op = st.op ∧ (st.setFill b f).erase = st.erase ∧ (st.setFill b f).array = st.array := by
  simp [Store.setFill]

@[simp] theorem protectBlock_keeps (g : Bool) (c : ProtectCommand) (b : Nat) (st : Store) :
    (protectBlock g c b st).power = st.power ∧ (protectBlock g c b st).idle = st.idle
    ∧ (protectBlock g c b st).idleTime = st.idleTime ∧ (protectBlock g c b st).ta = st.ta
    ∧ (protectBlock g c b st).wf = st.wf ∧ (protectBlock g c b st).ex = st.ex ∧ (protectBlock g c b st).op = st.op
    ∧ (protectBlock g c b st).erase = st.erase ∧ (protectBlock g c b st).array = st.array := by
  unfold protectBlock
  split <;> simp

@[simp] theorem protectRange_keeps (g : Bool) (c : ProtectCommand) (first n : Nat) (st : Store) :
    (protectRange g c first n st).power = st.power ∧ (protectRange g c first n st).idle = st.idle
    ∧ (protectRange g c first n st).idleTime = st.idleTime ∧ (protectRange g c first n st).ta = st.ta
    ∧ (protectRange g c first n st).wf = st.wf ∧ (protectRange g c first n st).ex = st.ex
    ∧ (protectRange g c first n st).op = st.op ∧ (protectRange g c first n st).erase = st.erase
    ∧ (protectRange g c first n st).array = st.array := by
  induction n with
  | zero => simp [protectRange]
  | succ n ih => simp [protectRange, ih]

@[simp] theorem Store.takeGuard_keeps (g : Bool) (st : Store) :
    (st.takeGuard g).power = st.power ∧ (st.takeGuard g).idle = st.idle ∧ (st.takeGuard g).idleTime = st.idleTime
    ∧ (st.takeGuard g).ta = st.ta ∧ (st.takeGuard g).wf = st.wf ∧ (st.takeGuard g).ex = st.ex
    ∧ (st.takeGuard g).op = st.op ∧ (st.takeGuard g).erase = st.erase ∧ (st.takeGuard g).array = st.array := by
  simp [Store.takeGuard]

/-! ## Reading the table -/

/-- A block after its entry has been put. -/
theorem Store.block_putBlock_same {st : Store} (h : sparseWf st.blocks = true) (b : Nat) (e : BlockEntry) :
    (st.putBlock b e).block b = e := by
  unfold Store.block Store.putBlock
  split
  · subst_vars; simp [sparseGet_erase_same b h, BlockEntry.blank]
  · simp

/-- Another block is as it was. -/
theorem Store.block_putBlock_other (st : Store) {a b : Nat} (h : a ≠ b) (e : BlockEntry) :
    (st.putBlock b e).block a = st.block a := by
  unfold Store.block Store.putBlock
  split
  · simp [sparseGet_erase_other h]
  · simp [sparseGet_put_other h]

theorem Store.block_setFill_same {st : Store} (h : sparseWf st.blocks = true) (b : Nat) (f : Fill) :
    (st.setFill b f).block b = { st.block b with fill := f } :=
  Store.block_putBlock_same h b _

theorem Store.block_setFill_other (st : Store) {a b : Nat} (h : a ≠ b) (f : Fill) :
    (st.setFill b f).block a = st.block a :=
  Store.block_putBlock_other st h _

/-! ## The canonical form -/

theorem Store.putBlock_sparseWf {st : Store} (h : sparseWf st.blocks = true) (b : Nat) (e : BlockEntry) :
    sparseWf (st.putBlock b e).blocks = true := by
  unfold Store.putBlock
  dsimp only
  split
  · exact sparseErase_wf h
  · exact sparsePut_wf e (Nat.zero_le _) h

theorem sparsePut_all {β : Type} (p : β → Bool) (key : Nat) {v : β} (hv : p v = true) :
    ∀ {m : List (Nat × β)}, (m.all fun e => p e.2) = true → ((sparsePut key v m).all fun e => p e.2) = true
  | [], _ => by simp [sparsePut, hv]
  | (k, w) :: m, hm => by
    simp only [List.all_cons, Bool.and_eq_true] at hm
    unfold sparsePut
    split
    · simp only [List.all_cons, Bool.and_eq_true]; exact ⟨hv, hm⟩
    · split
      · simp only [List.all_cons, Bool.and_eq_true]; exact ⟨hv, hm.2⟩
      · simp only [List.all_cons, Bool.and_eq_true]; exact ⟨hm.1, sparsePut_all p key hv hm.2⟩

theorem sparseErase_all {β : Type} (p : β → Bool) (key : Nat) :
    ∀ {m : List (Nat × β)}, (m.all fun e => p e.2) = true → ((sparseErase key m).all fun e => p e.2) = true
  | [], _ => rfl
  | (k, w) :: m, hm => by
    simp only [List.all_cons, Bool.and_eq_true] at hm
    unfold sparseErase
    split
    · exact hm.2
    · simp only [List.all_cons, Bool.and_eq_true]; exact ⟨hm.1, sparseErase_all p key hm.2⟩

/-- Putting an entry keeps the table canonical. -/
theorem Store.putBlock_blocksWf {st : Store} (h : blocksWf st.blocks = true) (b : Nat) (e : BlockEntry) :
    blocksWf (st.putBlock b e).blocks = true := by
  unfold blocksWf at h ⊢
  rw [Bool.and_eq_true] at h ⊢
  refine ⟨Store.putBlock_sparseWf h.1 b e, ?_⟩
  unfold Store.putBlock
  dsimp only
  split
  · exact sparseErase_all (fun e : BlockEntry => e != .blank) b h.2
  · rename_i hne
    exact sparsePut_all (fun e : BlockEntry => e != .blank) b (by simpa using hne) h.2

theorem Store.setFill_blocksWf {st : Store} (h : blocksWf st.blocks = true) (b : Nat) (f : Fill) :
    blocksWf (st.setFill b f).blocks = true :=
  Store.putBlock_blocksWf h b _

theorem protectBlock_blocksWf (g : Bool) (c : ProtectCommand) (b : Nat) {st : Store} (h : blocksWf st.blocks = true) :
    blocksWf (protectBlock g c b st).blocks = true := by
  unfold protectBlock
  split
  · exact Store.putBlock_blocksWf h b _
  · exact h
  · exact h

theorem protectRange_blocksWf (g : Bool) (c : ProtectCommand) (first n : Nat) {st : Store}
    (h : blocksWf st.blocks = true) : blocksWf (protectRange g c first n st).blocks = true := by
  induction n with
  | zero => exact h
  | succ n ih => exact protectBlock_blocksWf g c _ ih

/-- GUARD keeps a blank entry out: it never makes a pinned block LOCKED. -/
theorem Store.takeGuard_blocksWf (g : Bool) {st : Store} (h : blocksWf st.blocks = true) :
    blocksWf (st.takeGuard g).blocks = true := by
  unfold blocksWf at h ⊢
  rw [Bool.and_eq_true] at h ⊢
  refine ⟨by simpa [Store.takeGuard, sparseMap_wf] using h.1, ?_⟩
  have h2 := h.2
  unfold Store.takeGuard
  generalize st.blocks = m at h2 ⊢
  induction m with
  | nil => rfl
  | cons e m ih =>
    obtain ⟨k, fill, prot⟩ := e
    simp only [sparseMap, List.all_cons, Bool.and_eq_true] at h2 ⊢
    refine ⟨?_, ih h2.2⟩
    have h3 := h2.1
    cases prot <;> cases g <;> simp_all [guardProtection, BlockEntry.blank]

/-! ## The array -/

/-- Writing every page of a block keeps the array's canonical form. -/
theorem fillBlock_wf (b : Nat) (x : ArrayPage) {m : List (Nat × ArrayPage)} (h : sparseWf m = true) :
    sparseWf (fillBlock b x m) = true :=
  sparseWrite_wf _ (sparseFrom_mono (Nat.zero_le _) (consecutive_wf _ _)) h

/-- A page of the array after every page of a block has been written. -/
theorem sparseGet_fillBlock (b p : Nat) (x : ArrayPage) {m : List (Nat × ArrayPage)} (h : sparseWf m = true) :
    sparseGet p (fillBlock b x m) = if p / 64 = b then some x else sparseGet p m := by
  unfold fillBlock sparseWrite
  rw [sparseGet_weave _ p _ (sparseFrom_mono (Nat.zero_le _) (consecutive_wf _ (b * 64))) h (Nat.le_refl _),
    sparseGet_consecutive]
  by_cases h1 : p / 64 = b
  · have h2 : b * 64 ≤ p := by omega
    have h3 : p - b * 64 < 64 := by omega
    simp only [h1, h2, if_true, List.getElem?_replicate, h3]
  · simp only [h1, if_false]
    by_cases h2 : b * 64 ≤ p
    · have h3 : ¬ p - b * 64 < 64 := by omega
      simp only [h2, if_true, List.getElem?_replicate, h3, if_false]
    · simp only [h2, if_false]

theorem Store.setField_wf {st : Store} (h : sparseWf st.array = true) (b : Nat) (f : RetireField) :
    sparseWf (st.setField b f) = true :=
  sparsePut_wf _ (Nat.zero_le _) h

/-- A page of the array after the retirement field of a block has been set: page 0 of the block has the field, and every
other page is as it was. -/
theorem sparseGet_setField (st : Store) (b p : Nat) (f : RetireField) :
    sparseGet p (st.setField b f) = if p = b * 64 then some { st.page p with field := f } else sparseGet p st.array := by
  unfold Store.setField
  by_cases h : p = b * 64
  · subst h; simp
  · simp [h, sparseGet_put_other h]

theorem Store.abandonedOp_wf {st : Store} (h : sparseWf st.array = true) : sparseWf st.abandonedOp = true := by
  unfold Store.abandonedOp
  split
  · exact sparsePut_wf _ (Nat.zero_le _) h
  · exact Store.setField_wf h _ _
  all_goals exact h

theorem Store.abandoned_wf {st : Store} (h : sparseWf st.array = true) : sparseWf st.abandoned = true := by
  unfold Store.abandoned
  split
  · exact fillBlock_wf _ _ (Store.abandonedOp_wf h)
  · exact Store.abandonedOp_wf h

end Sys2Proof.Machine
end

