-- ==== Sys2Proof/Laws/StoreFrames.lean ====
section
/-!
SUPPORT. What each operation of the store, the Turn-Ahead Unit and the resets leaves alone: one lemma for each operation.
-/

namespace Sys2Proof.Machine

open Sys2Proof

@[simp] theorem askBuffer_keeps (use : BufferUse) (addr length : Nat) (s : State) :
    (askBuffer use addr length s).regs = s.regs ∧ (askBuffer use addr length s).link = s.link
    ∧ (askBuffer use addr length s).sense = s.sense ∧ (askBuffer use addr length s).power = s.power
    ∧ (askBuffer use addr length s).wm = s.wm ∧ (askBuffer use addr length s).wave = s.wave
    ∧ (askBuffer use addr length s).panel = s.panel ∧ (askBuffer use addr length s).pins = s.pins
    ∧ (askBuffer use addr length s).keys = s.keys ∧ (askBuffer use addr length s).turn = s.turn
    ∧ (askBuffer use addr length s).light = s.light ∧ (askBuffer use addr length s).store = s.store
    ∧ (askBuffer use addr length s).executor = s.executor ∧ (askBuffer use addr length s).shared = s.shared
    ∧ (askBuffer use addr length s).pending = s.pending := by
  unfold askBuffer
  try dsimp only
  all_goals simp

@[simp] theorem postRequest_keeps (r : ExRequest) (s : State) :
    (postRequest r s).regs = s.regs ∧ (postRequest r s).link = s.link ∧ (postRequest r s).bus = s.bus
    ∧ (postRequest r s).sense = s.sense ∧ (postRequest r s).power = s.power ∧ (postRequest r s).wm = s.wm
    ∧ (postRequest r s).wave = s.wave ∧ (postRequest r s).panel = s.panel ∧ (postRequest r s).pins = s.pins
    ∧ (postRequest r s).keys = s.keys ∧ (postRequest r s).turn = s.turn ∧ (postRequest r s).light = s.light
    ∧ (postRequest r s).store.array = s.store.array ∧ (postRequest r s).store.blocks = s.store.blocks
    ∧ (postRequest r s).executor = s.executor ∧ (postRequest r s).shared = s.shared
    ∧ (postRequest r s).pending = s.pending := by
  unfold postRequest
  try dsimp only
  all_goals simp

@[simp] theorem finishExecutor_keeps (result : ResultCode) (detail : Word) (progress : Nat) (s : State) :
    (finishExecutor result detail progress s).regs.anchor = s.regs.anchor
    ∧ (finishExecutor result detail progress s).regs.causemask = s.regs.causemask
    ∧ (finishExecutor result detail progress s).link.state = s.link.state
    ∧ (finishExecutor result detail progress s).sense = s.sense
    ∧ (finishExecutor result detail progress s).power = s.power
    ∧ (finishExecutor result detail progress s).wm = s.wm ∧ (finishExecutor result detail progress s).wave = s.wave
    ∧ (finishExecutor result detail progress s).panel = s.panel
    ∧ (finishExecutor result detail progress s).pins = s.pins
    ∧ (finishExecutor result detail progress s).keys = s.keys
    ∧ (finishExecutor result detail progress s).turn = s.turn
    ∧ (finishExecutor result detail progress s).light = s.light
    ∧ (finishExecutor result detail progress s).store = s.store
    ∧ (finishExecutor result detail progress s).shared = s.shared
    ∧ (finishExecutor result detail progress s).pending = s.pending := by
  unfold finishExecutor
  try dsimp only
  all_goals simp

@[simp] theorem beginExecutor_keeps (k : Kind) (r : RecordCopy) (s : State) :
    (beginExecutor k r s).regs = s.regs ∧ (beginExecutor k r s).link = s.link ∧ (beginExecutor k r s).bus = s.bus
    ∧ (beginExecutor k r s).sense = s.sense ∧ (beginExecutor k r s).power = s.power
    ∧ (beginExecutor k r s).wm = s.wm ∧ (beginExecutor k r s).wave = s.wave ∧ (beginExecutor k r s).panel = s.panel
    ∧ (beginExecutor k r s).pins = s.pins ∧ (beginExecutor k r s).keys = s.keys
    ∧ (beginExecutor k r s).turn = s.turn ∧ (beginExecutor k r s).light = s.light
    ∧ (beginExecutor k r s).store = s.store ∧ (beginExecutor k r s).shared = s.shared
    ∧ (beginExecutor k r s).pending = s.pending := by
  unfold beginExecutor
  try dsimp only
  all_goals simp

@[simp] theorem askPayloadPage_keeps (s : State) :
    (askPayloadPage s).regs = s.regs ∧ (askPayloadPage s).link = s.link ∧ (askPayloadPage s).sense = s.sense
    ∧ (askPayloadPage s).power = s.power ∧ (askPayloadPage s).wm = s.wm ∧ (askPayloadPage s).wave = s.wave
    ∧ (askPayloadPage s).panel = s.panel ∧ (askPayloadPage s).pins = s.pins ∧ (askPayloadPage s).keys = s.keys
    ∧ (askPayloadPage s).turn = s.turn ∧ (askPayloadPage s).light = s.light ∧ (askPayloadPage s).store = s.store
    ∧ (askPayloadPage s).executor = s.executor ∧ (askPayloadPage s).shared = s.shared
    ∧ (askPayloadPage s).pending = s.pending := by
  unfold askPayloadPage
  try dsimp only
  all_goals simp

@[simp] theorem ingestKnown_keeps (s : State) :
    (ingestKnown s).regs.anchor = s.regs.anchor ∧ (ingestKnown s).regs.causemask = s.regs.causemask
    ∧ (ingestKnown s).link.state = s.link.state ∧ (ingestKnown s).sense = s.sense ∧ (ingestKnown s).power = s.power
    ∧ (ingestKnown s).wm = s.wm ∧ (ingestKnown s).wave = s.wave ∧ (ingestKnown s).panel = s.panel
    ∧ (ingestKnown s).pins = s.pins ∧ (ingestKnown s).keys = s.keys ∧ (ingestKnown s).turn = s.turn
    ∧ (ingestKnown s).light = s.light ∧ (ingestKnown s).store = s.store ∧ (ingestKnown s).shared = s.shared
    ∧ (ingestKnown s).pending = s.pending := by
  unfold ingestKnown
  try dsimp only
  repeat' split
  all_goals simp

@[simp] theorem ingestChecks_keeps (s : State) :
    (ingestChecks s).regs.anchor = s.regs.anchor ∧ (ingestChecks s).regs.causemask = s.regs.causemask
    ∧ (ingestChecks s).link.state = s.link.state ∧ (ingestChecks s).sense = s.sense
    ∧ (ingestChecks s).power = s.power ∧ (ingestChecks s).wm = s.wm ∧ (ingestChecks s).wave = s.wave
    ∧ (ingestChecks s).panel = s.panel ∧ (ingestChecks s).pins = s.pins ∧ (ingestChecks s).keys = s.keys
    ∧ (ingestChecks s).turn = s.turn ∧ (ingestChecks s).light = s.light
    ∧ (ingestChecks s).store.array = s.store.array ∧ (ingestChecks s).store.blocks = s.store.blocks
    ∧ (ingestChecks s).shared = s.shared ∧ (ingestChecks s).pending = s.pending := by
  unfold ingestChecks
  try dsimp only
  repeat' split
  all_goals simp

@[simp] theorem ingestVerified_keeps (payload : List Byte) (s : State) :
    (ingestVerified payload s).regs.anchor = s.regs.anchor
    ∧ (ingestVerified payload s).regs.causemask = s.regs.causemask
    ∧ (ingestVerified payload s).link.state = s.link.state ∧ (ingestVerified payload s).sense = s.sense
    ∧ (ingestVerified payload s).power = s.power ∧ (ingestVerified payload s).wm = s.wm
    ∧ (ingestVerified payload s).wave = s.wave ∧ (ingestVerified payload s).panel = s.panel
    ∧ (ingestVerified payload s).pins = s.pins ∧ (ingestVerified payload s).keys = s.keys
    ∧ (ingestVerified payload s).turn = s.turn ∧ (ingestVerified payload s).light = s.light
    ∧ (ingestVerified payload s).store = s.store ∧ (ingestVerified payload s).shared = s.shared
    ∧ (ingestVerified payload s).pending = s.pending := by
  unfold ingestVerified
  try dsimp only
  repeat' split
  all_goals simp

@[simp] theorem ingestPageRead_keeps (payload : List Byte) (s : State) :
    (ingestPageRead payload s).regs = s.regs ∧ (ingestPageRead payload s).link = s.link
    ∧ (ingestPageRead payload s).sense = s.sense ∧ (ingestPageRead payload s).power = s.power
    ∧ (ingestPageRead payload s).wm = s.wm ∧ (ingestPageRead payload s).wave = s.wave
    ∧ (ingestPageRead payload s).panel = s.panel ∧ (ingestPageRead payload s).pins = s.pins
    ∧ (ingestPageRead payload s).keys = s.keys ∧ (ingestPageRead payload s).turn = s.turn
    ∧ (ingestPageRead payload s).light = s.light ∧ (ingestPageRead payload s).store.array = s.store.array
    ∧ (ingestPageRead payload s).store.blocks = s.store.blocks ∧ (ingestPageRead payload s).shared = s.shared
    ∧ (ingestPageRead payload s).pending = s.pending := by
  unfold ingestPageRead
  try dsimp only
  repeat' split
  all_goals simp

@[simp] theorem ingestPageDone_keeps (s : State) :
    (ingestPageDone s).regs.anchor = s.regs.anchor ∧ (ingestPageDone s).regs.causemask = s.regs.causemask
    ∧ (ingestPageDone s).link.state = s.link.state ∧ (ingestPageDone s).sense = s.sense
    ∧ (ingestPageDone s).power = s.power ∧ (ingestPageDone s).wm = s.wm ∧ (ingestPageDone s).wave = s.wave
    ∧ (ingestPageDone s).panel = s.panel ∧ (ingestPageDone s).pins = s.pins ∧ (ingestPageDone s).keys = s.keys
    ∧ (ingestPageDone s).turn = s.turn ∧ (ingestPageDone s).light = s.light ∧ (ingestPageDone s).store = s.store
    ∧ (ingestPageDone s).shared = s.shared ∧ (ingestPageDone s).pending = s.pending := by
  unfold ingestPageDone
  try dsimp only
  repeat' split
  all_goals simp

@[simp] theorem requestReadPage_keeps (s : State) :
    (requestReadPage s).regs = s.regs ∧ (requestReadPage s).link = s.link ∧ (requestReadPage s).bus = s.bus
    ∧ (requestReadPage s).sense = s.sense ∧ (requestReadPage s).power = s.power ∧ (requestReadPage s).wm = s.wm
    ∧ (requestReadPage s).wave = s.wave ∧ (requestReadPage s).panel = s.panel ∧ (requestReadPage s).pins = s.pins
    ∧ (requestReadPage s).keys = s.keys ∧ (requestReadPage s).turn = s.turn ∧ (requestReadPage s).light = s.light
    ∧ (requestReadPage s).store.array = s.store.array ∧ (requestReadPage s).store.blocks = s.store.blocks
    ∧ (requestReadPage s).executor = s.executor ∧ (requestReadPage s).shared = s.shared
    ∧ (requestReadPage s).pending = s.pending := by
  unfold requestReadPage
  try dsimp only
  all_goals simp

@[simp] theorem readChecks_keeps (s : State) :
    (readChecks s).regs.anchor = s.regs.anchor ∧ (readChecks s).regs.causemask = s.regs.causemask
    ∧ (readChecks s).link.state = s.link.state ∧ (readChecks s).sense = s.sense ∧ (readChecks s).power = s.power
    ∧ (readChecks s).wm = s.wm ∧ (readChecks s).wave = s.wave ∧ (readChecks s).panel = s.panel
    ∧ (readChecks s).pins = s.pins ∧ (readChecks s).keys = s.keys ∧ (readChecks s).turn = s.turn
    ∧ (readChecks s).light = s.light ∧ (readChecks s).store.array = s.store.array
    ∧ (readChecks s).store.blocks = s.store.blocks ∧ (readChecks s).shared = s.shared
    ∧ (readChecks s).pending = s.pending := by
  unfold readChecks
  try dsimp only
  repeat' split
  all_goals simp

@[simp] theorem readPageDone_keeps (data : List Byte) (erased : Bool) (s : State) :
    (readPageDone data erased s).regs = s.regs ∧ (readPageDone data erased s).link = s.link
    ∧ (readPageDone data erased s).sense = s.sense ∧ (readPageDone data erased s).power = s.power
    ∧ (readPageDone data erased s).wm = s.wm ∧ (readPageDone data erased s).wave = s.wave
    ∧ (readPageDone data erased s).panel = s.panel ∧ (readPageDone data erased s).pins = s.pins
    ∧ (readPageDone data erased s).keys = s.keys ∧ (readPageDone data erased s).turn = s.turn
    ∧ (readPageDone data erased s).light = s.light ∧ (readPageDone data erased s).store = s.store
    ∧ (readPageDone data erased s).shared = s.shared ∧ (readPageDone data erased s).pending = s.pending := by
  unfold readPageDone
  try dsimp only
  all_goals simp

@[simp] theorem readPageWritten_keeps (s : State) :
    (readPageWritten s).regs.anchor = s.regs.anchor ∧ (readPageWritten s).regs.causemask = s.regs.causemask
    ∧ (readPageWritten s).link.state = s.link.state ∧ (readPageWritten s).sense = s.sense
    ∧ (readPageWritten s).power = s.power ∧ (readPageWritten s).wm = s.wm ∧ (readPageWritten s).wave = s.wave
    ∧ (readPageWritten s).panel = s.panel ∧ (readPageWritten s).pins = s.pins ∧ (readPageWritten s).keys = s.keys
    ∧ (readPageWritten s).turn = s.turn ∧ (readPageWritten s).light = s.light
    ∧ (readPageWritten s).store.array = s.store.array ∧ (readPageWritten s).store.blocks = s.store.blocks
    ∧ (readPageWritten s).pending = s.pending := by
  unfold readPageWritten
  try dsimp only
  repeat' split
  all_goals simp

@[simp] theorem startBlock_keeps (b : Nat) (s : State) :
    (startBlock b s).regs.anchor = s.regs.anchor ∧ (startBlock b s).regs.causemask = s.regs.causemask
    ∧ (startBlock b s).link.state = s.link.state ∧ (startBlock b s).sense = s.sense
    ∧ (startBlock b s).power = s.power ∧ (startBlock b s).wm = s.wm ∧ (startBlock b s).wave = s.wave
    ∧ (startBlock b s).panel = s.panel ∧ (startBlock b s).pins = s.pins ∧ (startBlock b s).keys = s.keys
    ∧ (startBlock b s).turn = s.turn ∧ (startBlock b s).light = s.light
    ∧ (startBlock b s).store.array = s.store.array ∧ (startBlock b s).store.blocks = s.store.blocks
    ∧ (startBlock b s).shared = s.shared ∧ (startBlock b s).pending = s.pending := by
  unfold startBlock
  try dsimp only
  repeat' split
  all_goals simp

@[simp] theorem eraseChecks_keeps (s : State) :
    (eraseChecks s).regs.anchor = s.regs.anchor ∧ (eraseChecks s).regs.causemask = s.regs.causemask
    ∧ (eraseChecks s).link.state = s.link.state ∧ (eraseChecks s).sense = s.sense ∧ (eraseChecks s).power = s.power
    ∧ (eraseChecks s).wm = s.wm ∧ (eraseChecks s).wave = s.wave ∧ (eraseChecks s).panel = s.panel
    ∧ (eraseChecks s).pins = s.pins ∧ (eraseChecks s).keys = s.keys ∧ (eraseChecks s).turn = s.turn
    ∧ (eraseChecks s).light = s.light ∧ (eraseChecks s).store.array = s.store.array
    ∧ (eraseChecks s).store.blocks = s.store.blocks ∧ (eraseChecks s).shared = s.shared
    ∧ (eraseChecks s).pending = s.pending := by
  unfold eraseChecks
  try dsimp only
  repeat' split
  all_goals simp

@[simp] theorem blockErased_keeps (s : State) :
    (blockErased s).regs.anchor = s.regs.anchor ∧ (blockErased s).regs.causemask = s.regs.causemask
    ∧ (blockErased s).link.state = s.link.state ∧ (blockErased s).sense = s.sense ∧ (blockErased s).power = s.power
    ∧ (blockErased s).wm = s.wm ∧ (blockErased s).wave = s.wave ∧ (blockErased s).panel = s.panel
    ∧ (blockErased s).pins = s.pins ∧ (blockErased s).keys = s.keys ∧ (blockErased s).turn = s.turn
    ∧ (blockErased s).light = s.light ∧ (blockErased s).store.array = s.store.array
    ∧ (blockErased s).store.blocks = s.store.blocks ∧ (blockErased s).shared = s.shared
    ∧ (blockErased s).pending = s.pending := by
  unfold blockErased
  try dsimp only
  repeat' split
  all_goals simp

@[simp] theorem recheckErase_keeps (s : State) :
    (recheckErase s).regs.anchor = s.regs.anchor ∧ (recheckErase s).regs.causemask = s.regs.causemask
    ∧ (recheckErase s).link.state = s.link.state ∧ (recheckErase s).sense = s.sense
    ∧ (recheckErase s).power = s.power ∧ (recheckErase s).wm = s.wm ∧ (recheckErase s).wave = s.wave
    ∧ (recheckErase s).panel = s.panel ∧ (recheckErase s).pins = s.pins ∧ (recheckErase s).keys = s.keys
    ∧ (recheckErase s).turn = s.turn ∧ (recheckErase s).light = s.light
    ∧ (recheckErase s).store.array = s.store.array ∧ (recheckErase s).store.blocks = s.store.blocks
    ∧ (recheckErase s).shared = s.shared ∧ (recheckErase s).pending = s.pending := by
  unfold recheckErase
  try dsimp only
  repeat' split
  all_goals simp

@[simp] theorem beginRetiring_keeps (b : Nat) (s : State) :
    (beginRetiring b s).regs = s.regs ∧ (beginRetiring b s).link = s.link ∧ (beginRetiring b s).bus = s.bus
    ∧ (beginRetiring b s).sense = s.sense ∧ (beginRetiring b s).power = s.power ∧ (beginRetiring b s).wm = s.wm
    ∧ (beginRetiring b s).wave = s.wave ∧ (beginRetiring b s).panel = s.panel ∧ (beginRetiring b s).pins = s.pins
    ∧ (beginRetiring b s).keys = s.keys ∧ (beginRetiring b s).turn = s.turn ∧ (beginRetiring b s).light = s.light
    ∧ (beginRetiring b s).store.array = s.store.array ∧ (beginRetiring b s).store.blocks = s.store.blocks
    ∧ (beginRetiring b s).shared = s.shared ∧ (beginRetiring b s).pending = s.pending := by
  unfold beginRetiring
  try dsimp only
  all_goals simp

@[simp] theorem retiringDone_keeps (s : State) :
    (retiringDone s).regs.anchor = s.regs.anchor ∧ (retiringDone s).regs.causemask = s.regs.causemask
    ∧ (retiringDone s).link.state = s.link.state ∧ (retiringDone s).sense = s.sense
    ∧ (retiringDone s).power = s.power ∧ (retiringDone s).wm = s.wm ∧ (retiringDone s).wave = s.wave
    ∧ (retiringDone s).panel = s.panel ∧ (retiringDone s).pins = s.pins ∧ (retiringDone s).keys = s.keys
    ∧ (retiringDone s).turn = s.turn ∧ (retiringDone s).light = s.light ∧ (retiringDone s).store = s.store
    ∧ (retiringDone s).shared = s.shared ∧ (retiringDone s).pending = s.pending := by
  unfold retiringDone
  try dsimp only
  repeat' split
  all_goals simp

@[simp] theorem protectChecks_keeps (s : State) :
    (protectChecks s).regs.anchor = s.regs.anchor ∧ (protectChecks s).regs.causemask = s.regs.causemask
    ∧ (protectChecks s).link.state = s.link.state ∧ (protectChecks s).sense = s.sense
    ∧ (protectChecks s).power = s.power ∧ (protectChecks s).wm = s.wm ∧ (protectChecks s).wave = s.wave
    ∧ (protectChecks s).panel = s.panel ∧ (protectChecks s).pins = s.pins ∧ (protectChecks s).keys = s.keys
    ∧ (protectChecks s).turn = s.turn ∧ (protectChecks s).light = s.light
    ∧ (protectChecks s).store.array = s.store.array ∧ (protectChecks s).shared = s.shared
    ∧ (protectChecks s).pending = s.pending := by
  unfold protectChecks
  try dsimp only
  repeat' split
  all_goals simp

@[simp] theorem surveyFrom_keeps (place : Nat) (s : State) :
    (surveyFrom place s).regs = s.regs ∧ (surveyFrom place s).link = s.link ∧ (surveyFrom place s).sense = s.sense
    ∧ (surveyFrom place s).power = s.power ∧ (surveyFrom place s).wm = s.wm ∧ (surveyFrom place s).wave = s.wave
    ∧ (surveyFrom place s).panel = s.panel ∧ (surveyFrom place s).pins = s.pins ∧ (surveyFrom place s).keys = s.keys
    ∧ (surveyFrom place s).turn = s.turn ∧ (surveyFrom place s).light = s.light
    ∧ (surveyFrom place s).store.array = s.store.array ∧ (surveyFrom place s).store.blocks = s.store.blocks
    ∧ (surveyFrom place s).shared = s.shared ∧ (surveyFrom place s).pending = s.pending := by
  unfold surveyFrom
  try dsimp only
  repeat' split
  all_goals simp

@[simp] theorem surveyChecks_keeps (s : State) :
    (surveyChecks s).regs.anchor = s.regs.anchor ∧ (surveyChecks s).regs.causemask = s.regs.causemask
    ∧ (surveyChecks s).link.state = s.link.state ∧ (surveyChecks s).sense = s.sense
    ∧ (surveyChecks s).power = s.power ∧ (surveyChecks s).wm = s.wm ∧ (surveyChecks s).wave = s.wave
    ∧ (surveyChecks s).panel = s.panel ∧ (surveyChecks s).pins = s.pins ∧ (surveyChecks s).keys = s.keys
    ∧ (surveyChecks s).turn = s.turn ∧ (surveyChecks s).light = s.light
    ∧ (surveyChecks s).store.array = s.store.array ∧ (surveyChecks s).store.blocks = s.store.blocks
    ∧ (surveyChecks s).shared = s.shared ∧ (surveyChecks s).pending = s.pending := by
  unfold surveyChecks
  try dsimp only
  repeat' split
  all_goals simp

@[simp] theorem surveyDone_keeps (ok : Bool) (s : State) :
    (surveyDone ok s).regs = s.regs ∧ (surveyDone ok s).link = s.link ∧ (surveyDone ok s).sense = s.sense
    ∧ (surveyDone ok s).power = s.power ∧ (surveyDone ok s).wm = s.wm ∧ (surveyDone ok s).wave = s.wave
    ∧ (surveyDone ok s).panel = s.panel ∧ (surveyDone ok s).pins = s.pins ∧ (surveyDone ok s).keys = s.keys
    ∧ (surveyDone ok s).turn = s.turn ∧ (surveyDone ok s).light = s.light
    ∧ (surveyDone ok s).store.array = s.store.array ∧ (surveyDone ok s).store.blocks = s.store.blocks
    ∧ (surveyDone ok s).shared = s.shared ∧ (surveyDone ok s).pending = s.pending := by
  unfold surveyDone
  try dsimp only
  repeat' split
  all_goals simp

@[simp] theorem reportDone_keeps (s : State) :
    (reportDone s).regs.anchor = s.regs.anchor ∧ (reportDone s).regs.causemask = s.regs.causemask
    ∧ (reportDone s).link.state = s.link.state ∧ (reportDone s).sense = s.sense ∧ (reportDone s).power = s.power
    ∧ (reportDone s).wm = s.wm ∧ (reportDone s).wave = s.wave ∧ (reportDone s).panel = s.panel
    ∧ (reportDone s).pins = s.pins ∧ (reportDone s).keys = s.keys ∧ (reportDone s).turn = s.turn
    ∧ (reportDone s).light = s.light ∧ (reportDone s).store = s.store ∧ (reportDone s).pending = s.pending := by
  unfold reportDone
  try dsimp only
  repeat' split
  all_goals simp

@[simp] theorem refuseGrant_keeps (result : ResultCode) (s : State) :
    (refuseGrant result s).regs.anchor = s.regs.anchor ∧ (refuseGrant result s).regs.causemask = s.regs.causemask
    ∧ (refuseGrant result s).link.state = s.link.state ∧ (refuseGrant result s).sense = s.sense
    ∧ (refuseGrant result s).power = s.power ∧ (refuseGrant result s).wm = s.wm
    ∧ (refuseGrant result s).wave = s.wave ∧ (refuseGrant result s).panel = s.panel
    ∧ (refuseGrant result s).pins = s.pins ∧ (refuseGrant result s).keys = s.keys
    ∧ (refuseGrant result s).turn = s.turn ∧ (refuseGrant result s).light = s.light
    ∧ (refuseGrant result s).store.array = s.store.array ∧ (refuseGrant result s).store.blocks = s.store.blocks
    ∧ (refuseGrant result s).shared = s.shared ∧ (refuseGrant result s).pending = s.pending := by
  unfold refuseGrant
  try dsimp only
  all_goals simp

@[simp] theorem grantExecutor_keeps (r : ExRequest) (s : State) :
    (grantExecutor r s).regs.anchor = s.regs.anchor ∧ (grantExecutor r s).regs.causemask = s.regs.causemask
    ∧ (grantExecutor r s).link.state = s.link.state ∧ (grantExecutor r s).sense = s.sense
    ∧ (grantExecutor r s).power = s.power ∧ (grantExecutor r s).wm = s.wm ∧ (grantExecutor r s).wave = s.wave
    ∧ (grantExecutor r s).panel = s.panel ∧ (grantExecutor r s).pins = s.pins ∧ (grantExecutor r s).keys = s.keys
    ∧ (grantExecutor r s).turn = s.turn ∧ (grantExecutor r s).light = s.light
    ∧ (grantExecutor r s).store.array = s.store.array ∧ (grantExecutor r s).store.blocks = s.store.blocks
    ∧ (grantExecutor r s).shared = s.shared ∧ (grantExecutor r s).pending = s.pending := by
  unfold grantExecutor
  try dsimp only
  repeat' split
  all_goals simp

@[simp] theorem grantTurn_keeps (p : Nat) (s : State) :
    (grantTurn p s).regs = s.regs ∧ (grantTurn p s).link = s.link ∧ (grantTurn p s).bus = s.bus
    ∧ (grantTurn p s).sense = s.sense ∧ (grantTurn p s).power = s.power ∧ (grantTurn p s).wm = s.wm
    ∧ (grantTurn p s).wave = s.wave ∧ (grantTurn p s).panel = s.panel ∧ (grantTurn p s).pins = s.pins
    ∧ (grantTurn p s).keys = s.keys ∧ (grantTurn p s).light = s.light ∧ (grantTurn p s).store.array = s.store.array
    ∧ (grantTurn p s).store.blocks = s.store.blocks ∧ (grantTurn p s).executor = s.executor
    ∧ (grantTurn p s).shared = s.shared ∧ (grantTurn p s).pending = s.pending := by
  unfold grantTurn
  try dsimp only
  repeat' split
  all_goals simp

@[simp] theorem grantWave_keeps (p : Nat) (s : State) :
    (grantWave p s).regs = s.regs ∧ (grantWave p s).link = s.link ∧ (grantWave p s).bus = s.bus
    ∧ (grantWave p s).sense = s.sense ∧ (grantWave p s).power = s.power ∧ (grantWave p s).wm = s.wm
    ∧ (grantWave p s).wave = s.wave ∧ (grantWave p s).panel = s.panel ∧ (grantWave p s).pins = s.pins
    ∧ (grantWave p s).keys = s.keys ∧ (grantWave p s).turn = s.turn ∧ (grantWave p s).light = s.light
    ∧ (grantWave p s).store.array = s.store.array ∧ (grantWave p s).store.blocks = s.store.blocks
    ∧ (grantWave p s).executor = s.executor ∧ (grantWave p s).shared = s.shared
    ∧ (grantWave p s).pending = s.pending := by
  unfold grantWave
  try dsimp only
  all_goals simp

@[simp] theorem chooseOperation_keeps (s : State) :
    (chooseOperation s).regs.anchor = s.regs.anchor ∧ (chooseOperation s).regs.causemask = s.regs.causemask
    ∧ (chooseOperation s).link.state = s.link.state ∧ (chooseOperation s).sense = s.sense
    ∧ (chooseOperation s).power = s.power ∧ (chooseOperation s).wm = s.wm ∧ (chooseOperation s).wave = s.wave
    ∧ (chooseOperation s).panel = s.panel ∧ (chooseOperation s).pins = s.pins ∧ (chooseOperation s).keys = s.keys
    ∧ (chooseOperation s).light = s.light ∧ (chooseOperation s).store.array = s.store.array
    ∧ (chooseOperation s).store.blocks = s.store.blocks ∧ (chooseOperation s).shared = s.shared
    ∧ (chooseOperation s).pending = s.pending := by
  unfold chooseOperation
  try dsimp only
  repeat' split
  all_goals simp

@[simp] theorem chooseDuringErase_keeps (e : Erase) (s : State) :
    (chooseDuringErase e s).regs = s.regs ∧ (chooseDuringErase e s).link = s.link
    ∧ (chooseDuringErase e s).bus = s.bus ∧ (chooseDuringErase e s).sense = s.sense
    ∧ (chooseDuringErase e s).power = s.power ∧ (chooseDuringErase e s).wm = s.wm
    ∧ (chooseDuringErase e s).wave = s.wave ∧ (chooseDuringErase e s).panel = s.panel
    ∧ (chooseDuringErase e s).pins = s.pins ∧ (chooseDuringErase e s).keys = s.keys
    ∧ (chooseDuringErase e s).light = s.light ∧ (chooseDuringErase e s).store.array = s.store.array
    ∧ (chooseDuringErase e s).store.blocks = s.store.blocks ∧ (chooseDuringErase e s).executor = s.executor
    ∧ (chooseDuringErase e s).shared = s.shared ∧ (chooseDuringErase e s).pending = s.pending := by
  unfold chooseDuringErase
  try dsimp only
  repeat' split
  all_goals simp

@[simp] theorem serveOnce_keeps (s : State) :
    (serveOnce s).regs.anchor = s.regs.anchor ∧ (serveOnce s).regs.causemask = s.regs.causemask
    ∧ (serveOnce s).link.state = s.link.state ∧ (serveOnce s).sense = s.sense
    ∧ (serveOnce s).power.cls = s.power.cls ∧ (serveOnce s).power.state = s.power.state
    ∧ (serveOnce s).power.vddMain = s.power.vddMain ∧ (serveOnce s).wm.panel = s.wm.panel
    ∧ (serveOnce s).wave = s.wave ∧ (serveOnce s).panel = s.panel ∧ (serveOnce s).pins = s.pins
    ∧ (serveOnce s).keys = s.keys ∧ (serveOnce s).light = s.light ∧ (serveOnce s).store.array = s.store.array
    ∧ (serveOnce s).store.blocks = s.store.blocks ∧ (serveOnce s).shared = s.shared
    ∧ (serveOnce s).pending = s.pending := by
  unfold serveOnce
  try dsimp only
  repeat' split
  all_goals simp

@[simp] theorem serveStore_keeps (s : State) :
    (serveStore s).regs.anchor = s.regs.anchor ∧ (serveStore s).regs.causemask = s.regs.causemask
    ∧ (serveStore s).link.state = s.link.state ∧ (serveStore s).sense = s.sense
    ∧ (serveStore s).power.cls = s.power.cls ∧ (serveStore s).power.state = s.power.state
    ∧ (serveStore s).power.vddMain = s.power.vddMain ∧ (serveStore s).wm.panel = s.wm.panel
    ∧ (serveStore s).wave = s.wave ∧ (serveStore s).panel = s.panel ∧ (serveStore s).pins = s.pins
    ∧ (serveStore s).keys = s.keys ∧ (serveStore s).light = s.light ∧ (serveStore s).store.array = s.store.array
    ∧ (serveStore s).store.blocks = s.store.blocks ∧ (serveStore s).shared = s.shared
    ∧ (serveStore s).pending = s.pending := by
  unfold serveStore
  try dsimp only
  all_goals simp

@[simp] theorem powerOffArray_keeps (s : State) :
    (powerOffArray s).regs = s.regs ∧ (powerOffArray s).link = s.link ∧ (powerOffArray s).bus = s.bus
    ∧ (powerOffArray s).sense = s.sense ∧ (powerOffArray s).power = s.power ∧ (powerOffArray s).wm = s.wm
    ∧ (powerOffArray s).wave = s.wave ∧ (powerOffArray s).panel = s.panel ∧ (powerOffArray s).pins = s.pins
    ∧ (powerOffArray s).keys = s.keys ∧ (powerOffArray s).turn = s.turn ∧ (powerOffArray s).light = s.light
    ∧ (powerOffArray s).store.array = s.store.array ∧ (powerOffArray s).store.blocks = s.store.blocks
    ∧ (powerOffArray s).executor = s.executor ∧ (powerOffArray s).shared = s.shared
    ∧ (powerOffArray s).pending = s.pending := by
  unfold powerOffArray
  try dsimp only
  all_goals simp

@[simp] theorem endOp_keeps (s : State) :
    (endOp s).regs = s.regs ∧ (endOp s).link = s.link ∧ (endOp s).bus = s.bus ∧ (endOp s).sense = s.sense
    ∧ (endOp s).power = s.power ∧ (endOp s).wm = s.wm ∧ (endOp s).wave = s.wave ∧ (endOp s).panel = s.panel
    ∧ (endOp s).pins = s.pins ∧ (endOp s).keys = s.keys ∧ (endOp s).turn = s.turn ∧ (endOp s).light = s.light
    ∧ (endOp s).store.array = s.store.array ∧ (endOp s).store.blocks = s.store.blocks
    ∧ (endOp s).executor = s.executor ∧ (endOp s).shared = s.shared ∧ (endOp s).pending = s.pending := by
  unfold endOp
  try dsimp only
  all_goals simp

@[simp] theorem deliverRead_keeps (c : ArrayClient) (data : Option (List Byte)) (erased : Bool) (s : State) :
    (deliverRead c data erased s).regs.anchor = s.regs.anchor
    ∧ (deliverRead c data erased s).regs.causemask = s.regs.causemask
    ∧ (deliverRead c data erased s).link.state = s.link.state ∧ (deliverRead c data erased s).sense = s.sense
    ∧ (deliverRead c data erased s).power = s.power ∧ (deliverRead c data erased s).wm.panel = s.wm.panel
    ∧ (deliverRead c data erased s).panel = s.panel ∧ (deliverRead c data erased s).pins = s.pins
    ∧ (deliverRead c data erased s).keys = s.keys ∧ (deliverRead c data erased s).light = s.light
    ∧ (deliverRead c data erased s).store.array = s.store.array
    ∧ (deliverRead c data erased s).store.blocks = s.store.blocks ∧ (deliverRead c data erased s).shared = s.shared
    ∧ (deliverRead c data erased s).pending = s.pending := by
  unfold deliverRead
  try dsimp only
  repeat' split
  all_goals simp

@[simp] theorem finishRead_keeps (c : ArrayClient) (data : Option (List Byte)) (erased : Bool) (s : State) :
    (finishRead c data erased s).regs.anchor = s.regs.anchor
    ∧ (finishRead c data erased s).regs.causemask = s.regs.causemask
    ∧ (finishRead c data erased s).link.state = s.link.state ∧ (finishRead c data erased s).sense = s.sense
    ∧ (finishRead c data erased s).power.cls = s.power.cls
    ∧ (finishRead c data erased s).power.state = s.power.state
    ∧ (finishRead c data erased s).power.vddMain = s.power.vddMain
    ∧ (finishRead c data erased s).wm.panel = s.wm.panel ∧ (finishRead c data erased s).panel = s.panel
    ∧ (finishRead c data erased s).pins = s.pins ∧ (finishRead c data erased s).keys = s.keys
    ∧ (finishRead c data erased s).light = s.light ∧ (finishRead c data erased s).store.array = s.store.array
    ∧ (finishRead c data erased s).store.blocks = s.store.blocks ∧ (finishRead c data erased s).shared = s.shared
    ∧ (finishRead c data erased s).pending = s.pending := by
  unfold finishRead
  try dsimp only
  all_goals simp

@[simp] theorem readMismatch_keeps (c : ArrayClient) (p : Nat) (second : Bool) (s : State) :
    (readMismatch c p second s).regs.anchor = s.regs.anchor
    ∧ (readMismatch c p second s).regs.causemask = s.regs.causemask
    ∧ (readMismatch c p second s).link.state = s.link.state ∧ (readMismatch c p second s).sense = s.sense
    ∧ (readMismatch c p second s).power.cls = s.power.cls ∧ (readMismatch c p second s).power.state = s.power.state
    ∧ (readMismatch c p second s).power.vddMain = s.power.vddMain
    ∧ (readMismatch c p second s).wm.panel = s.wm.panel ∧ (readMismatch c p second s).panel = s.panel
    ∧ (readMismatch c p second s).pins = s.pins ∧ (readMismatch c p second s).keys = s.keys
    ∧ (readMismatch c p second s).light = s.light ∧ (readMismatch c p second s).store.array = s.store.array
    ∧ (readMismatch c p second s).store.blocks = s.store.blocks ∧ (readMismatch c p second s).shared = s.shared
    ∧ (readMismatch c p second s).pending = s.pending := by
  unfold readMismatch
  try dsimp only
  repeat' split
  all_goals simp

@[simp] theorem markCheckPassed_keeps (s : State) :
    (markCheckPassed s).regs.anchor = s.regs.anchor ∧ (markCheckPassed s).regs.causemask = s.regs.causemask
    ∧ (markCheckPassed s).link.state = s.link.state ∧ (markCheckPassed s).sense = s.sense
    ∧ (markCheckPassed s).power = s.power ∧ (markCheckPassed s).wm = s.wm ∧ (markCheckPassed s).wave = s.wave
    ∧ (markCheckPassed s).panel = s.panel ∧ (markCheckPassed s).pins = s.pins ∧ (markCheckPassed s).keys = s.keys
    ∧ (markCheckPassed s).turn = s.turn ∧ (markCheckPassed s).light = s.light
    ∧ (markCheckPassed s).store.array = s.store.array ∧ (markCheckPassed s).store.blocks = s.store.blocks
    ∧ (markCheckPassed s).shared = s.shared ∧ (markCheckPassed s).pending = s.pending := by
  unfold markCheckPassed
  try dsimp only
  repeat' split
  all_goals simp

@[simp] theorem surveySettled_keeps (why : RawWhy) (s : State) :
    (surveySettled why s).regs.anchor = s.regs.anchor ∧ (surveySettled why s).regs.causemask = s.regs.causemask
    ∧ (surveySettled why s).link.state = s.link.state ∧ (surveySettled why s).sense = s.sense
    ∧ (surveySettled why s).power = s.power ∧ (surveySettled why s).wm = s.wm ∧ (surveySettled why s).wave = s.wave
    ∧ (surveySettled why s).panel = s.panel ∧ (surveySettled why s).pins = s.pins
    ∧ (surveySettled why s).keys = s.keys ∧ (surveySettled why s).turn = s.turn
    ∧ (surveySettled why s).light = s.light ∧ (surveySettled why s).store.array = s.store.array
    ∧ (surveySettled why s).store.blocks = s.store.blocks ∧ (surveySettled why s).shared = s.shared
    ∧ (surveySettled why s).pending = s.pending := by
  unfold surveySettled
  try dsimp only
  repeat' split
  all_goals simp

@[simp] theorem surveyFailed_keeps (why : RawWhy) (s : State) :
    (surveyFailed why s).regs.anchor = s.regs.anchor ∧ (surveyFailed why s).regs.causemask = s.regs.causemask
    ∧ (surveyFailed why s).link.state = s.link.state ∧ (surveyFailed why s).sense = s.sense
    ∧ (surveyFailed why s).power = s.power ∧ (surveyFailed why s).wm = s.wm ∧ (surveyFailed why s).wave = s.wave
    ∧ (surveyFailed why s).panel = s.panel ∧ (surveyFailed why s).pins = s.pins ∧ (surveyFailed why s).keys = s.keys
    ∧ (surveyFailed why s).turn = s.turn ∧ (surveyFailed why s).light = s.light
    ∧ (surveyFailed why s).store.array = s.store.array ∧ (surveyFailed why s).store.blocks = s.store.blocks
    ∧ (surveyFailed why s).shared = s.shared ∧ (surveyFailed why s).pending = s.pending := by
  unfold surveyFailed
  try dsimp only
  repeat' split
  all_goals simp

@[simp] theorem settleFill_keeps (b : Nat) (f : Fill) (why : RawWhy) (s : State) :
    (settleFill b f why s).regs.anchor = s.regs.anchor ∧ (settleFill b f why s).regs.causemask = s.regs.causemask
    ∧ (settleFill b f why s).link.state = s.link.state ∧ (settleFill b f why s).sense = s.sense
    ∧ (settleFill b f why s).power = s.power ∧ (settleFill b f why s).wm = s.wm
    ∧ (settleFill b f why s).wave = s.wave ∧ (settleFill b f why s).panel = s.panel
    ∧ (settleFill b f why s).pins = s.pins ∧ (settleFill b f why s).keys = s.keys
    ∧ (settleFill b f why s).turn = s.turn ∧ (settleFill b f why s).light = s.light
    ∧ (settleFill b f why s).store.array = s.store.array ∧ (settleFill b f why s).shared = s.shared
    ∧ (settleFill b f why s).pending = s.pending := by
  unfold settleFill
  try dsimp only
  all_goals simp

@[simp] theorem surveyPage_keeps (p : Nat) (why : RawWhy) (page : RawPage) (s : State) :
    (surveyPage p why page s).regs.anchor = s.regs.anchor
    ∧ (surveyPage p why page s).regs.causemask = s.regs.causemask
    ∧ (surveyPage p why page s).link.state = s.link.state ∧ (surveyPage p why page s).sense = s.sense
    ∧ (surveyPage p why page s).power = s.power ∧ (surveyPage p why page s).wm = s.wm
    ∧ (surveyPage p why page s).wave = s.wave ∧ (surveyPage p why page s).panel = s.panel
    ∧ (surveyPage p why page s).pins = s.pins ∧ (surveyPage p why page s).keys = s.keys
    ∧ (surveyPage p why page s).turn = s.turn ∧ (surveyPage p why page s).light = s.light
    ∧ (surveyPage p why page s).store.array = s.store.array ∧ (surveyPage p why page s).shared = s.shared
    ∧ (surveyPage p why page s).pending = s.pending := by
  unfold surveyPage
  try dsimp only
  repeat' split
  all_goals simp

@[simp] theorem programSucceeded_keeps (p : Nat) (data : List Byte) (s : State) :
    (programSucceeded p data s).regs.anchor = s.regs.anchor
    ∧ (programSucceeded p data s).regs.causemask = s.regs.causemask
    ∧ (programSucceeded p data s).link.state = s.link.state ∧ (programSucceeded p data s).sense = s.sense
    ∧ (programSucceeded p data s).power = s.power ∧ (programSucceeded p data s).wm = s.wm
    ∧ (programSucceeded p data s).wave = s.wave ∧ (programSucceeded p data s).panel = s.panel
    ∧ (programSucceeded p data s).pins = s.pins ∧ (programSucceeded p data s).keys = s.keys
    ∧ (programSucceeded p data s).turn = s.turn ∧ (programSucceeded p data s).light = s.light
    ∧ (programSucceeded p data s).shared = s.shared ∧ (programSucceeded p data s).pending = s.pending := by
  unfold programSucceeded
  try dsimp only
  all_goals simp

@[simp] theorem programFailed_keeps (p : Nat) (s : State) :
    (programFailed p s).regs = s.regs ∧ (programFailed p s).link = s.link ∧ (programFailed p s).bus = s.bus
    ∧ (programFailed p s).sense = s.sense ∧ (programFailed p s).power = s.power ∧ (programFailed p s).wm = s.wm
    ∧ (programFailed p s).wave = s.wave ∧ (programFailed p s).panel = s.panel ∧ (programFailed p s).pins = s.pins
    ∧ (programFailed p s).keys = s.keys ∧ (programFailed p s).turn = s.turn ∧ (programFailed p s).light = s.light
    ∧ (programFailed p s).store.blocks = s.store.blocks ∧ (programFailed p s).shared = s.shared
    ∧ (programFailed p s).pending = s.pending := by
  unfold programFailed
  try dsimp only
  all_goals simp

@[simp] theorem eraseSucceeded_keeps (b : Nat) (s : State) :
    (eraseSucceeded b s).regs.anchor = s.regs.anchor ∧ (eraseSucceeded b s).regs.causemask = s.regs.causemask
    ∧ (eraseSucceeded b s).link.state = s.link.state ∧ (eraseSucceeded b s).sense = s.sense
    ∧ (eraseSucceeded b s).power = s.power ∧ (eraseSucceeded b s).wm = s.wm ∧ (eraseSucceeded b s).wave = s.wave
    ∧ (eraseSucceeded b s).panel = s.panel ∧ (eraseSucceeded b s).pins = s.pins ∧ (eraseSucceeded b s).keys = s.keys
    ∧ (eraseSucceeded b s).turn = s.turn ∧ (eraseSucceeded b s).light = s.light
    ∧ (eraseSucceeded b s).shared = s.shared ∧ (eraseSucceeded b s).pending = s.pending := by
  unfold eraseSucceeded
  try dsimp only
  all_goals simp

@[simp] theorem eraseFailed_keeps (b : Nat) (s : State) :
    (eraseFailed b s).regs = s.regs ∧ (eraseFailed b s).link = s.link ∧ (eraseFailed b s).bus = s.bus
    ∧ (eraseFailed b s).sense = s.sense ∧ (eraseFailed b s).power = s.power ∧ (eraseFailed b s).wm = s.wm
    ∧ (eraseFailed b s).wave = s.wave ∧ (eraseFailed b s).panel = s.panel ∧ (eraseFailed b s).pins = s.pins
    ∧ (eraseFailed b s).keys = s.keys ∧ (eraseFailed b s).turn = s.turn ∧ (eraseFailed b s).light = s.light
    ∧ (eraseFailed b s).store.blocks = s.store.blocks ∧ (eraseFailed b s).shared = s.shared
    ∧ (eraseFailed b s).pending = s.pending := by
  unfold eraseFailed
  try dsimp only
  all_goals simp

@[simp] theorem markEnded_keeps (b : Nat) (success : Bool) (s : State) :
    (markEnded b success s).regs.anchor = s.regs.anchor ∧ (markEnded b success s).regs.causemask = s.regs.causemask
    ∧ (markEnded b success s).link.state = s.link.state ∧ (markEnded b success s).sense = s.sense
    ∧ (markEnded b success s).power = s.power ∧ (markEnded b success s).wm = s.wm
    ∧ (markEnded b success s).wave = s.wave ∧ (markEnded b success s).panel = s.panel
    ∧ (markEnded b success s).pins = s.pins ∧ (markEnded b success s).keys = s.keys
    ∧ (markEnded b success s).turn = s.turn ∧ (markEnded b success s).light = s.light
    ∧ (markEnded b success s).shared = s.shared ∧ (markEnded b success s).pending = s.pending := by
  unfold markEnded
  try dsimp only
  repeat' split
  all_goals simp

@[simp] theorem discardPresses_turnEnd_keeps (s : State) :
    (discardPresses turnEndCause .turnEnd s).regs.anchor = s.regs.anchor
    ∧ (discardPresses turnEndCause .turnEnd s).regs.causemask = s.regs.causemask
    ∧ (discardPresses turnEndCause .turnEnd s).link = s.link ∧ (discardPresses turnEndCause .turnEnd s).bus = s.bus
    ∧ (discardPresses turnEndCause .turnEnd s).power.cls = s.power.cls
    ∧ (discardPresses turnEndCause .turnEnd s).power.vddMain = s.power.vddMain
    ∧ (discardPresses turnEndCause .turnEnd s).wm.panel = s.wm.panel
    ∧ (discardPresses turnEndCause .turnEnd s).wave = s.wave
    ∧ (discardPresses turnEndCause .turnEnd s).pins = s.pins
    ∧ (discardPresses turnEndCause .turnEnd s).keys = s.keys
    ∧ (discardPresses turnEndCause .turnEnd s).light = s.light
    ∧ (discardPresses turnEndCause .turnEnd s).store = s.store
    ∧ (discardPresses turnEndCause .turnEnd s).executor = s.executor
    ∧ (discardPresses turnEndCause .turnEnd s).shared = s.shared
    ∧ (discardPresses turnEndCause .turnEnd s).pending = s.pending := by
  simp [discardPresses]

@[simp] theorem discardPresses_turnError_keeps (s : State) :
    (discardPresses turnErrorCause .turnError s).regs.anchor = s.regs.anchor
    ∧ (discardPresses turnErrorCause .turnError s).regs.causemask = s.regs.causemask
    ∧ (discardPresses turnErrorCause .turnError s).link = s.link
    ∧ (discardPresses turnErrorCause .turnError s).bus = s.bus
    ∧ (discardPresses turnErrorCause .turnError s).power.cls = s.power.cls
    ∧ (discardPresses turnErrorCause .turnError s).power.vddMain = s.power.vddMain
    ∧ (discardPresses turnErrorCause .turnError s).wm.panel = s.wm.panel
    ∧ (discardPresses turnErrorCause .turnError s).wave = s.wave
    ∧ (discardPresses turnErrorCause .turnError s).pins = s.pins
    ∧ (discardPresses turnErrorCause .turnError s).keys = s.keys
    ∧ (discardPresses turnErrorCause .turnError s).light = s.light
    ∧ (discardPresses turnErrorCause .turnError s).store = s.store
    ∧ (discardPresses turnErrorCause .turnError s).executor = s.executor
    ∧ (discardPresses turnErrorCause .turnError s).shared = s.shared
    ∧ (discardPresses turnErrorCause .turnError s).pending = s.pending := by
  simp [discardPresses]

@[simp] theorem startTurn_keeps (key : TurnKey) (target : Nat) (e : TurnEntry) (f : Frame) (s : State) :
    (startTurn key target e f s).regs.anchor = s.regs.anchor
    ∧ (startTurn key target e f s).regs.causemask = s.regs.causemask
    ∧ (startTurn key target e f s).link.state = s.link.state ∧ (startTurn key target e f s).sense = s.sense
    ∧ (startTurn key target e f s).power.cls = s.power.cls
    ∧ (startTurn key target e f s).power.state = s.power.state
    ∧ (startTurn key target e f s).power.vddMain = s.power.vddMain
    ∧ (startTurn key target e f s).wm.panel = s.wm.panel ∧ (startTurn key target e f s).wave = s.wave
    ∧ (startTurn key target e f s).panel = s.panel ∧ (startTurn key target e f s).pins = s.pins
    ∧ (startTurn key target e f s).keys = s.keys ∧ (startTurn key target e f s).light = s.light
    ∧ (startTurn key target e f s).store.array = s.store.array
    ∧ (startTurn key target e f s).store.blocks = s.store.blocks ∧ (startTurn key target e f s).shared = s.shared
    ∧ (startTurn key target e f s).pending = s.pending := by
  unfold startTurn
  try dsimp only
  all_goals simp

@[simp] theorem considerHead_keeps (s : State) :
    (considerHead s).regs.anchor = s.regs.anchor ∧ (considerHead s).regs.causemask = s.regs.causemask
    ∧ (considerHead s).link.state = s.link.state ∧ (considerHead s).power.cls = s.power.cls
    ∧ (considerHead s).power.vddMain = s.power.vddMain ∧ (considerHead s).wm.panel = s.wm.panel
    ∧ (considerHead s).wave = s.wave ∧ (considerHead s).pins = s.pins ∧ (considerHead s).keys = s.keys
    ∧ (considerHead s).light = s.light ∧ (considerHead s).store.array = s.store.array
    ∧ (considerHead s).store.blocks = s.store.blocks ∧ (considerHead s).shared = s.shared
    ∧ (considerHead s).pending = s.pending := by
  unfold considerHead
  try dsimp only
  repeat' split
  all_goals simp

@[simp] theorem joinQueue_keeps (k : TurnKey) (s : State) :
    (joinQueue k s).regs = s.regs ∧ (joinQueue k s).link = s.link ∧ (joinQueue k s).bus = s.bus
    ∧ (joinQueue k s).power.cls = s.power.cls ∧ (joinQueue k s).power.vddMain = s.power.vddMain
    ∧ (joinQueue k s).wm.panel = s.wm.panel ∧ (joinQueue k s).wave = s.wave ∧ (joinQueue k s).panel = s.panel
    ∧ (joinQueue k s).pins = s.pins ∧ (joinQueue k s).keys = s.keys ∧ (joinQueue k s).light = s.light
    ∧ (joinQueue k s).store = s.store ∧ (joinQueue k s).executor = s.executor ∧ (joinQueue k s).shared = s.shared
    ∧ (joinQueue k s).pending = s.pending := by
  unfold joinQueue
  try dsimp only
  repeat' split
  all_goals simp

@[simp] theorem settleAll_keeps (s : State) :
    (settleAll s).regs.anchor = s.regs.anchor ∧ (settleAll s).regs.causemask = s.regs.causemask
    ∧ (settleAll s).power.cls = s.power.cls ∧ (settleAll s).power.vddMain = s.power.vddMain
    ∧ (settleAll s).wm.panel = s.wm.panel ∧ (settleAll s).pins = s.pins ∧ (settleAll s).keys = s.keys
    ∧ (settleAll s).store.array = s.store.array ∧ (settleAll s).store.blocks = s.store.blocks
    ∧ (settleAll s).shared = s.shared ∧ (settleAll s).pending = s.pending := by
  unfold settleAll
  try dsimp only
  all_goals simp

@[simp] theorem failTurn_keeps (s : State) :
    (failTurn s).regs.anchor = s.regs.anchor ∧ (failTurn s).regs.causemask = s.regs.causemask
    ∧ (failTurn s).link = s.link ∧ (failTurn s).bus = s.bus ∧ (failTurn s).power.cls = s.power.cls
    ∧ (failTurn s).power.vddMain = s.power.vddMain ∧ (failTurn s).wm.panel = s.wm.panel ∧ (failTurn s).wave = s.wave
    ∧ (failTurn s).pins = s.pins ∧ (failTurn s).keys = s.keys ∧ (failTurn s).light = s.light
    ∧ (failTurn s).store.array = s.store.array ∧ (failTurn s).store.blocks = s.store.blocks
    ∧ (failTurn s).executor = s.executor ∧ (failTurn s).shared = s.shared ∧ (failTurn s).pending = s.pending := by
  unfold failTurn
  try dsimp only
  all_goals simp

@[simp] theorem writeDecoded_keeps (s : State) :
    (writeDecoded s).regs = s.regs ∧ (writeDecoded s).link = s.link ∧ (writeDecoded s).bus = s.bus
    ∧ (writeDecoded s).sense = s.sense ∧ (writeDecoded s).power = s.power ∧ (writeDecoded s).wm.panel = s.wm.panel
    ∧ (writeDecoded s).wave = s.wave ∧ (writeDecoded s).panel = s.panel ∧ (writeDecoded s).pins = s.pins
    ∧ (writeDecoded s).keys = s.keys ∧ (writeDecoded s).turn = s.turn ∧ (writeDecoded s).light = s.light
    ∧ (writeDecoded s).store = s.store ∧ (writeDecoded s).executor = s.executor ∧ (writeDecoded s).shared = s.shared
    ∧ (writeDecoded s).pending = s.pending := by
  unfold writeDecoded
  try dsimp only
  all_goals simp

@[simp] theorem beginOffer_keeps (s : State) :
    (beginOffer s).regs = s.regs ∧ (beginOffer s).link = s.link ∧ (beginOffer s).bus = s.bus
    ∧ (beginOffer s).sense = s.sense ∧ (beginOffer s).power = s.power ∧ (beginOffer s).wm = s.wm
    ∧ (beginOffer s).wave = s.wave ∧ (beginOffer s).panel = s.panel ∧ (beginOffer s).pins = s.pins
    ∧ (beginOffer s).keys = s.keys ∧ (beginOffer s).light = s.light ∧ (beginOffer s).store = s.store
    ∧ (beginOffer s).executor = s.executor ∧ (beginOffer s).shared = s.shared ∧ (beginOffer s).pending = s.pending := by
  unfold beginOffer
  try dsimp only
  all_goals simp

@[simp] theorem replaceList_keeps (b : List Byte) (entries : List TurnEntry) (s : State) :
    (replaceList b entries s).regs.anchor = s.regs.anchor
    ∧ (replaceList b entries s).regs.causemask = s.regs.causemask
    ∧ (replaceList b entries s).link.state = s.link.state ∧ (replaceList b entries s).sense = s.sense
    ∧ (replaceList b entries s).power.cls = s.power.cls ∧ (replaceList b entries s).power.state = s.power.state
    ∧ (replaceList b entries s).power.vddMain = s.power.vddMain ∧ (replaceList b entries s).wm.panel = s.wm.panel
    ∧ (replaceList b entries s).wave = s.wave ∧ (replaceList b entries s).panel = s.panel
    ∧ (replaceList b entries s).pins = s.pins ∧ (replaceList b entries s).keys = s.keys
    ∧ (replaceList b entries s).light = s.light ∧ (replaceList b entries s).store.array = s.store.array
    ∧ (replaceList b entries s).store.blocks = s.store.blocks ∧ (replaceList b entries s).shared = s.shared
    ∧ (replaceList b entries s).pending = s.pending := by
  unfold replaceList
  try dsimp only
  all_goals simp

@[simp] theorem endTurnLoad_keeps (result : ResultCode) (progress : Nat) (s : State) :
    (endTurnLoad result progress s).regs.anchor = s.regs.anchor
    ∧ (endTurnLoad result progress s).regs.causemask = s.regs.causemask
    ∧ (endTurnLoad result progress s).link.state = s.link.state
    ∧ (endTurnLoad result progress s).power.cls = s.power.cls
    ∧ (endTurnLoad result progress s).power.vddMain = s.power.vddMain
    ∧ (endTurnLoad result progress s).wm.panel = s.wm.panel ∧ (endTurnLoad result progress s).wave = s.wave
    ∧ (endTurnLoad result progress s).pins = s.pins ∧ (endTurnLoad result progress s).keys = s.keys
    ∧ (endTurnLoad result progress s).light = s.light ∧ (endTurnLoad result progress s).store.array = s.store.array
    ∧ (endTurnLoad result progress s).store.blocks = s.store.blocks
    ∧ (endTurnLoad result progress s).shared = s.shared ∧ (endTurnLoad result progress s).pending = s.pending := by
  unfold endTurnLoad
  try dsimp only
  repeat' split
  all_goals simp

@[simp] theorem takeEntries_keeps (l : TurnLoad) (a : List Byte) (s : State) :
    (takeEntries l a s).regs.anchor = s.regs.anchor ∧ (takeEntries l a s).regs.causemask = s.regs.causemask
    ∧ (takeEntries l a s).link.state = s.link.state ∧ (takeEntries l a s).power.cls = s.power.cls
    ∧ (takeEntries l a s).power.vddMain = s.power.vddMain ∧ (takeEntries l a s).wm.panel = s.wm.panel
    ∧ (takeEntries l a s).wave = s.wave ∧ (takeEntries l a s).pins = s.pins ∧ (takeEntries l a s).keys = s.keys
    ∧ (takeEntries l a s).light = s.light ∧ (takeEntries l a s).store.array = s.store.array
    ∧ (takeEntries l a s).store.blocks = s.store.blocks ∧ (takeEntries l a s).shared = s.shared
    ∧ (takeEntries l a s).pending = s.pending := by
  unfold takeEntries
  try dsimp only
  repeat' split
  all_goals simp

@[simp] theorem fullReset_keeps (s : State) :
    (fullReset s).pins = s.pins ∧ (fullReset s).shared = s.shared ∧ (fullReset s).pending = s.pending := by
  unfold fullReset
  try dsimp only
  all_goals simp

@[simp] theorem sweepEvents_keeps (full : Bool) (s : State) :
    (sweepEvents full s).regs.anchor = s.regs.anchor ∧ (sweepEvents full s).regs.causemask = s.regs.causemask
    ∧ (sweepEvents full s).power.vddMain = s.power.vddMain ∧ (sweepEvents full s).wm.panel = s.wm.panel
    ∧ (sweepEvents full s).pins = s.pins ∧ (sweepEvents full s).keys = s.keys
    ∧ (sweepEvents full s).store.array = s.store.array ∧ (sweepEvents full s).store.blocks = s.store.blocks
    ∧ (sweepEvents full s).shared = s.shared ∧ (sweepEvents full s).pending = s.pending := by
  unfold sweepEvents
  try dsimp only
  repeat' split
  all_goals simp

@[simp] theorem endSweep_keeps (full : Bool) (s : State) :
    (endSweep full s).regs.anchor = s.regs.anchor ∧ (endSweep full s).regs.causemask = s.regs.causemask
    ∧ (endSweep full s).power.vddMain = s.power.vddMain ∧ (endSweep full s).wm.panel = s.wm.panel
    ∧ (endSweep full s).pins = s.pins ∧ (endSweep full s).keys = s.keys
    ∧ (endSweep full s).store.array = s.store.array ∧ (endSweep full s).store.blocks = s.store.blocks
    ∧ (endSweep full s).shared = s.shared ∧ (endSweep full s).pending = s.pending := by
  unfold endSweep
  try dsimp only
  all_goals simp

end Sys2Proof.Machine
end

