-- ==== Sys2Proof/Laws/StepFrames.lean ====
section
/-!
SUPPORT. What each operation of the operations of the steps leaves alone: one lemma for each operation.
-/

namespace Sys2Proof.Machine

open Sys2Proof

@[simp] theorem wordWrite_keeps (offset : Nat) (value : Word) (s : State) :
    (wordWrite offset value s).power.cls = s.power.cls ∧ (wordWrite offset value s).pins = s.pins
    ∧ (wordWrite offset value s).keys = s.keys ∧ (wordWrite offset value s).shared = s.shared
    ∧ (wordWrite offset value s).pending = s.pending := by
  unfold wordWrite
  try dsimp only
  repeat' split
  all_goals simp

@[simp] theorem anchorRead_keeps (addr : Word) (answer : BusRead) (s : State) :
    (anchorRead addr answer s).regs.anchor = s.regs.anchor
    ∧ (anchorRead addr answer s).regs.causemask = s.regs.causemask ∧ (anchorRead addr answer s).sense = s.sense
    ∧ (anchorRead addr answer s).power = s.power ∧ (anchorRead addr answer s).wm.panel = s.wm.panel
    ∧ (anchorRead addr answer s).wave = s.wave ∧ (anchorRead addr answer s).pins = s.pins
    ∧ (anchorRead addr answer s).keys = s.keys ∧ (anchorRead addr answer s).light = s.light
    ∧ (anchorRead addr answer s).store = s.store ∧ (anchorRead addr answer s).executor = s.executor
    ∧ (anchorRead addr answer s).shared = s.shared ∧ (anchorRead addr answer s).pending = s.pending := by
  unfold anchorRead
  try dsimp only
  repeat' split
  all_goals simp

@[simp] theorem pageWritten_keeps (busError : Bool) (page : Option (List Byte)) (s : State) :
    (pageWritten busError page s).regs = s.regs ∧ (pageWritten busError page s).link = s.link
    ∧ (pageWritten busError page s).bus = s.bus ∧ (pageWritten busError page s).sense = s.sense
    ∧ (pageWritten busError page s).power = s.power ∧ (pageWritten busError page s).wm = s.wm
    ∧ (pageWritten busError page s).wave = s.wave ∧ (pageWritten busError page s).panel = s.panel
    ∧ (pageWritten busError page s).pins = s.pins ∧ (pageWritten busError page s).keys = s.keys
    ∧ (pageWritten busError page s).turn = s.turn ∧ (pageWritten busError page s).light = s.light
    ∧ (pageWritten busError page s).store = s.store ∧ (pageWritten busError page s).executor = s.executor
    ∧ (pageWritten busError page s).pending = s.pending := by
  unfold pageWritten
  try dsimp only
  repeat' split
  all_goals simp

@[simp] theorem zeroTaken_keeps (w : Sweep) (raw : Nat) (s : State) :
    (zeroTaken w raw s).regs = s.regs ∧ (zeroTaken w raw s).link = s.link ∧ (zeroTaken w raw s).bus = s.bus
    ∧ (zeroTaken w raw s).power = s.power ∧ (zeroTaken w raw s).wm = s.wm ∧ (zeroTaken w raw s).wave = s.wave
    ∧ (zeroTaken w raw s).panel = s.panel ∧ (zeroTaken w raw s).pins = s.pins ∧ (zeroTaken w raw s).keys = s.keys
    ∧ (zeroTaken w raw s).turn = s.turn ∧ (zeroTaken w raw s).light = s.light ∧ (zeroTaken w raw s).store = s.store
    ∧ (zeroTaken w raw s).executor = s.executor ∧ (zeroTaken w raw s).shared = s.shared
    ∧ (zeroTaken w raw s).pending = s.pending := by
  unfold zeroTaken
  try dsimp only
  repeat' split
  all_goals simp

@[simp] theorem signalTaken_keeps (w : Sweep) (raw : Nat) (s : State) :
    (signalTaken w raw s).regs.anchor = s.regs.anchor ∧ (signalTaken w raw s).regs.causemask = s.regs.causemask
    ∧ (signalTaken w raw s).power.vddMain = s.power.vddMain ∧ (signalTaken w raw s).wm.panel = s.wm.panel
    ∧ (signalTaken w raw s).pins = s.pins ∧ (signalTaken w raw s).keys = s.keys
    ∧ (signalTaken w raw s).store.array = s.store.array ∧ (signalTaken w raw s).store.blocks = s.store.blocks
    ∧ (signalTaken w raw s).shared = s.shared ∧ (signalTaken w raw s).pending = s.pending := by
  unfold signalTaken
  try dsimp only
  repeat' split
  all_goals simp

@[simp] theorem applySetup_keeps (r : RecordCopy) (s : State) :
    (applySetup r s).regs.anchor = s.regs.anchor ∧ (applySetup r s).regs.causemask = s.regs.causemask
    ∧ (applySetup r s).link.state = s.link.state ∧ (applySetup r s).power = s.power ∧ (applySetup r s).wm = s.wm
    ∧ (applySetup r s).wave = s.wave ∧ (applySetup r s).panel = s.panel ∧ (applySetup r s).pins = s.pins
    ∧ (applySetup r s).keys = s.keys ∧ (applySetup r s).turn = s.turn ∧ (applySetup r s).light = s.light
    ∧ (applySetup r s).store = s.store ∧ (applySetup r s).executor = s.executor ∧ (applySetup r s).shared = s.shared
    ∧ (applySetup r s).pending = s.pending := by
  unfold applySetup
  try dsimp only
  repeat' split
  all_goals simp

@[simp] theorem enterDozeEntry_keeps (s : State) :
    (enterDozeEntry s).regs = s.regs ∧ (enterDozeEntry s).link = s.link ∧ (enterDozeEntry s).bus = s.bus
    ∧ (enterDozeEntry s).power.cls = s.power.cls ∧ (enterDozeEntry s).power.vddMain = s.power.vddMain
    ∧ (enterDozeEntry s).wm = s.wm ∧ (enterDozeEntry s).wave = s.wave ∧ (enterDozeEntry s).pins = s.pins
    ∧ (enterDozeEntry s).keys = s.keys ∧ (enterDozeEntry s).turn = s.turn ∧ (enterDozeEntry s).light = s.light
    ∧ (enterDozeEntry s).store = s.store ∧ (enterDozeEntry s).executor = s.executor
    ∧ (enterDozeEntry s).shared = s.shared ∧ (enterDozeEntry s).pending = s.pending := by
  unfold enterDozeEntry
  try dsimp only
  all_goals simp

@[simp] theorem acceptSleep_keeps (r : RecordCopy) (d : SleepDepth) (s : State) :
    (acceptSleep r d s).regs.anchor = s.regs.anchor ∧ (acceptSleep r d s).regs.causemask = s.regs.causemask
    ∧ (acceptSleep r d s).power.cls = s.power.cls ∧ (acceptSleep r d s).power.vddMain = s.power.vddMain
    ∧ (acceptSleep r d s).wm.panel = s.wm.panel ∧ (acceptSleep r d s).wave = s.wave
    ∧ (acceptSleep r d s).pins = s.pins ∧ (acceptSleep r d s).keys = s.keys ∧ (acceptSleep r d s).store = s.store
    ∧ (acceptSleep r d s).executor = s.executor ∧ (acceptSleep r d s).shared = s.shared
    ∧ (acceptSleep r d s).pending = s.pending := by
  unfold acceptSleep
  try dsimp only
  repeat' split
  all_goals simp

@[simp] theorem sleepChecks_keeps (r : RecordCopy) (s : State) :
    (sleepChecks r s).regs.anchor = s.regs.anchor ∧ (sleepChecks r s).regs.causemask = s.regs.causemask
    ∧ (sleepChecks r s).power.cls = s.power.cls ∧ (sleepChecks r s).power.vddMain = s.power.vddMain
    ∧ (sleepChecks r s).wm.panel = s.wm.panel ∧ (sleepChecks r s).wave = s.wave ∧ (sleepChecks r s).pins = s.pins
    ∧ (sleepChecks r s).keys = s.keys ∧ (sleepChecks r s).store = s.store ∧ (sleepChecks r s).executor = s.executor
    ∧ (sleepChecks r s).shared = s.shared ∧ (sleepChecks r s).pending = s.pending := by
  unfold sleepChecks
  try dsimp only
  repeat' split
  all_goals simp

@[simp] theorem enterDeep_keeps (s : State) :
    (enterDeep s).regs = s.regs ∧ (enterDeep s).power.cls = s.power.cls ∧ (enterDeep s).pins = s.pins
    ∧ (enterDeep s).keys = s.keys ∧ (enterDeep s).light = s.light ∧ (enterDeep s).shared = s.shared
    ∧ (enterDeep s).pending = s.pending := by
  unfold enterDeep
  try dsimp only
  all_goals simp

@[simp] theorem takeRemembered_keeps (s : State) :
    (takeRemembered s).regs.anchor = s.regs.anchor ∧ (takeRemembered s).regs.causemask = s.regs.causemask
    ∧ (takeRemembered s).power.cls = s.power.cls ∧ (takeRemembered s).pins = s.pins
    ∧ (takeRemembered s).keys = s.keys ∧ (takeRemembered s).light = s.light ∧ (takeRemembered s).shared = s.shared
    ∧ (takeRemembered s).pending = s.pending := by
  unfold takeRemembered
  try dsimp only
  repeat' split
  all_goals simp

@[simp] theorem reachRun_keeps (s : State) :
    (reachRun s).regs.anchor = s.regs.anchor ∧ (reachRun s).regs.causemask = s.regs.causemask
    ∧ (reachRun s).power.cls = s.power.cls ∧ (reachRun s).power.vddMain = s.power.vddMain ∧ (reachRun s).wm = s.wm
    ∧ (reachRun s).wave = s.wave ∧ (reachRun s).panel = s.panel ∧ (reachRun s).pins = s.pins
    ∧ (reachRun s).keys = s.keys ∧ (reachRun s).turn = s.turn ∧ (reachRun s).store = s.store
    ∧ (reachRun s).executor = s.executor ∧ (reachRun s).shared = s.shared ∧ (reachRun s).pending = s.pending := by
  unfold reachRun
  try dsimp only
  repeat' split
  all_goals simp

@[simp] theorem restartDoze_keeps (s : State) :
    (restartDoze s).regs = s.regs ∧ (restartDoze s).link = s.link ∧ (restartDoze s).bus = s.bus
    ∧ (restartDoze s).sense = s.sense ∧ (restartDoze s).power.cls = s.power.cls
    ∧ (restartDoze s).power.state = s.power.state ∧ (restartDoze s).power.vddMain = s.power.vddMain
    ∧ (restartDoze s).wm = s.wm ∧ (restartDoze s).wave = s.wave ∧ (restartDoze s).panel = s.panel
    ∧ (restartDoze s).pins = s.pins ∧ (restartDoze s).keys = s.keys ∧ (restartDoze s).turn = s.turn
    ∧ (restartDoze s).light = s.light ∧ (restartDoze s).store = s.store ∧ (restartDoze s).executor = s.executor
    ∧ (restartDoze s).shared = s.shared ∧ (restartDoze s).pending = s.pending := by
  unfold restartDoze
  try dsimp only
  all_goals simp
  split <;> simp

@[simp] theorem pressFound_keeps (i : InputId) (s : State) :
    (pressFound i s).regs.anchor = s.regs.anchor ∧ (pressFound i s).regs.causemask = s.regs.causemask
    ∧ (pressFound i s).link = s.link ∧ (pressFound i s).bus = s.bus ∧ (pressFound i s).sense = s.sense
    ∧ (pressFound i s).power.cls = s.power.cls ∧ (pressFound i s).power.state = s.power.state
    ∧ (pressFound i s).power.vddMain = s.power.vddMain ∧ (pressFound i s).wm = s.wm ∧ (pressFound i s).wave = s.wave
    ∧ (pressFound i s).panel = s.panel ∧ (pressFound i s).pins = s.pins ∧ (pressFound i s).turn = s.turn
    ∧ (pressFound i s).light = s.light ∧ (pressFound i s).store = s.store ∧ (pressFound i s).executor = s.executor
    ∧ (pressFound i s).shared = s.shared ∧ (pressFound i s).pending = s.pending := by
  unfold pressFound
  try dsimp only
  repeat' split
  all_goals simp

theorem routeTurn_keeps (k : TurnKey) (r : WakeReason) (s : State) (h : r.reachesDeep = false) (h2 : r ≠ .engineReset) :
    (routeTurn k r s).regs.anchor = s.regs.anchor ∧ (routeTurn k r s).regs.causemask = s.regs.causemask
    ∧ (routeTurn k r s).link = s.link ∧ (routeTurn k r s).bus = s.bus ∧ (routeTurn k r s).power.cls = s.power.cls
    ∧ (routeTurn k r s).power.vddMain = s.power.vddMain ∧ (routeTurn k r s).wm.panel = s.wm.panel
    ∧ (routeTurn k r s).wave = s.wave ∧ (routeTurn k r s).pins = s.pins ∧ (routeTurn k r s).keys = s.keys
    ∧ (routeTurn k r s).light = s.light ∧ (routeTurn k r s).store = s.store
    ∧ (routeTurn k r s).executor = s.executor ∧ (routeTurn k r s).shared = s.shared
    ∧ (routeTurn k r s).pending = s.pending := by
  unfold routeTurn
  repeat' split
  all_goals simp [wakeEvent_soft _ _ h h2]

@[simp] theorem routeTurn_fwd_keeps (k : TurnKey) (s : State) :
    (routeTurn k .fwd s).regs.anchor = s.regs.anchor ∧ (routeTurn k .fwd s).regs.causemask = s.regs.causemask
    ∧ (routeTurn k .fwd s).link = s.link ∧ (routeTurn k .fwd s).bus = s.bus
    ∧ (routeTurn k .fwd s).power.cls = s.power.cls ∧ (routeTurn k .fwd s).power.vddMain = s.power.vddMain
    ∧ (routeTurn k .fwd s).wm.panel = s.wm.panel ∧ (routeTurn k .fwd s).wave = s.wave
    ∧ (routeTurn k .fwd s).pins = s.pins ∧ (routeTurn k .fwd s).keys = s.keys ∧ (routeTurn k .fwd s).light = s.light
    ∧ (routeTurn k .fwd s).store = s.store ∧ (routeTurn k .fwd s).executor = s.executor
    ∧ (routeTurn k .fwd s).shared = s.shared ∧ (routeTurn k .fwd s).pending = s.pending :=
  routeTurn_keeps k .fwd s rfl (by decide)

@[simp] theorem routeTurn_back_keeps (k : TurnKey) (s : State) :
    (routeTurn k .back s).regs.anchor = s.regs.anchor ∧ (routeTurn k .back s).regs.causemask = s.regs.causemask
    ∧ (routeTurn k .back s).link = s.link ∧ (routeTurn k .back s).bus = s.bus
    ∧ (routeTurn k .back s).power.cls = s.power.cls ∧ (routeTurn k .back s).power.vddMain = s.power.vddMain
    ∧ (routeTurn k .back s).wm.panel = s.wm.panel ∧ (routeTurn k .back s).wave = s.wave
    ∧ (routeTurn k .back s).pins = s.pins ∧ (routeTurn k .back s).keys = s.keys
    ∧ (routeTurn k .back s).light = s.light ∧ (routeTurn k .back s).store = s.store
    ∧ (routeTurn k .back s).executor = s.executor ∧ (routeTurn k .back s).shared = s.shared
    ∧ (routeTurn k .back s).pending = s.pending :=
  routeTurn_keeps k .back s rfl (by decide)

@[simp] theorem coverClosed_keeps (s : State) :
    (coverClosed s).regs.anchor = s.regs.anchor ∧ (coverClosed s).regs.causemask = s.regs.causemask
    ∧ (coverClosed s).link.state = s.link.state ∧ (coverClosed s).power.cls = s.power.cls
    ∧ (coverClosed s).power.vddMain = s.power.vddMain ∧ (coverClosed s).wm.panel = s.wm.panel
    ∧ (coverClosed s).wave = s.wave ∧ (coverClosed s).pins = s.pins ∧ (coverClosed s).keys = s.keys
    ∧ (coverClosed s).store = s.store ∧ (coverClosed s).executor = s.executor ∧ (coverClosed s).shared = s.shared
    ∧ (coverClosed s).pending = s.pending := by
  unfold coverClosed
  try dsimp only
  repeat' split
  all_goals simp

@[simp] theorem coverFound_keeps (closed : Bool) (s : State) :
    (coverFound closed s).regs.anchor = s.regs.anchor ∧ (coverFound closed s).regs.causemask = s.regs.causemask
    ∧ (coverFound closed s).power.cls = s.power.cls ∧ (coverFound closed s).pins = s.pins
    ∧ (coverFound closed s).keys = s.keys ∧ (coverFound closed s).shared = s.shared
    ∧ (coverFound closed s).pending = s.pending := by
  unfold coverFound
  try dsimp only
  repeat' split
  all_goals simp

@[simp] theorem inputFound_keeps (i : InputId) (level : Bool) (s : State) :
    (inputFound i level s).regs.anchor = s.regs.anchor ∧ (inputFound i level s).regs.causemask = s.regs.causemask
    ∧ (inputFound i level s).power.cls = s.power.cls ∧ (inputFound i level s).pins = s.pins
    ∧ (inputFound i level s).shared = s.shared ∧ (inputFound i level s).pending = s.pending := by
  unfold inputFound
  repeat' split
  all_goals simp

@[simp] theorem loadChecks_keeps (r : RecordCopy) (s : State) :
    (loadChecks r s).regs.anchor = s.regs.anchor ∧ (loadChecks r s).regs.causemask = s.regs.causemask
    ∧ (loadChecks r s).link.state = s.link.state ∧ (loadChecks r s).sense = s.sense
    ∧ (loadChecks r s).power = s.power ∧ (loadChecks r s).wm = s.wm ∧ (loadChecks r s).panel = s.panel
    ∧ (loadChecks r s).pins = s.pins ∧ (loadChecks r s).keys = s.keys ∧ (loadChecks r s).turn = s.turn
    ∧ (loadChecks r s).light = s.light ∧ (loadChecks r s).store = s.store ∧ (loadChecks r s).executor = s.executor
    ∧ (loadChecks r s).shared = s.shared ∧ (loadChecks r s).pending = s.pending := by
  unfold loadChecks
  try dsimp only
  repeat' split
  all_goals simp

@[simp] theorem requestLoadPage_keeps (l : Load) (s : State) :
    (requestLoadPage l s).regs.anchor = s.regs.anchor ∧ (requestLoadPage l s).regs.causemask = s.regs.causemask
    ∧ (requestLoadPage l s).link.state = s.link.state ∧ (requestLoadPage l s).sense = s.sense
    ∧ (requestLoadPage l s).power.cls = s.power.cls ∧ (requestLoadPage l s).power.state = s.power.state
    ∧ (requestLoadPage l s).power.vddMain = s.power.vddMain ∧ (requestLoadPage l s).wm.panel = s.wm.panel
    ∧ (requestLoadPage l s).wave = s.wave ∧ (requestLoadPage l s).panel = s.panel
    ∧ (requestLoadPage l s).pins = s.pins ∧ (requestLoadPage l s).keys = s.keys
    ∧ (requestLoadPage l s).light = s.light ∧ (requestLoadPage l s).store.array = s.store.array
    ∧ (requestLoadPage l s).store.blocks = s.store.blocks ∧ (requestLoadPage l s).shared = s.shared
    ∧ (requestLoadPage l s).pending = s.pending := by
  unfold requestLoadPage
  try dsimp only
  all_goals simp

@[simp] theorem pageLoaded_keeps (s : State) :
    (pageLoaded s).regs.anchor = s.regs.anchor ∧ (pageLoaded s).regs.causemask = s.regs.causemask
    ∧ (pageLoaded s).link.state = s.link.state ∧ (pageLoaded s).sense = s.sense
    ∧ (pageLoaded s).power.cls = s.power.cls ∧ (pageLoaded s).power.state = s.power.state
    ∧ (pageLoaded s).power.vddMain = s.power.vddMain ∧ (pageLoaded s).wm.panel = s.wm.panel
    ∧ (pageLoaded s).panel = s.panel ∧ (pageLoaded s).pins = s.pins ∧ (pageLoaded s).keys = s.keys
    ∧ (pageLoaded s).light = s.light ∧ (pageLoaded s).store.array = s.store.array
    ∧ (pageLoaded s).store.blocks = s.store.blocks ∧ (pageLoaded s).shared = s.shared
    ∧ (pageLoaded s).pending = s.pending := by
  unfold pageLoaded
  try dsimp only
  repeat' split
  all_goals simp

@[simp] theorem takeUpdate_keeps (r : RecordCopy) (s : State) :
    (takeUpdate r s).regs.anchor = s.regs.anchor ∧ (takeUpdate r s).regs.causemask = s.regs.causemask
    ∧ (takeUpdate r s).power.cls = s.power.cls ∧ (takeUpdate r s).power.vddMain = s.power.vddMain
    ∧ (takeUpdate r s).wm.panel = s.wm.panel ∧ (takeUpdate r s).pins = s.pins ∧ (takeUpdate r s).keys = s.keys
    ∧ (takeUpdate r s).store.array = s.store.array ∧ (takeUpdate r s).store.blocks = s.store.blocks
    ∧ (takeUpdate r s).shared = s.shared ∧ (takeUpdate r s).pending = s.pending := by
  unfold takeUpdate
  try dsimp only
  repeat' split
  all_goals simp

@[simp] theorem copyEnded_keeps (n : Nat) (sl : Slot) (s : State) :
    (copyEnded n sl s).regs.anchor = s.regs.anchor ∧ (copyEnded n sl s).regs.causemask = s.regs.causemask
    ∧ (copyEnded n sl s).link.state = s.link.state ∧ (copyEnded n sl s).power.cls = s.power.cls
    ∧ (copyEnded n sl s).power.vddMain = s.power.vddMain ∧ (copyEnded n sl s).wm.panel = s.wm.panel
    ∧ (copyEnded n sl s).wave = s.wave ∧ (copyEnded n sl s).pins = s.pins ∧ (copyEnded n sl s).keys = s.keys
    ∧ (copyEnded n sl s).light = s.light ∧ (copyEnded n sl s).store.array = s.store.array
    ∧ (copyEnded n sl s).store.blocks = s.store.blocks ∧ (copyEnded n sl s).shared = s.shared
    ∧ (copyEnded n sl s).pending = s.pending := by
  unfold copyEnded
  try dsimp only
  repeat' split
  all_goals simp

@[simp] theorem startFrame_keeps (s : State) :
    (startFrame s).regs = s.regs ∧ (startFrame s).link = s.link ∧ (startFrame s).bus = s.bus
    ∧ (startFrame s).sense = s.sense ∧ (startFrame s).power = s.power ∧ (startFrame s).wm.panel = s.wm.panel
    ∧ (startFrame s).wave = s.wave ∧ (startFrame s).pins = s.pins ∧ (startFrame s).keys = s.keys
    ∧ (startFrame s).turn = s.turn ∧ (startFrame s).light = s.light ∧ (startFrame s).store = s.store
    ∧ (startFrame s).executor = s.executor ∧ (startFrame s).shared = s.shared ∧ (startFrame s).pending = s.pending := by
  unfold startFrame
  try dsimp only
  repeat' split
  all_goals simp

@[simp] theorem tickStops_keeps (s : State) :
    (tickStops s).regs.anchor = s.regs.anchor ∧ (tickStops s).regs.causemask = s.regs.causemask
    ∧ (tickStops s).power.cls = s.power.cls ∧ (tickStops s).power.vddMain = s.power.vddMain
    ∧ (tickStops s).wm.panel = s.wm.panel ∧ (tickStops s).pins = s.pins ∧ (tickStops s).keys = s.keys
    ∧ (tickStops s).store.array = s.store.array ∧ (tickStops s).store.blocks = s.store.blocks
    ∧ (tickStops s).shared = s.shared ∧ (tickStops s).pending = s.pending := by
  unfold tickStops
  try dsimp only
  repeat' split
  all_goals simp

@[simp] theorem scanEnded_keeps (s : State) :
    (scanEnded s).regs = s.regs ∧ (scanEnded s).link = s.link ∧ (scanEnded s).bus = s.bus
    ∧ (scanEnded s).sense = s.sense ∧ (scanEnded s).power = s.power ∧ (scanEnded s).wm.panel = s.wm.panel
    ∧ (scanEnded s).wave = s.wave ∧ (scanEnded s).pins = s.pins ∧ (scanEnded s).keys = s.keys
    ∧ (scanEnded s).turn = s.turn ∧ (scanEnded s).light = s.light ∧ (scanEnded s).store = s.store
    ∧ (scanEnded s).executor = s.executor ∧ (scanEnded s).shared = s.shared ∧ (scanEnded s).pending = s.pending := by
  unfold scanEnded
  try dsimp only
  repeat' split
  all_goals simp

@[simp] theorem retireEnded_keeps (n : Nat) (sl : Slot) (s : State) :
    (retireEnded n sl s).regs.anchor = s.regs.anchor ∧ (retireEnded n sl s).regs.causemask = s.regs.causemask
    ∧ (retireEnded n sl s).power.cls = s.power.cls ∧ (retireEnded n sl s).power.vddMain = s.power.vddMain
    ∧ (retireEnded n sl s).pins = s.pins ∧ (retireEnded n sl s).keys = s.keys
    ∧ (retireEnded n sl s).store.array = s.store.array ∧ (retireEnded n sl s).store.blocks = s.store.blocks
    ∧ (retireEnded n sl s).shared = s.shared ∧ (retireEnded n sl s).pending = s.pending := by
  unfold retireEnded
  try dsimp only
  all_goals simp

@[simp] theorem clearingEnded_keeps (n : Nat) (sl : Slot) (s : State) :
    (clearingEnded n sl s).regs.anchor = s.regs.anchor ∧ (clearingEnded n sl s).regs.causemask = s.regs.causemask
    ∧ (clearingEnded n sl s).power.cls = s.power.cls ∧ (clearingEnded n sl s).power.vddMain = s.power.vddMain
    ∧ (clearingEnded n sl s).pins = s.pins ∧ (clearingEnded n sl s).keys = s.keys
    ∧ (clearingEnded n sl s).store.array = s.store.array ∧ (clearingEnded n sl s).store.blocks = s.store.blocks
    ∧ (clearingEnded n sl s).shared = s.shared ∧ (clearingEnded n sl s).pending = s.pending := by
  unfold clearingEnded
  try dsimp only
  repeat' split
  all_goals simp

@[simp] theorem takeStop_keeps (r : RecordCopy) (s : State) :
    (takeStop r s).regs.anchor = s.regs.anchor ∧ (takeStop r s).regs.causemask = s.regs.causemask
    ∧ (takeStop r s).power.cls = s.power.cls ∧ (takeStop r s).power.vddMain = s.power.vddMain
    ∧ (takeStop r s).wm.panel = s.wm.panel ∧ (takeStop r s).pins = s.pins ∧ (takeStop r s).keys = s.keys
    ∧ (takeStop r s).store.array = s.store.array ∧ (takeStop r s).store.blocks = s.store.blocks
    ∧ (takeStop r s).shared = s.shared ∧ (takeStop r s).pending = s.pending := by
  unfold takeStop
  try dsimp only
  repeat' split
  all_goals simp

@[simp] theorem resumeEngine_keeps (s : State) :
    (resumeEngine s).regs.anchor = s.regs.anchor ∧ (resumeEngine s).regs.causemask = s.regs.causemask
    ∧ (resumeEngine s).power.cls = s.power.cls ∧ (resumeEngine s).power.vddMain = s.power.vddMain
    ∧ (resumeEngine s).wm.panel = s.wm.panel ∧ (resumeEngine s).pins = s.pins ∧ (resumeEngine s).keys = s.keys
    ∧ (resumeEngine s).store.array = s.store.array ∧ (resumeEngine s).store.blocks = s.store.blocks
    ∧ (resumeEngine s).shared = s.shared ∧ (resumeEngine s).pending = s.pending := by
  obtain ⟨k, b, r, e, h1, h2, h3⟩ := foldl_complete_keeps
    (fun (a : Word) u => completeRecord .display a .ok 0#32 0 u)
    (fun a u => completeRecord_only _ _ _ _ _ u) s.panel.resumes
    (s.modPanel fun p => { p with engine := .off, resumes := [], flushed := false })
  unfold resumeEngine
  dsimp only at e ⊢
  rw [e]
  simp_all

@[simp] theorem checkTurnLoad_keeps (l : TurnLoad) (s : State) :
    (checkTurnLoad l s).regs.anchor = s.regs.anchor ∧ (checkTurnLoad l s).regs.causemask = s.regs.causemask
    ∧ (checkTurnLoad l s).link.state = s.link.state ∧ (checkTurnLoad l s).power.cls = s.power.cls
    ∧ (checkTurnLoad l s).power.vddMain = s.power.vddMain ∧ (checkTurnLoad l s).wm.panel = s.wm.panel
    ∧ (checkTurnLoad l s).wave = s.wave ∧ (checkTurnLoad l s).pins = s.pins ∧ (checkTurnLoad l s).keys = s.keys
    ∧ (checkTurnLoad l s).light = s.light ∧ (checkTurnLoad l s).store.array = s.store.array
    ∧ (checkTurnLoad l s).store.blocks = s.store.blocks ∧ (checkTurnLoad l s).shared = s.shared
    ∧ (checkTurnLoad l s).pending = s.pending := by
  unfold checkTurnLoad
  try dsimp only
  repeat' split
  all_goals simp

@[simp] theorem takeArm_keeps (r : RecordCopy) (s : State) :
    (takeArm r s).regs.anchor = s.regs.anchor ∧ (takeArm r s).regs.causemask = s.regs.causemask
    ∧ (takeArm r s).link.state = s.link.state ∧ (takeArm r s).sense = s.sense ∧ (takeArm r s).power = s.power
    ∧ (takeArm r s).wm = s.wm ∧ (takeArm r s).wave = s.wave ∧ (takeArm r s).panel = s.panel
    ∧ (takeArm r s).pins = s.pins ∧ (takeArm r s).keys = s.keys ∧ (takeArm r s).light = s.light
    ∧ (takeArm r s).store = s.store ∧ (takeArm r s).executor = s.executor ∧ (takeArm r s).shared = s.shared
    ∧ (takeArm r s).pending = s.pending := by
  unfold takeArm
  try dsimp only
  repeat' split
  all_goals simp

@[simp] theorem pageBuffered_keeps (data : List Byte) (s : State) :
    (pageBuffered data s).regs = s.regs ∧ (pageBuffered data s).link = s.link ∧ (pageBuffered data s).bus = s.bus
    ∧ (pageBuffered data s).sense = s.sense ∧ (pageBuffered data s).power = s.power
    ∧ (pageBuffered data s).wm.panel = s.wm.panel ∧ (pageBuffered data s).wave = s.wave
    ∧ (pageBuffered data s).panel = s.panel ∧ (pageBuffered data s).pins = s.pins
    ∧ (pageBuffered data s).keys = s.keys ∧ (pageBuffered data s).light = s.light
    ∧ (pageBuffered data s).store = s.store ∧ (pageBuffered data s).executor = s.executor
    ∧ (pageBuffered data s).shared = s.shared ∧ (pageBuffered data s).pending = s.pending := by
  unfold pageBuffered
  try dsimp only
  repeat' split
  all_goals simp

end Sys2Proof.Machine
end

