-- ==== Sys2Proof/Laws/Port.lean ====
section
/-!
SUPPORT. What the operations every meaning shares can do: the end of a step, the completion of a record, the step of a
record's row, retirement.
-/

namespace Sys2Proof.Machine

open Sys2Proof

/-! ## The end of a step -/

/-- Page writes, and nothing else. -/
def OnlyPages (l : List BusAccess) : Prop := ∀ a ∈ l, a = .statusPage ∨ a = .finalPage

theorem OnlyPages.nil : OnlyPages [] := fun _ h => by simp at h

theorem OnlyPages.append {l m : List BusAccess} (hl : OnlyPages l) (hm : OnlyPages m) : OnlyPages (l ++ m) :=
  fun a h => (List.mem_append.mp h).elim (hl a) (hm a)

@[simp] theorem enqueue_queue (a : BusAccess) (s : State) : (enqueue a s).bus.queue = s.bus.queue ++ [a] := rfl

@[simp] theorem enqueue_snapshot (a : BusAccess) (s : State) : (enqueue a s).bus.snapshot = s.bus.snapshot := rfl

@[simp] theorem enqueue_writeCount (a : BusAccess) (s : State) : (enqueue a s).bus.writeCount = s.bus.writeCount := rfl

/-! ## The access that ends -/

/-- An access that ends: it stood at the head of the port and satisfies the test, and nothing but the port changed. -/
theorem endAccess_spec {p : BusAccess → Bool} {s t : State} {a : BusAccess} (h : endAccess p s = some (a, t)) :
    p a = true ∧ s.bus.queue = a :: t.bus.queue
      ∧ t = { s with bus := { s.bus with queue := t.bus.queue, snapshot := none } } := by
  unfold endAccess at h
  split at h
  · cases h
  · rename_i b q hq
    split at h
    · simp only [Option.some.injEq, Prod.mk.injEq] at h
      obtain ⟨rfl, rfl⟩ := h
      exact ⟨by assumption, hq, rfl⟩
    · cases h

/-- The access at the head of the port ends. -/
theorem endAccess_head {p : BusAccess → Bool} {s : State} {a : BusAccess} {q : List BusAccess}
    (h : s.bus.queue = a :: q) (hp : p a = true) :
    endAccess p s = some (a, s.modBus fun b => { b with queue := q, snapshot := none }) := by
  simp [endAccess, h, hp]

/-- A transfer that ends: it was under way and satisfies the test, and nothing but the transfers changed. -/
theorem endTransfer_spec {p : BusAccess → Bool} {s t : State} (h : endTransfer p s = some t) :
    (∃ a ∈ s.bus.transfers, p a = true)
      ∧ t = { s with bus := { s.bus with transfers := s.bus.transfers.filter fun a => !p a } } := by
  unfold endTransfer at h
  split at h
  · rename_i ha
    cases h
    exact ⟨by simpa using ha, rfl⟩
  · cases h

@[simp] theorem startTransfers_queue (s : State) :
    (startTransfers s).bus.queue = s.bus.queue.dropWhile BusAccess.repeats := rfl

@[simp] theorem startTransfers_transfers (s : State) :
    (startTransfers s).bus.transfers = s.bus.transfers ++ s.bus.queue.takeWhile BusAccess.repeats := rfl

@[simp] theorem beginAccess_transfers (s : State) : (beginAccess s).bus.transfers = s.bus.transfers := by
  unfold beginAccess
  split <;> simp

@[simp] theorem beginAccess_queue (s : State) : (beginAccess s).bus.queue = s.bus.queue := by
  unfold beginAccess
  split <;> simp

theorem requestPage_queue (s : State) :
    ∃ l, (requestPage s).bus.queue = s.bus.queue ++ l ∧ OnlyPages l := by
  unfold requestPage
  split
  · exact ⟨[.statusPage], by simp, by simp [OnlyPages]⟩
  · exact ⟨[], by simp, .nil⟩

@[simp] theorem requestPage_transfers (s : State) : (requestPage s).bus.transfers = s.bus.transfers := by
  unfold requestPage
  split <;> rfl

@[simp] theorem requestFinal_transfers (s : State) : (requestFinal s).bus.transfers = s.bus.transfers := by
  unfold requestFinal
  split <;> rfl

theorem requestFinal_queue (s : State) :
    ∃ l, (requestFinal s).bus.queue = s.bus.queue ++ l ∧ OnlyPages l := by
  unfold requestFinal
  split
  · exact ⟨[.finalPage], by simp, by simp [OnlyPages]⟩
  · exact ⟨[], by simp, .nil⟩

/-- The end of a step asks the port for page writes and for nothing else, and the transfers at the head of its queue
start. -/
theorem settlePort_queue (s t : State) :
    ∃ l, (settlePort s t).bus.queue = (t.bus.queue ++ l).dropWhile BusAccess.repeats
      ∧ (settlePort s t).bus.transfers = t.bus.transfers ++ (t.bus.queue ++ l).takeWhile BusAccess.repeats
      ∧ OnlyPages l := by
  have h : ∃ l, (if pageFields s = pageFields t then t else requestPage t).bus.queue = t.bus.queue ++ l
      ∧ (if pageFields s = pageFields t then t else requestPage t).bus.transfers = t.bus.transfers
      ∧ OnlyPages l := by
    split
    · exact ⟨[], by simp, rfl, .nil⟩
    · obtain ⟨l, h, p⟩ := requestPage_queue t
      exact ⟨l, h, requestPage_transfers t, p⟩
  obtain ⟨l, hl, ht, pl⟩ := h
  obtain ⟨m, hm, pm⟩ := requestFinal_queue (if pageFields s = pageFields t then t else requestPage t)
  refine ⟨l ++ m, ?_, ?_, pl.append pm⟩
  · unfold settlePort; rw [beginAccess_queue, startTransfers_queue, hm, hl, List.append_assoc]
  · unfold settlePort
    rw [beginAccess_transfers, startTransfers_transfers, requestFinal_transfers, hm, hl, ht, List.append_assoc]

/-- The end of a step changes the port alone. -/
theorem settlePort_eq (s t : State) : settlePort s t = { t with bus := (settlePort s t).bus } := by
  have h := settlePort_keeps s t
  generalize settlePort s t = u at h ⊢
  cases u; cases t; simp_all

/-- What a meaning answers: a next state, which is `t` but for the port. -/
theorem commit_spec (s t : State) :
    ∃ u l, commit s t = .next u ∧ u = { t with bus := u.bus }
      ∧ u.bus.queue = (t.bus.queue ++ l).dropWhile BusAccess.repeats
      ∧ u.bus.transfers = t.bus.transfers ++ (t.bus.queue ++ l).takeWhile BusAccess.repeats ∧ OnlyPages l := by
  obtain ⟨l, h, h', p⟩ := settlePort_queue s t
  exact ⟨settlePort s t, l, rfl, settlePort_eq s t, h, h', p⟩

/-! ## Completing a record -/

/-- A record that is open and writable gets its result write and, behind it, its Done write (R11). -/
theorem completeRecord_open {i : LaneId} {addr : Word} {s : State} {e : TakenEntry} (h : openEntry i addr s = some e)
    (hw : e.unwritable = false) (result : ResultCode) (detail : Word) (progress : Nat) :
    completeRecord i addr result detail progress s =
      enqueue (.stateWrite i addr .done) (enqueue (.resultWrite i addr result detail progress) s) := by
  simp [completeRecord, h, hw]

theorem markRunning_open {i : LaneId} {addr : Word} {s : State} {e : TakenEntry} (h : openEntry i addr s = some e)
    (hw : e.unwritable = false) : markRunning i addr s = enqueue (.stateWrite i addr .running) s := by
  simp [markRunning, h, hw]

/-- The record under way at an address depends on the lane tables alone. -/
theorem openEntry_congr {s t : State} (h : t.link = s.link) (i : LaneId) (addr : Word) :
    openEntry i addr t = openEntry i addr s := by
  simp [openEntry, h]

@[simp] theorem Link.lane_setLane_same (l : Link) (i : LaneId) (f : Lane → Lane) :
    (l.setLane i f).lane i = f (l.lane i) := by
  cases i <;> rfl

theorem Link.lane_setLane_other (l : Link) {i j : LaneId} (h : j ≠ i) (f : Lane → Lane) :
    (l.setLane i f).lane j = l.lane j := by
  cases i <;> cases j <;> first | rfl | exact absurd rfl h

@[simp] theorem Link.setLane_keeps (l : Link) (i : LaneId) (f : Lane → Lane) :
    (l.setLane i f).state = l.state ∧ (l.setLane i f).low = l.low ∧ (l.setLane i f).high = l.high
    ∧ (l.setLane i f).statusAddr = l.statusAddr ∧ (l.setLane i f).scanPeriod = l.scanPeriod
    ∧ (l.setLane i f).scanOn = l.scanOn ∧ (l.setLane i f).attaching = l.attaching := by
  cases i <;> simp [Link.setLane]

@[simp] theorem State.modLane_link (s : State) (i : LaneId) (f : Lane → Lane) :
    (s.modLane i f).link = s.link.setLane i f := rfl

/-- A record just accepted is the one under way at its address, where no other was. -/
theorem openEntry_acceptRecord {k : Kind} {r : RecordCopy} {s : State} (h : openEntry k.lane r.addr s = none) :
    openEntry k.lane r.addr (acceptRecord k r s) = some (newEntry r (some k)) := by
  have hl : (acceptRecord k r s).link = s.link.setLane k.lane fun l =>
      { l with table := l.table ++ [newEntry r (some k)], copy := none } := by
    simp [acceptRecord, addEntry]
  unfold openEntry at h ⊢
  rw [hl, Link.lane_setLane_same]
  simp [List.find?_append, h, newEntry]

/-- What accepting a record asks the port for: its state word Taken, and the read of its link (R9, R11, R12). -/
theorem acceptRecord_queue (k : Kind) (r : RecordCopy) (s : State) :
    (acceptRecord k r s).bus.queue =
      s.bus.queue ++ [.stateWrite k.lane r.addr .taken, .linkRead k.lane (linkAddress k.lane s) .taken] := by
  simp [acceptRecord, requestLink, linkAddress, addEntry]

theorem acceptRecord_link (k : Kind) (r : RecordCopy) (s : State) :
    (acceptRecord k r s).link = s.link.setLane k.lane fun l =>
      { l with table := l.table ++ [newEntry r (some k)], copy := none } := by
  simp [acceptRecord, addEntry]

/-! ## The step of a record's row -/

/-- The three things a record's row can do: nothing, hold the lane, or accept the record and act on it. -/
theorem onRecord_cases (k : Kind) (effect : RecordCopy → State → State) (s : State) :
    (offered k s = none ∧ onRecord k effect s = commit s s)
    ∨ (∃ r, offered k s = some r ∧ canAccept k s = false ∧ onRecord k effect s = commit s (holdLane k.lane s))
    ∨ (∃ r, offered k s = some r ∧ canAccept k s = true
        ∧ onRecord k effect s = commit s (effect r (acceptRecord k r s))) := by
  unfold onRecord
  cases h : offered k s with
  | none => exact .inl ⟨rfl, rfl⟩
  | some r =>
    cases hc : canAccept k s with
    | false => exact .inr (.inl ⟨r, rfl, rfl, by simp⟩)
    | true => exact .inr (.inr ⟨r, rfl, rfl, by simp⟩)

/-- An offered record that its consumer can accept is accepted and acted on. -/
theorem onRecord_accepted {k : Kind} {s : State} {r : RecordCopy} (h : offered k s = some r)
    (hc : canAccept k s = true) (effect : RecordCopy → State → State) :
    onRecord k effect s = commit s (effect r (acceptRecord k r s)) := by
  simp [onRecord, h, hc]

/-! ## Causes -/

/-- A cause that is pending stays pending when another is set (R18). -/
theorem setCause_cause (c : Cause) (s : State) : (setCause c s).regs.cause = s.regs.cause ||| causeBit c := rfl

end Sys2Proof.Machine
end

