-- ==== Sys2Proof/Tests/Slice0.lean ====
section
/-!
SUPPORT. The model's own tests: ill-formed commands that WellFormed refuses, worked cases of the spec, and for every
statement with hypotheses a state and operands that meet them, clause by clause, with what the step then shows.
-/

-- One test at a time: checked side by side they take a thread each.
set_option Elab.async false

namespace Sys2Proof.Tests

open Sys2Proof Sys2Proof.Machine

/-! ## Helpers -/

/-- The state after a command, where it answers one. -/
def after (c : Instr) (s : State) : State :=
  match exec c s with
  | .next t    => t
  | .fault _   => s
  | .refused _ => s

/-- The command answers a next state that satisfies a test. -/
def answers (c : Instr) (s : State) (p : State → Bool) : Bool :=
  match exec c s with
  | .next t    => p t
  | .fault _   => false
  | .refused _ => false

/-- A 128-byte record body: the given bytes at their offsets, 0 elsewhere. -/
def body (fields : List (Nat × Nat)) : List Byte :=
  (List.range 128).map fun i => BitVec.ofNat 8 (((fields.find? (·.1 == i)).map (·.2)).getD 0)

/-- A record of a kind at 0x2000. -/
def record (k : Kind) (fields : List (Nat × Nat)) : RecordCopy :=
  { addr := 0x2000#32, bytes := body ((4, k.code) :: fields) }

/-- RUN with working memory ACTIVE. -/
def running : State := { State.reset with wm := { WorkMem.initialising 0 with state := .active } }

/-- A lane parked on the Anchor Block. -/
def parkedLane : Lane := { Lane.reset with state := .parked }

/-- The link ATTACHED with a window, every lane parked. -/
def attached : State :=
  { running with link := { Link.reset with
      state := .attached, low := 0x1000#32, high := 0x8000000#32, statusAddr := 0x1000#32, display := parkedLane,
      store := parkedLane, control := parkedLane } }

/-- The lane of a kind offers a record of that kind. -/
def offering (k : Kind) (fields : List (Nat × Nat)) (s : State) : State :=
  { s with link := s.link.setLane k.lane fun l =>
      { l with state := .taking, cursor := 0x2000#32, copy := some (record k fields) } }

/-- A record of a kind is under way at 0x2000. -/
def underway (k : Kind) (s : State) : State :=
  { s with link := s.link.setLane k.lane fun l =>
      { l with cursor := 0x2000#32, table := [newEntry (record k []) (some k)] } }

/-- The state with the accesses given at the port. -/
def withQueue (q : List BusAccess) (s : State) : State := { s with bus := { s.bus with queue := q } }

/-- The state with the transfers given under way. -/
def withTransfers (q : List BusAccess) (s : State) : State := { s with bus := { s.bus with transfers := q } }

/-- The state in a power state. -/
def inPower (q : PowerState) (s : State) : State := { s with power := { s.power with state := q } }

/-- The state with the array ON. -/
def arrayOn (s : State) : State := { s with store := { s.store with power := .on } }

/-! ## Ill-formed commands -/

theorem test_illFormed_narrowWriteOfNoWidth : (Instr.registerWriteOther 4 3 0#32).wellFormed = false := by decide
theorem test_illFormed_writeOutsideWindow : (Instr.registerWriteOther 32 4 0#32).wellFormed = false := by decide
theorem test_illFormed_anchorIsItsOwnRow : (Instr.registerWriteOther 4 4 0#32).wellFormed = false := by decide
theorem test_illFormed_attachIsItsOwnRow : (Instr.registerWriteOther 8 4 1#32).wellFormed = false := by decide
theorem test_illFormed_shortAnchorBlock : (Instr.anchorBlockReadEnd (.data [0#8])).wellFormed = false := by decide
theorem test_illFormed_shortRecord : (Instr.recordReadEnd (.data (List.replicate 64 0#8))).wellFormed = false := by
  decide +kernel
theorem test_illFormed_clientTwiceAtBurst : (Instr.burstEnd [.decoder, .decoder]).wellFormed = false := by decide
theorem test_illFormed_clientTwiceAtRefresh : (Instr.refreshEnd [.decoder, .decoder]).wellFormed = false := by decide
theorem test_illFormed_imageLongerThanExtent (image : List Byte) (h : imageExtent < image.length) :
    (Instr.imageCopyEnd image).wellFormed = false := by
  simp only [Instr.wellFormed, decide_eq_false_iff_not]; omega

/-! ## Worked cases of the spec -/

/-- 09 R165: the CRC-32 of "123456789" is 0xCBF43926. -/
theorem test_crc_of_nine_digits :
    crc32 [0x31#8, 0x32#8, 0x33#8, 0x34#8, 0x35#8, 0x36#8, 0x37#8, 0x38#8, 0x39#8] = 0xCBF43926#32 := by
  decide +kernel

/-- 02, section 2.8, BATT in Auto: trim 20, f 2964, 3705 mV. -/
theorem test_chain_batt :
    let c : Channel := { mode := .auto, trim := 19, gain := 260, k := 2, filtered := 2960, seed := false }
    (c.sample 21 2950).trim = 20 ∧ (c.sample 21 2950).filtered = 2964 ∧ batteryOf 2964 = 3705 := by decide +kernel

/-- 02, section 2.8, THERM inside a segment: f 1809, T 246; section 2.4: f 1819 gives 241. -/
theorem test_chain_therm :
    let c : Channel := { mode := .auto, trim := 12, gain := 256, k := 1, filtered := 1800, seed := false }
    (c.sample 12 1830).filtered = 1809 ∧ curveAt 1809 [(1600, 350), (2000, 150)] = 246
      ∧ curveAt 1819 [(1600, 350), (2000, 150)] = 241 := by decide +kernel

/-- 02, section 2.8, AMB in Manual, dark: f stays 3; and the clamp at the top of the range: 5118 mV. -/
theorem test_chain_clamps :
    let c : Channel := { mode := .manual, trim := 40, gain := 300, k := 2, filtered := 3, seed := false }
    let d : Channel := { mode := .manual, trim := -256, gain := 511, k := 0, filtered := 0, seed := true }
    (c.sample 0 25).filtered = 3 ∧ (d.sample 0 4095).filtered = 4095 ∧ batteryOf 4095 = 5118 := by decide +kernel

/-- 12, section 12.4: the classes of the descent, with the default thresholds. -/
theorem test_class_descent :
    let p : Power := { Power.reset with seen := true }
    classify p 3520 = .normal ∧ classify p 3480 = .reduced ∧ classify { p with cls := .reduced } 3390 = .critical
      ∧ classify { p with cls := .critical } 3310 = .critical ∧ classify { p with cls := .critical } 3295 = .exhausted
      ∧ classify { p with cls := .exhausted } 3320 = .exhausted
      ∧ classify { p with cls := .exhausted } 3462 = .critical := by decide

/-- 05, section 5.6: the range index of a set with lower bounds -50, 50, 120, 180, 240, 300, 400 and default 3. -/
theorem test_range_follows :
    let h := body [(5, 7), (6, 3), (12, 206), (13, 255), (14, 50), (16, 120), (18, 180), (20, 240), (22, 44), (23, 1),
      (24, 144), (25, 1)]
    let v : Nat → Wave := fun i => { Wave.reset with range := some i }
    candidate h 246 7 = 4 ∧ (selectRange h 305 (v 4)).range = some 5 ∧ (selectRange h 295 (v 5)).range = some 5
      ∧ (selectRange h 289 (v 5)).range = some 4 ∧ (selectRange h 120 (v 4)).range = some 2
      ∧ (selectRange h (-60) (v 2)).range = some 0 ∧ (selectRange h 395 (v 6)).range = some 6 := by decide +kernel

/-- 08, section 8.5: the auto light under Reduced: L 212, T 212, duties 294 and 548, COOL in counts 422..969. -/
theorem test_light_auto :
    let l : Light := { Light.reset with
      mode := .auto, bias := 20, warmth := 35, curve := [(500, 120), (1000, 300)], held := some 700, output := 212 }
    let m := ((l.relevel .reduced).mix).latch
    m.level = 212 ∧ m.target = 212 ∧ m.warm = 294 ∧ m.cool = 548 ∧ m.coolLit 421 = false ∧ m.coolLit 422 = true
      ∧ m.coolLit 969 = true ∧ m.coolLit 970 = false := by decide +kernel

/-- 08, section 8.5: a class change to Critical cuts an output of 450 to 200, and the ramp rises by its step. -/
theorem test_light_cut_and_ramp :
    let l : Light := { Light.reset with
      mode := .manual, manual := 800, level := 800, target := 800, step := 50, output := 400 }
    l.tick.output = 450 ∧ (l.tick.takeClass .critical).output = 200
      ∧ ((l.tick.takeClass .critical).takeClass .reduced).tick.output = 250 := by decide +kernel

/-- 07 R139: 0xF4 is five pixels of level 15, 0x0F 0x20 forty-eight of level 0, 0x3E fifteen of level 3. -/
theorem test_decode_runs :
    decodeRuns [0xF4#8, 0x0F#8, 0x20#8, 0x3E#8] = [(15#4, 5), (0#4, 48), (3#4, 15)]
      ∧ decodeOk 68 [0xF4#8, 0x0F#8, 0x20#8, 0x3E#8] = true ∧ decodeOk 68 [0xF4#8, 0x0F#8, 0x20#8] = false
      ∧ decodeOk 67 [0xF4#8, 0x0F#8, 0x20#8, 0x3E#8] = false ∧ endsWhole [0x0F#8] = false := by decide +kernel

/-- 05, section 5.8: a load from page 60 of block 12 for 16 pages starts at page 828 of the array; 43,460 bytes are 11
pages. -/
theorem test_load_extent :
    (loadOf (record .waveformLoad [(32, 12), (34, 60), (36, 16)])).nextPage = 828
      ∧ setPages (body [(36, 0xC4), (37, 0xA9)]) = 11 := by decide +kernel

/-- 12, section 12.2: an ingest of 20,000 bytes has five pages, the last of 3,616 bytes. -/
theorem test_ingest_pages :
    let b := body [(36, 0x20), (37, 0x4E)]
    ingestLength b = 20000 ∧ ingestPages b = 5 ∧ ingestPageSize b 4 = 3616 := by decide +kernel

/-! ## Witnesses: the queue, the register window and CONTROL -/

theorem test_StepTakesFront_witness :
    (running.withCommand .rampTick).pending = .rampTick :: running.pending ∧ running.pending = [] := by decide +kernel

theorem test_RegisterWritesAct_witness :
    (Instr.registerWriteOther 5 1 0#32).wellFormed = true ∧ (Instr.registerWriteOther 8 4 0x104#32).wellFormed = true
      ∧ answers (.anchorWrite 0x1000#32) running (·.regs.anchor == 0x1000#32) = true
      ∧ answers (.anchorWrite 0x1000#32) attached (·.regs.anchor == 0#32) = true
      ∧ answers (.registerWriteOther 5 1 7#32) running (·.regs.slaveError) = true
      ∧ answers (.causeClear 2#32) { running with regs := { Regs.reset with cause := 7#13 } } (·.regs.cause == 5#13)
          = true
      ∧ answers (.causemaskWrite 2#32) { running with regs := { Regs.reset with cause := 2#13 } } (·.regs.attn)
          = true := by decide +kernel

theorem test_NudgeAndScan_witness :
    attached.link.state = .attached ∧ running.link.state ≠ .attached
      ∧ { attached.link with scanOn := true }.scanOn = true
      ∧ answers (.nudge 2#32) attached (·.bus.queue == [.linkRead .store 24#32 .nudge]) = true
      ∧ answers .scanTick { attached with link := { attached.link with scanOn := true } }
          (·.bus.queue.length == 3) = true := by decide +kernel

theorem test_AttachAndDetachTaken_attach :
    (running.link.attaching = false ∧ running.regs.waiting = none ∧ running.link.state = .detached
        ∧ running.power.state = .run ∧ answers .attach running (·.bus.queue == [.anchorRead 0#32]) = true)
      ∧ (let d := inPower .dozeQuiet running; d.link.attaching = false ∧ d.regs.waiting = none
          ∧ d.link.state = .detached ∧ InDoze d ∧ d.power.descentPending = false
          ∧ answers .attach d (fun t => t.power.state == .waking && t.regs.attachWaits) = true)
      ∧ (let d := inPower .deepEntry running; d.power.state = .deepEntry
          ∧ answers .attach d (fun t => t.power.remembered == some .attach && t.regs.attachWaits) = true)
      ∧ (let d := inPower .waking running; d.power.state = .waking
          ∧ answers .attach d (fun t => t.power.state == .waking && t.regs.attachWaits) = true)
      ∧ (let d := inPower .deep running; d.power.state = .deep ∧ d.power.cls ≠ .exhausted
          ∧ answers .attach d (fun t => t.power.wakeReason == .attach && t.regs.attachWaits
              && t.wm.state == .initialising) = true)
      ∧ (let d := inPower .deep { running with power := { running.power with cls := .exhausted } };
          d.power.state = .deep ∧ d.power.cls = .exhausted ∧ d.link.state = .detached
            ∧ answers .attach d (· == d) = true) := by decide +kernel

theorem test_AttachAndDetachTaken_detach :
    (attached.link.attaching = false ∧ attached.regs.waiting = none ∧ Quiet attached
        ∧ attached.panel.engine ≠ .halted ∧ attached.link.state = .attached
        ∧ answers .detach attached (·.link.state == .detaching) = true)
      ∧ (let f := { running with link := { Link.reset with state := .fault } };
          f.link.attaching = false ∧ Quiet f ∧ f.panel.engine ≠ .halted ∧ f.link.state = .fault
            ∧ answers .detach f (·.link.state == .detached) = true)
      ∧ (let w := { running with regs := { Regs.reset with attachWaits := true } };
          w.link.state = .detached ∧ Quiet w ∧ answers .detach w (!·.regs.attachWaits) = true) := by decide +kernel

theorem test_AttachAndDetachTaken_waits :
    (let a := { running with link := { Link.reset with attaching := true } };
      Quiet a ∧ a.link.attaching = true ∧ answers .detach a (·.regs.waiting == some .detach) = true)
      ∧ (let w := { attached with regs := { Regs.reset with waiting := some .attach } };
        Quiet w ∧ w.link.attaching = false ∧ w.regs.waiting ≠ none
          ∧ answers .engineReset w (·.regs.waiting == some .attach) = true) := by decide +kernel

theorem test_EngineResetTaken_witness :
    (attached.power.state = .run ∧ attached.link.attaching = false ∧ attached.regs.waiting = none
        ∧ attached.sense.sweep ≠ none ∧ answers .engineReset attached (·.link.state == .detached) = true)
      ∧ (let s := { attached with sense := { attached.sense with
          sweep := none, timer := none, remembered := true, setup := some (record .senseSetup []) } };
        s.sense.sweep = none ∧ s.sense.remembered = true ∧ answers .engineReset s (fun t => t.sense.sweep.isSome
            && t.sense.timer == some 100 && t.sense.setup.isNone) = true) := by decide +kernel

theorem test_EngineResetTaken_wakes :
    (let s := inPower .dozeQuiet { attached with wm := { attached.wm with state := .selfRefresh } };
      s.link.attaching = false ∧ s.regs.waiting = none ∧ s.power.state = .dozeQuiet ∧ s.power.descentPending = false
        ∧ s.wm.state = .selfRefresh ∧ answers .engineReset s (fun t => t.power.resetPending
          && t.wm.state == .leaving && t.regs.hostwake && t.link.state == .attached) = true)
      ∧ (let s := inPower .dozeTurning attached; s.power.state = .dozeTurning ∧ s.power.descentPending = false
        ∧ s.wm.state = .active ∧ answers .engineReset s (fun t => t.power.state == .waking
          && t.power.wakeReason == .engineReset && t.wm.state == .initialising && t.link.state == .detached) = true)
      ∧ (let s := inPower .dozeEntry attached; s.power.state = .dozeEntry
        ∧ answers .engineReset s (fun t => t.power.state == .dozeEntry && t.link.state == .attached) = true) := by
  decide +kernel

theorem test_WaitingCommandActs_witness :
    let w := { attached with regs := { Regs.reset with waiting := some .detach } }
    w.regs.waiting = some .detach ∧ w.link.attaching = false ∧ w.power.state = .run ∧ Quiet w
      ∧ answers .waitingCommandTaken w (·.link.state == .detaching) = true := by decide +kernel

theorem test_FullResetTaken_witness :
    attached.store.op = none ∧ attached.store.erase = none
      ∧ answers .fullReset attached (· == { State.reset with wm := .initialising 1 }) = true := by decide +kernel

/-! ## Witnesses: the Link Engine -/

/-- An Anchor Block: window 0x1000 to 0x8000000, page at 0x1000, DISPLAY's first record at 0x2000, scan 50 ms. -/
def anchorBlock : List Byte :=
  [0x56#8, 0x4A#8, 0x41#8, 0x42#8, 1#8, 0#8, 50#8, 0#8] ++ le32 0x1000 ++ le32 0x8000000 ++ le32 0x1000 ++ le32 0x2000
    ++ List.replicate 40 0#8

/-- An Attach whose Anchor Block is being read. -/
def attaching : State :=
  withQueue [.anchorRead 0x1000#32] { running with link := { Link.reset with attaching := true } }

theorem test_AnchorReadOutcome_checks : AnchorChecks 0x1000#32 anchorBlock := by constructor <;> decide +kernel

theorem test_AnchorReadOutcome_checksFail : ¬ AnchorChecks 0x1001#32 anchorBlock :=
  fun h => absurd h.aligned (by decide)

theorem test_AnchorReadOutcome_witness :
    attaching.bus.queue = [.anchorRead 0x1000#32] ∧ attaching.power.state = .run ∧ .finalPage ∉ ([] : List BusAccess)
      ∧ attaching.link.state = .detached
      ∧ answers (.anchorBlockReadEnd (.data anchorBlock)) attaching (fun t => t.link.state == .attached
          && t.link.display.state == .taking && t.link.store.state == .parked && t.bus.writeCount == 1#32) = true
      ∧ answers (.anchorBlockReadEnd .busError) attaching (·.link.state == .fault) = true := by decide +kernel

/-- A STORE lane in TAKING whose record is being read. -/
def readingRecord : State :=
  withQueue [.recordRead .store 0x2000#32]
    { attached with link := attached.link.setLane .store fun l => { l with state := .taking, cursor := 0x2000#32 } }

theorem test_RecordReadOutcome_witness :
    readingRecord.bus.queue = [.recordRead .store 0x2000#32] ∧ (readingRecord.link.lane .store).state = .taking
      ∧ readingRecord.link.state = .attached
      ∧ (kindOfCode (half (body [(4, 1)]) 4) = some .panelUpdate ∧ Kind.panelUpdate.lane ≠ .store)
      ∧ (let b := body [(4, 0x12), (35, 1)]; kindOfCode (half b 4) = some .storeRead ∧ Kind.storeRead.lane = .store
          ∧ ({ addr := 0x2000#32, bytes := b } : RecordCopy).buffer .storeRead = some (0, 4096)
          ∧ ¬ (readingRecord.link.low.toNat ≤ 0 ∧ 0 + 4096 ≤ readingRecord.link.high.toNat))
      ∧ (let b := body [(4, 0x12), (35, 1), (37, 0x10)];
          ({ addr := 0x2000#32, bytes := b } : RecordCopy).buffer .storeRead = some (0x1000, 4096)
            ∧ answers (.recordReadEnd (.data b)) readingRecord (·.link.store.copy.isSome) = true)
      ∧ answers (.recordReadEnd (.data (body [(4, 1)]))) readingRecord (fun t => t.link.store.table.length == 1
          && t.link.store.copy.isNone) = true
      ∧ answers (.recordReadEnd .busError) readingRecord (fun t => t.link.store.state == .stopped
          && t.link.store.table.length == 1 && t.regs.cause == causeBit laneStopped) = true := by decide +kernel

theorem test_HeldLaneResumes_witness :
    (let h := { attached with link := attached.link.setLane .control fun l =>
        { l with state := .held, copy := some (record .turnArm []) } };
      (h.link.lane .control).state = .held ∧ (h.link.lane .control).copy = some (record .turnArm [])
        ∧ kindOfCode (record .turnArm []).kindCode = some .turnArm ∧ canAccept .turnArm h = true
        ∧ answers (.heldRelease .control) h (·.link.control.state == .taking) = true)
      ∧ (let h := { attached with link := attached.link.setLane .control fun l =>
          { l with state := .held, cursor := 0x1000#32 } };
        (h.link.lane .control).state = .held ∧ (h.link.lane .control).copy = none
          ∧ (h.link.lane .control).table.length < tableCapacity .control
          ∧ h.link.low.toNat ≤ (h.link.lane .control).cursor.toNat
          ∧ (h.link.lane .control).cursor.toNat + 128 ≤ h.link.high.toNat
          ∧ answers (.heldRelease .control) h (·.bus.queue.contains (.recordRead .control 0x1000#32)) = true) := by
  decide +kernel

theorem test_LinkReadOutcome_witness :
    let s := withQueue [.linkRead .display 0x2000#32 .taken, .linkRead .display 0x2000#32 .nudge]
      (underway .panelSetup attached)
    s.link.state = .attached ∧ (s.link.lane .display).state ≠ .stopped
      ∧ (0x7FFFF81#32).toNat % 128 ≠ 0 ∧ (0xF80#32).toNat < s.link.low.toNat
      ∧ s.link.high.toNat < (0x8000000#32).toNat + 128
      ∧ (let v := 0x7FFFF80#32; v ≠ 0#32 ∧ v.toNat % 128 = 0 ∧ s.link.low.toNat ≤ v.toNat
          ∧ v.toNat + 128 ≤ s.link.high.toNat)
      ∧ answers (.linkReadEnd 0#32) s (·.link.display.state == .parked) = true
      ∧ answers (.linkReadEnd 0xF80#32) s (fun t => t.link.display.state == .stopped
          && !t.bus.queue.any fun a => a.readsFor .display) = true
      ∧ answers (.linkReadEnd 0x7FFFF80#32) s (·.link.display.state == .taking) = true := by decide +kernel

theorem test_LinkReadOutcome_retires :
    let t := underway .panelSetup attached
    let e := newEntry (record .panelSetup []) (some .panelSetup)
    let more : TakenEntry := { e with addr := 0x3000#32, notify := true, done := true }
    let s := withQueue [.linkRead .display 0x3000#32 .taken] { t with link := t.link.setLane .display fun l =>
      { l with cursor := 0x3000#32, table := [{ e with done := true, followed := true }, more] } };
    s.link.state = .attached ∧ (s.link.lane .display).table = [{ e with done := true, followed := true }] ++ [more]
      ∧ more.addr = (s.link.lane .display).cursor ∧ (s.link.lane .display).cursor ≠ 0#32
      ∧ answers (.linkReadEnd 0x1000#32) s (fun t => t.link.display.table.isEmpty && t.link.display.retiredCount == 2#32
          && t.link.display.retiredAddr == 0x3000#32 && t.regs.cause == 1#13
          && t.bus.queue.contains (.recordRead .display 0x1000#32)) = true
      ∧ (let f := withQueue [.linkRead .store 0x14#32 .tick] attached
        f.link.state = .attached ∧ (f.link.lane .store).cursor = 0#32 ∧ (f.link.lane .store).state ≠ .stopped
          ∧ answers (.linkReadEnd 0x1000#32) f (·.link.store.state == .taking) = true)
      ∧ (let full := withQueue [.linkRead .control 0x2000#32 .taken] { attached with
          link := attached.link.setLane .control fun l =>
            { l with cursor := 0x2000#32, table := List.replicate 4 e } };
        (full.link.lane .control).table = List.replicate 3 e ++ [e]
          ∧ answers (.linkReadEnd 0x1000#32) full (·.link.control.state == .held) = true) := by decide +kernel

theorem test_HeaderWriteOutcome_witness :
    let s := underway .panelSetup attached
    let e := newEntry (record .panelSetup []) (some .panelSetup)
    sparseWf s.shared = true ∧ RecordState.running ≠ .done ∧ (s.link.lane .display).table = [e] ∧ e.addr = 0x2000#32
      ∧ e.done = false ∧ (s.link.lane .display).state ≠ .stopped
      ∧ answers (.recordHeaderWriteEnd false) (withQueue [.stateWrite .display 0x2000#32 .running] s)
          (fun t => sparseGet 0x2010 t.shared == some 2#8) = true
      ∧ answers (.recordHeaderWriteEnd false) (withQueue [.resultWrite .display 0x2000#32 .range 0#32 0] s)
          (fun t => sparseGet 0x2012 t.shared == some 22#8) = true
      ∧ answers (.recordHeaderWriteEnd false) (withQueue [.stateWrite .display 0x2000#32 .done] s)
          (fun t => t.link.display.table.all (·.done)) = true
      ∧ answers (.recordHeaderWriteEnd true) (withQueue [.stateWrite .display 0x2000#32 .running] s)
          (·.link.display.state == .stopped) = true := by decide +kernel

theorem test_HeaderWriteOutcome_others :
    let t := underway .panelSetup attached
    let e := newEntry (record .panelSetup []) (some .panelSetup)
    let first : TakenEntry := { e with addr := 0x3000#32, followed := true }
    let s := { t with link := t.link.setLane .display fun l =>
      { l with table := [first, { e with followed := true }] } };
    (s.link.lane .display).table = [first] ++ { e with followed := true } :: [] ∧ first.addr ≠ 0x2000#32
      ∧ (BusAccess.resultWrite .display 0x2000#32 .ok 0#32 0).writesRecord .display 0x2000#32 = true
      ∧ answers (.recordHeaderWriteEnd false) (withQueue [.stateWrite .display 0x2000#32 .done] s)
          (fun t => t.link.display.table.length == 2 && t.link.display.retiredCount == 0#32) = true
      ∧ answers (.recordHeaderWriteEnd false) (withQueue [.stateWrite .display 0x3000#32 .done]
          { s with link := s.link.setLane .display fun l =>
            { l with table := [first, { e with followed := true, done := true }] } })
          (fun t => t.link.display.table.isEmpty && t.link.display.retiredCount == 2#32) = true
      ∧ answers (.recordHeaderWriteEnd true) (withQueue [.resultWrite .display 0x2000#32 .ok 0#32 0,
          .stateWrite .display 0x2000#32 .done, .linkRead .display 0x2000#32 .taken] s)
          (fun t => t.bus.queue.all (· == .statusPage) && t.link.display.state == .stopped
            && t.link.display.table.any fun x => x.done && x.unwritable) = true := by decide +kernel

theorem test_PageWriteOutcome_witness :
    let s := { attached with bus := { queue := [.statusPage], transfers := [], snapshot := some [7#8], writeCount := 1#32 } }
    let d := { s with bus := { queue := [.finalPage], transfers := [], snapshot := some [7#8], writeCount := 1#32 } }
    s.bus.snapshot = some [7#8] ∧ sparseWf s.shared = true ∧ s.bus.queue = [.statusPage] ∧ d.bus.queue = [.finalPage]
      ∧ (withQueue [.statusPage] attached).bus.snapshot = none
      ∧ answers (.statusPageWriteEnd false) s (·.shared == [(0x1000, 7#8)]) = true
      ∧ answers (.detachFinalPage true) d (fun t => t.link.state == .detached && t.shared == []) = true := by
  decide +kernel

/-- A page write behind a transfer of several accesses. -/
def behindRows : State := withQueue [.buffer (.imageRows 0) 0x1000 4, .statusPage] attached

theorem test_PageWriteOutcome_snapshot :
    behindRows.bus.queue = [.buffer (.imageRows 0) 0x1000 4, .statusPage]
      ∧ (BusAccess.buffer (.imageRows 0) 0x1000 4).repeats = true ∧ behindRows.bus.snapshot = none
      ∧ sparseWf behindRows.shared = true ∧ (behindRows.panel.uncertain[0]?) = none
      ∧ (withQueue [.statusPage] attached).bus.snapshot = none ∧ (withQueue [.finalPage] attached).bus.snapshot = none
      ∧ attached.turn.entries.length ≤ 24 ∧ attached.store.op = none ∧ attached.store.erase = none
      ∧ (startTransfers behindRows).bus.queue = [.statusPage]
      ∧ (startTransfers behindRows).bus.transfers = [.buffer (.imageRows 0) 0x1000 4]
      ∧ (beginAccess (startTransfers behindRows)).bus.snapshot.any (fun p => word p 0 == 1#32 && word p 252 == 1#32)
          = true := by decide +kernel

/-! ## Witnesses: the Sense Front End and the Front Light -/

/-- No sweep in progress. -/
def idleSense (s : State) : State := { s with sense := { s.sense with sweep := none } }

/-- A sweep at a channel's signal sample. -/
def atSignal (full : Bool) (ch : ChannelId) (s : State) : State :=
  { s with sense := { s.sense with sweep := some { full := full, chan := ch, stage := .signal, zero := 0 } } }

theorem test_SweepTimerExpires_witness :
    (let s := idleSense running; s.sense.timer ≠ none ∧ s.sense.sweep = none ∧ s.sense.setup = none
      ∧ s.sense.fullDue = false ∧ answers .sweepTimerExpiry s (·.sense.sweep.isSome) = true)
      ∧ (running.sense.timer ≠ none ∧ running.sense.sweep ≠ none
        ∧ answers .sweepTimerExpiry running (·.sense.remembered) = true) := by decide +kernel

theorem test_ConversionsRunTheChain_witness :
    let s := atSignal true .therm running
    (∃ w, running.sense.sweep = some w ∧ w.stage = .zero)
      ∧ (∃ w, s.sense.sweep = some w ∧ w.stage = .signal ∧ w.chan = .therm) ∧ (15#12).toNat < 16 ∧ 4079 < (4080#12).toNat
      ∧ (16 ≤ (16#12).toNat ∧ (4079#12).toNat ≤ 4079)
      ∧ (∃ w, (atSignal true .batt running).sense.sweep = some w ∧ w.stage = .signal ∧ w.chan = .batt ∧ w.full = true)
      ∧ answers (.conversionEnd 15#12) s (·.sense.thermFault) = true
      ∧ answers (.conversionEnd 4079#12) s (fun t => !t.sense.thermFault && t.sense.therm.filtered == 4079) = true
      ∧ answers (.conversionEnd 3136#12) (atSignal true .batt running) (·.sense.battery == 3920) = true :=
  ⟨⟨_, rfl, rfl⟩, ⟨_, rfl, rfl, rfl⟩, by decide, by decide, by decide, ⟨_, rfl, rfl, rfl, rfl⟩, by decide +kernel,
    by decide +kernel, by decide +kernel⟩

theorem test_ConversionsRunTheChain_channel :
    let c : Channel := { Channel.reset with trim := 255 }
    c.mode = .auto ∧ c.trim < ((4095 : Nat) : Int) ∧ (c.sample 4095 4095).trim = 255 ∧ Channel.reset.nextTrim 0 = 0
      ∧ ({ Channel.reset with trim := 3, mode := .manual }).nextTrim 9 = 3
      ∧ ((4095 : Int) * 256 ≤ 4095 * 256 + 128 ∧ (4095 : Int) * 256 + 128 < 4096 * 256 ∧ scaleSample 4095 256 = 4095)
      ∧ ((-1 : Int) * 256 ≤ -1 * 256 + 128 ∧ (-1 : Int) * 256 + 128 < 0 * 256 ∧ scaleSample (-1) 256 = 0)
      ∧ ((4096 : Int) * 256 ≤ 4096 * 256 + 128 ∧ scaleSample 4096 256 = 4095) := by decide

theorem test_ConversionsRunTheChain_inRange : ({ Channel.reset with trim := 255 } : Channel).InRange := by
  constructor <;> decide

theorem test_SweepEndClassifies_witness :
    (∃ w, (atSignal true .amb running).sense.sweep = some w ∧ w.stage = .signal ∧ w.chan = .amb ∧ w.full = true)
      ∧ (∃ w, (atSignal false .batt running).sense.sweep = some w ∧ w.stage = .signal ∧ w.chan = .batt ∧ w.full = false)
      ∧ running.power.seen = false
      ∧ answers (.conversionEnd 700#12) (atSignal true .amb running)
          (fun t => t.light.held == some 700 && t.power.cls == .exhausted) = true
      ∧ answers (.conversionEnd 3136#12) (atSignal false .batt running)
          (fun t => t.power.cls == .normal && t.sense.shown.battery == 3920) = true :=
  ⟨⟨_, rfl, rfl, rfl, rfl⟩, ⟨_, rfl, rfl, rfl, rfl⟩, by decide, by decide +kernel, by decide +kernel⟩

theorem test_ClassFollowsHysteresis_witness :
    let p : Power := { Power.reset with seen := true }
    let enter : SupplyClass → Nat := fun c => match c with
      | .reduced => 3500 | .critical => 3400 | .exhausted => 3300 | .normal => 0
    p.seen = true ∧ p.eCritical < p.eReduced ∧ p.eExhausted < p.eCritical ∧ p.eReduced + 20 ≤ p.xReduced
      ∧ p.eCritical + 20 ≤ p.xCritical ∧ p.eExhausted + 20 ≤ p.xExhausted ∧ enter .reduced = p.eReduced
      ∧ enter .critical = p.eCritical ∧ enter .exhausted = p.eExhausted
      ∧ (3499 < enter .reduced ∧ enter .critical ≤ 3499 ∧ enter .exhausted ≤ 3499
          ∧ p.cls.depth < SupplyClass.reduced.depth ∧ classify p 3499 = .reduced)
      ∧ (¬ 3500 < enter .reduced ∧ classify p 3500 = .normal) := by decide

theorem test_FilterMovesTowardSample_witness :
    let c : Channel := { Channel.reset with filtered := 4095, k := 4, seed := false }
    c.filtered ≤ 4095 ∧ c.k ≤ 4 ∧ c.seed = false ∧ Channel.reset.seed = true ∧ (c.sample 0 4080).filtered = 4095
      ∧ (c.sample 0 4079).filtered = 4094 := by decide +kernel

theorem test_CurveReadsBetweenPoints_witness :
    let curve : List (Nat × Int) := [(1600, 350), (2000, 150)]
    ascending curve = true ∧ curve ≠ [] ∧ curveAt 1600 curve = 350 ∧ curveAt 1703 curve = 299 ∧ curveAt 2000 curve = 150
      ∧ curveAt 4095 curve = 150 := by decide

theorem test_SenseSetupSteps_witness :
    (let s := offering .senseSetup [] attached; Ready .senseSetup (record .senseSetup []) s
      ∧ answers .senseSetup s (·.sense.setup.isSome) = true)
      ∧ (let r := record .senseSetup [(32, 4), (58, 0x58), (59, 2)]
        let s := idleSense (underway .senseSetup { attached with sense := { attached.sense with setup := some r } })
        s.sense.setup = some r ∧ s.sense.sweep = none ∧ s.sense.remembered = false ∧ s.sense.fullDue = false
          ∧ Writable .control r.addr s ∧ senseSetupOk r.bytes = true
          ∧ answers .senseSetupApply s (·.sense.amb.gain == 511) = true)
      ∧ (let r := record .senseSetup [(32, 0x11), (36, 1), (40, 0xFF), (41, 0x7F), (42, 0x80), (96, 200), (98, 0x88),
            (99, 0x13), (100, 60)]
        let s := idleSense (underway .senseSetup { attached with sense := { attached.sense with setup := some r } })
        Writable .control r.addr s ∧ senseSetupOk r.bytes = true ∧ bitAt r.bytes 32 0 = true
          ∧ answers .senseSetupApply s (fun t => t.sense.batt.trim == 255 && t.sense.batt.gain == 128
              && t.sense.timer == some 200 && t.sense.shown.battTrim == 255) = true)
      ∧ (let r := record .senseSetup [(32, 4), (52, 2)]
        let s := idleSense (underway .senseSetup { attached with sense := { attached.sense with setup := some r } })
        s.sense.setup = some r ∧ s.sense.sweep = none ∧ Writable .control r.addr s ∧ senseSetupOk r.bytes = false
          ∧ answers .senseSetupApply s (·.sense.amb.gain == 256) = true) := by decide +kernel

theorem test_LightRecordsApply_witness :
    (let f := [(32, 3), (33, 1), (36, 0xE9), (37, 3)]
      let s := offering .lightSet f attached
      Ready .lightSet (record .lightSet f) s ∧ lightSetMode (record .lightSet f).bytes s.light = some .manual
        ∧ lightSetClamped (record .lightSet f).bytes = true
        ∧ answers .lightSet s (fun t => t.light.level == 1000 && t.light.output == 0) = true)
      ∧ (let f := [(32, 4), (38, 0xFF), (39, 0x7F)]
        let l := { attached.light with mode := .auto, held := some 700, curve := [(0, 0), (4095, 1000)] }
        let s := offering .lightSet f { attached with light := l }
        Ready .lightSet (record .lightSet f) s ∧ lightSetMode (record .lightSet f).bytes s.light = some .auto
          ∧ s.light.curve ≠ [] ∧ answers .lightSet s (fun t => t.light.bias == 200 && t.light.level == 370) = true)
      ∧ (let f := [(32, 1), (33, 3)]
        let s := offering .lightSet f attached
        Ready .lightSet (record .lightSet f) s ∧ lightSetMode (record .lightSet f).bytes s.light = none
          ∧ answers .lightSet s (·.light == s.light) = true)
      ∧ (let f := [(32, 2), (40, 0xFF), (41, 0x0F), (42, 0xE8), (43, 3)]
        let s := offering .lightCurve f attached
        Ready .lightCurve (record .lightCurve f) s ∧ lightCurveOk (record .lightCurve f).bytes = true
          ∧ answers .lightCurve s (·.light.curve == [(0, 0), (4095, 1000)]) = true
          ∧ (let u := { s with light := { s.light with mode := .auto, held := some 4095, bias := 200 } };
            Ready .lightCurve (record .lightCurve f) u ∧ u.light.mode = .auto
              ∧ answers .lightCurve u (·.light.level == 1000) = true))
      ∧ (let s := offering .lightCurve [(32, 1)] attached
        Ready .lightCurve (record .lightCurve [(32, 1)]) s ∧ lightCurveOk (record .lightCurve [(32, 1)]).bytes = false
          ∧ answers .lightCurve s (·.light.curve == []) = true) := by decide +kernel

theorem test_RampAndLatch_witness :
    let s := { running with light := { Light.reset with target := 205, output := 200, warm := 7 } }
    (s.light.output ≤ s.light.target) ∧ answers .rampTick s (·.light.output == 205) = true
      ∧ answers .pwmPeriodStart s (·.light.latchedWarm == 7) = true := by decide +kernel

theorem test_StringsAndDuties_witness :
    let l : Light := { Light.reset with latchedWarm := 3968, latchedCool := 0, output := 1000, warmth := 100 }
    l.latchedWarm ≤ 3968 ∧ l.latchedWarm + l.latchedCool ≤ 3968 ∧ l.warmLit 4095 = true ∧ l.output ≤ 1000
      ∧ l.warmth ≤ 100 ∧ l.mix.warm = 3968 ∧ l.mix.cool = 0
      ∧ (let o : Light := { Light.reset with latchedWarm := 3968, latchedCool := 1 };
          3968 < o.latchedWarm + o.latchedCool ∧ o.coolLit 4095 = true ∧ o.coolLit 4094 = false) := by decide +kernel

/-! ## Witnesses: the Power Controller, the keys and working memory -/

theorem test_PowerSetupApplies_witness :
    (let f := [(32, 2), (46, 60), (48, 240), (50, 0x10), (51, 0x27)];
      Ready .powerSetup (record .powerSetup f) (offering .powerSetup f attached)
        ∧ powerSetupOk (record .powerSetup f).bytes = true
        ∧ answers .powerSetup (offering .powerSetup f attached) (·.store.idleTime == 10000) = true)
      ∧ (let f := [(32, 2), (46, 61), (48, 240), (50, 10)];
        Ready .powerSetup (record .powerSetup f) (offering .powerSetup f attached)
          ∧ powerSetupOk (record .powerSetup f).bytes = false
          ∧ answers .powerSetup (offering .powerSetup f attached) (·.power.graceTime == 10) = true) := by decide +kernel

theorem test_PowerSleepOutcome_witness :
    (let f := [(32, 1), (34, 0x60), (35, 0x27)];
      Ready .powerSleep (record .powerSleep f) (offering .powerSleep f attached) ∧ Quiet (offering .powerSleep f attached)
        ∧ byteAt (record .powerSleep f).bytes 32 ≤ 1 ∧ half (record .powerSleep f).bytes 34 = 10080
        ∧ attached.power.state = .run ∧ attached.panel.engine ≠ .halted ∧ attached.power.cls ≠ .exhausted
        ∧ answers .powerSleep (offering .powerSleep f attached)
            (fun t => t.power.state == .deepEntry && t.power.depth == .deep && t.link.state == .detaching) = true)
      ∧ (Ready .powerSleep (record .powerSleep []) (offering .powerSleep [] attached)
        ∧ byteAt (record .powerSleep []).bytes 32 = 0
        ∧ answers .powerSleep (offering .powerSleep [] attached)
            (fun t => t.power.state == .dozeEntry && t.power.depth == .doze && t.power.wakeSetting == 0) = true)
      ∧ (let s := offering .powerSleep [] { attached with power := { attached.power with cls := .exhausted } };
        Ready .powerSleep (record .powerSleep []) s ∧ s.power.cls = .exhausted
          ∧ answers .powerSleep s (·.power.state == .run) = true)
      ∧ (let s := offering .powerSleep [] (inPower .waking attached);
        Ready .powerSleep (record .powerSleep []) s ∧ s.power.state ≠ .run
          ∧ answers .powerSleep s (fun t => t.power.state == .waking
              && t.bus.queue.contains (.resultWrite .control 0x2000#32 .lowSupply 0#32 0)) = true)
      ∧ (let f := [(32, 0), (34, 0x61), (35, 0x27)];
        Ready .powerSleep (record .powerSleep f) (offering .powerSleep f attached)
          ∧ 10080 < half (record .powerSleep f).bytes 34
          ∧ answers .powerSleep (offering .powerSleep f attached) (·.power.state == .run) = true)
      ∧ (let s := offering .powerSleep [] { attached with panel := { attached.panel with engine := .halted } };
        Ready .powerSleep (record .powerSleep []) s ∧ s.panel.engine = .halted
          ∧ answers .powerSleep s (·.power.state == .run) = true) := by decide +kernel

theorem test_PowerTimersExpire_witness :
    (let s := { attached with power := { attached.power with graceTimer := some 10 } };
      s.power.graceTimer ≠ none ∧ s.power.descentPending = false
        ∧ answers .graceTimerExpiry s (fun t => t.power.forced && t.power.state == .deepEntry) = true)
      ∧ (let t := underway .panelUpdate attached
        let e : Entry := { id := 1, src := .record 0x2000#32, rect := { x := 0, y := 0, w := 1, h := 1 },
                           mode := .mono, changedOnly := false, maySupersede := false, image := 0#32, stride := 1,
                           detail := 0#32 }
        let s := { t with
          power := { t.power with graceTimer := some 10 }, panel := { t.panel with pending := [e], engine := .halted } };
        s.power.graceTimer ≠ none ∧ s.power.descentPending = false ∧ Writable .display 0x2000#32 s
          ∧ answers .graceTimerExpiry s (fun t => t.panel.pending.isEmpty
              && t.bus.queue.contains (.resultWrite .display 0x2000#32 .lowSupply 0#32 0)) = true)
      ∧ (let t := underway .waveformLoad attached
        let s := { t with
          power := { t.power with graceTimer := some 10 },
          wave := { t.wave with load := some { loadOf (record .waveformLoad []) with stage := .bankWait } } };
        (∃ l, s.wave.load = some l ∧ l.stage = .bankWait ∧ Writable .display l.addr s)
          ∧ answers .graceTimerExpiry s (fun t => t.wave.load.isNone
              && t.bus.queue.contains (.resultWrite .display 0x2000#32 .lowSupply 0#32 0)) = true)
      ∧ (let s := inPower .dozeQuiet { running with power := { running.power with dozeTimer := some 30 } };
        s.power.dozeTimer ≠ none ∧ s.power.descentPending = false ∧ Quiet s ∧ s.panel.engine ≠ .halted
          ∧ answers .dozeTimerExpiry s (·.power.state == .deepEntry) = true)
      ∧ (let s := inPower .dozeTurning { running with power := { running.power with wakeTimer := some 5 } };
        s.power.wakeTimer ≠ none ∧ s.power.descentPending = false ∧ s.power.state = .dozeTurning
          ∧ answers .wakeTimerExpiry s (fun t => t.power.state == .waking && t.regs.hostwake) = true)
      ∧ (let s := inPower .deep { running with power := { running.power with wakeTimer := some 5 } };
        s.power.wakeTimer ≠ none ∧ s.power.state = .deep ∧ s.power.cls ≠ .exhausted
          ∧ answers .wakeTimerExpiry s (·.power.state == .waking) = true)
      ∧ (let s := inPower .deep { running with power :=
          { running.power with wakeTimer := some 5, cls := .exhausted } };
        s.power.wakeTimer ≠ none ∧ s.power.state = .deep ∧ s.power.cls = .exhausted
          ∧ answers .wakeTimerExpiry s (·.power.state == .deep) = true) := by decide +kernel

theorem test_PowerStatesAreReached_doze :
    (let s := inPower .dozeEntry running;
      s.power.state = .dozeEntry ∧ s.link.state = .detached ∧ s.panel.engine = .off ∧ s.turn.queue = []
        ∧ s.turn.state = .idle ∧ s.store.op = none ∧ s.store.erase = none ∧ s.store.ta = none ∧ s.store.wf = none
        ∧ s.store.ex = none ∧ s.executor.phase = .idle ∧ s.power.drainAsked = false ∧ s.wm.state = .active
        ∧ answers .dozeDrainComplete s (·.wm.state == .entering) = true)
      ∧ (let s := inPower .dozeEntry { running with
          wm := { running.wm with state := .entering }, power := { running.power with drainAsked := true } };
        s.power.drainAsked = true ∧ s.store.power = .off ∧ s.wm.state = .entering ∧ s.wm.debt = 0
          ∧ s.wm.running = none ∧ s.wm.waiting = []
          ∧ answers .selfRefreshEntry s (fun t => t.power.state == .dozeQuiet && t.power.dozeTimer == some 30) = true) := by
  decide +kernel

theorem test_PowerStatesAreReached_deepAndRun :
    (let s := inPower .deepEntry running;
      s.power.state = .deepEntry ∧ s.link.state = .detached ∧ s.link.attaching = false ∧ s.panel.engine = .off
        ∧ s.turn.state = .idle ∧ s.turn.queue = [] ∧ s.store.op = none ∧ s.store.erase = none ∧ s.store.ta = none
        ∧ s.store.wf = none ∧ s.store.ex = none ∧ s.executor.phase = .idle ∧ s.power.remembered = none
        ∧ answers .deepEntryComplete s (fun t => t.power.state == .deep && !t.power.vddMain) = true)
      ∧ (let s := inPower .waking { running with
          regs := { Regs.reset with attachWaits := true }, power := { running.power with cls := .exhausted } };
        s.power.state = .waking ∧ s.wm.state = .active ∧ s.power.resetPending = false ∧ s.power.cls = .exhausted
          ∧ s.power.graceTimer = none ∧ s.power.forced = false ∧ s.regs.attachWaits = true ∧ s.link.state = .detached
          ∧ answers .wakingComplete s (fun t => t.power.state == .run && t.power.graceTimer == some 10
              && t.link.attaching) = true)
      ∧ (let s := inPower .waking running; s.power.cls ≠ .exhausted ∧ s.regs.attachWaits = false
          ∧ answers .wakingComplete s (·.power.state == .run) = true) := by decide +kernel

theorem test_PowerStatesAreReached_others :
    (let s := inPower .dozeTurning running; s.power.descentPending = false ∧ s.panel.engine = .off
      ∧ s.power.drainAsked = false ∧ answers .dozeDrainComplete s (·.wm.state == .entering) = true)
      ∧ (let s := inPower .dozeTurning { running with
          wm := { running.wm with state := .entering },
          power := { running.power with drainAsked := true, dozeTimer := some 7, wakeTimer := some 9 } };
        s.power.drainAsked = true ∧ s.store.power = .off ∧ s.wm.state = .entering ∧ s.wm.debt = 0
          ∧ answers .selfRefreshEntry s (fun t => t.power.state == .dozeQuiet && t.power.dozeTimer == some 7
              && t.power.wakeTimer == some 9) = true)
      ∧ (let s := inPower .deepEntry { running with power := { running.power with remembered := some .coverOpen } };
        s.power.remembered = some .coverOpen ∧ WakeReason.coverOpen.reachesDeep = true ∧ s.power.cls ≠ .exhausted
          ∧ answers .deepEntryComplete s (fun t => t.power.state == .waking && t.power.wakeReason == .coverOpen
              && t.regs.hostwake) = true)
      ∧ (let s := inPower .deepEntry { running with
          power := { running.power with remembered := some .attach, cls := .exhausted },
          regs := { Regs.reset with attachWaits := true } };
        s.power.remembered = some .attach ∧ s.power.cls = .exhausted ∧ WakeReason.attach.reachesDeep = true
          ∧ answers .deepEntryComplete s (fun t => t.power.state == .deep && !t.regs.attachWaits) = true)
      ∧ (let s := inPower .deepEntry { running with power :=
          { running.power with depth := .deep, wakeSetting := 5 } };
        s.power.wakeTimer = none ∧ s.power.depth = .deep ∧ s.power.wakeSetting ≠ 0
          ∧ answers .deepEntryComplete s (fun t => t.power.state == .deep && t.power.wakeTimer == some 5) = true) := by
  decide +kernel

/-- Every input at a level for 20 ms, its change to be found. -/
def changing (level : Bool) (s : State) : State :=
  let x : InputState := { level := level, debounced := !level, settled := true, measuring := some level }
  { s with keys := { s.keys with fwd := x, back := x, menu := x, power := x, cover := x, charger := x } }

/-- Every key down, the cover closed and a charger connected, to be found. -/
abbrev pressing (s : State) : State := changing true s

/-- Every key up, the cover open and no charger, to be found. -/
abbrev releasing (s : State) : State := changing false s

/-- The header of a set: GRAY16 and CLEAR, one range, one frame each, period 15.0 ms, 388 bytes. -/
def setHeader : List Byte :=
  [0x56#8, 0x4A#8, 0x57#8, 0x46#8, 3#8, 1#8, 0#8, 0#8, 150#8, 0#8, 244#8, 1#8] ++ List.replicate 24 0#8
    ++ le32 388 ++ List.replicate 8 0#8 ++ [1#8] ++ List.replicate 11 0#8 ++ [1#8] ++ List.replicate 195 0#8

theorem test_InputsAndPresses_inputs :
    (running.keys.input .fwd).level ≠ true ∧ (running.keys.input .fwd).measuring = some false
      ∧ (running.keys.input .fwd).settled = false
      ∧ (pressing running).keys.fwd.measuring = some true
      ∧ answers (.inputChange .fwd true) running (·.keys.fwd.measuring == some true) = true
      ∧ answers (.debounceEnd .fwd) running (·.keys.fwd.settled) = true
      ∧ answers (.inputChange .menu false) (pressing running) (·.keys.menu.measuring == none) = true := by
  decide +kernel

theorem test_InputsAndPresses_found :
    (let s := pressing running; Found .menu true s ∧ Quiet s ∧ ¬ InDoze s ∧ Found .fwd true s ∧ s.turn.armed = false
        ∧ answers (.debounceEnd .menu) s (fun t => t.keys.countMenu == 1#16 && t.regs.cause == 16#13) = true
        ∧ answers (.debounceEnd .fwd) s (fun t => t.keys.countFwd == 1#16 && t.turn.queue.isEmpty) = true
        ∧ answers (.debounceEnd .cover) s (·.regs.cause == 32#13) = true)
      ∧ (let s := releasing (inPower .deep running); Found .power false s ∧ Quiet s
        ∧ answers (.debounceEnd .power) s (fun t => t.power.state == .deep && t.keys.countPower == 0#16) = true)
      ∧ (let s := pressing (inPower .deepEntry running); Found .fwd true s ∧ Found .cover true s ∧ Quiet s
        ∧ answers (.debounceEnd .fwd) s (fun t => t.power.remembered.isNone && t.turn.queue.isEmpty) = true
        ∧ answers (.debounceEnd .cover) s (·.power.remembered.isNone) = true) := by decide +kernel

theorem test_InputsAndPresses_wakes :
    (let s := pressing (inPower .dozeTurning running); InDoze s ∧ Quiet s ∧ Found .menu true s ∧ Found .back true s
        ∧ s.turn.armed = false
        ∧ answers (.debounceEnd .menu) s (fun t => t.power.state == .waking && t.power.wakeReason == .menu) = true
        ∧ answers (.debounceEnd .power) s (·.power.wakeReason == .power) = true
        ∧ answers (.debounceEnd .charger) s (·.power.wakeReason == .charger) = true
        ∧ answers (.debounceEnd .back) s (fun t => t.power.wakeReason == .back && t.keys.countBack == 1#16) = true)
      ∧ (let s := pressing (inPower .dozeQuiet running); InDoze s ∧ Quiet s ∧ Found .cover true s
        ∧ s.power.coverAction = .deepOnClose ∧ s.panel.engine ≠ .halted
        ∧ answers (.debounceEnd .cover) s (fun t => t.power.state == .deepEntry && t.light.fade) = true)
      ∧ (let s := releasing (inPower .deepEntry running); Found .cover false s ∧ Quiet s
        ∧ s.power.state = .deepEntry ∧ answers (.debounceEnd .cover) s (·.power.remembered == some .coverOpen) = true)
      ∧ (let s := pressing (inPower .deep running); Found .power true s ∧ Quiet s ∧ s.power.cls ≠ .exhausted
        ∧ answers (.debounceEnd .power) s (fun t => t.power.state == .waking && t.power.vddMain) = true)
      ∧ (let s := pressing (inPower .deep { running with power := { running.power with cls := .exhausted } });
        Found .charger true s ∧ s.power.cls = .exhausted ∧ Quiet s
          ∧ answers (.debounceEnd .charger) s (·.power.wakeReason == .charger) = true
          ∧ answers (.debounceEnd .power) s (·.power.state == .deep) = true) := by decide +kernel

/-- The list of three entries armed, the cursor at the middle one, a set with GRAY16 in force. -/
def armedList (s : State) : State :=
  let e (bad : Bool) : TurnEntry := { block := 4, first := 2, count := 3, mode := .gray16, bad := bad }
  pressing { s with
    wm := { s.wm with bankA := setHeader }, wave := { s.wave with validA := true, range := some 0 },
    turn := { s.turn with armed := true, entries := [e true, e false, e false], cursor := 1 } }

theorem test_InputsAndPresses_turns :
    (let s := armedList { running with turn := { Turn.reset with state := .reading, queue := [.fwd, .fwd, .fwd] } };
      Found .fwd true s ∧ s.turn.armed = true ∧ s.turn.state = .reading ∧ s.panel.pending = []
        ∧ s.power.descentPending = false ∧ s.power.drainAsked = false ∧ s.power.state = .run
        ∧ answers (.debounceEnd .back) s (·.turn.queue == [.fwd, .fwd, .fwd, .back]) = true
        ∧ answers (.debounceEnd .fwd) { s with turn := { s.turn with queue := [.fwd, .fwd, .fwd, .back] } }
            (·.turn.queue.length == 4) = true)
      ∧ (let s := armedList running; Found .fwd true s ∧ s.turn.state = .idle ∧ s.turn.queue = [] ∧ s.turn.load = none
        ∧ s.turn.arm = none ∧ (s.turn.entries[2]?).any (fun e => !e.bad && modeInForce e.mode s) = true
        ∧ s.turn.frameA = .free ∧ s.store.power = .off
        ∧ answers (.debounceEnd .fwd) s (fun t => t.turn.state == .reading && t.turn.target == 2
            && t.store.ta == some 258 && t.turn.frameA == .filling) = true
        ∧ answers (.debounceEnd .back) s (fun t => t.turn.state == .idle && t.regs.cause == 0x410#13) = true
        ∧ answers (.debounceEnd .fwd) { s with turn := { s.turn with cursor := 2 } }
            (fun t => t.turn.state == .idle && t.regs.cause == 0x210#13) = true)
      ∧ (let s := armedList (inPower .dozeQuiet { running with
          wm := { running.wm with state := .selfRefresh }, turn := { Turn.reset with frameA := .held } });
        s.power.state = .dozeQuiet ∧ s.wm.state = .selfRefresh ∧ s.turn.frameA ≠ .free ∧ s.turn.frameB = .free
          ∧ answers (.debounceEnd .fwd) s (fun t => t.power.state == .dozeTurning && t.wm.state == .leaving
              && t.turn.frameB == .filling) = true
          ∧ answers (.debounceEnd .back) s (fun t => t.power.state == .waking && t.power.wakeReason == .turnError)
              = true)
      ∧ (let s := armedList { running with turn := { Turn.reset with frameA := .held, frameB := .held } };
        s.turn.frameA ≠ .free ∧ s.turn.frameB ≠ .free
          ∧ answers (.debounceEnd .fwd) s (·.turn.queue == [.fwd]) = true) := by decide +kernel

theorem test_ArbiterDecides_witness :
    (running.wm.state = .active ∧ running.wm.debt ≤ 8 ∧ running.wm.running = none ∧ running.wm.waiting = []
        ∧ answers .refreshDue running (fun t => t.wm.running == some .refresh && t.wm.debt == 0) = true)
      ∧ (let s := { running with wm := { running.wm with debt := 2, running := some .refresh } };
        s.wm.debt ≤ 8 ∧ s.wm.running = some .refresh ∧ s.wm.waiting = []
          ∧ answers .refreshDue s (·.wm.debt == 3) = true
          ∧ answers (.refreshEnd []) s (fun t => t.wm.debt == 1 && t.wm.running == some .refresh) = true)
      ∧ (let s := { running with wm := { running.wm with
          debt := 8, running := some (.burst .decoder), waiting := [.frameScan, .decoder] } };
        s.wm.debt = 8 ∧ s.wm.running = some (.burst .decoder)
          ∧ answers (.burstEnd []) s (fun t => t.wm.running == some .refresh && t.wm.debt == 7) = true)
      ∧ (let s := { running with wm := { running.wm with
          debt := 7, running := some (.burst .decoder), waiting := [.frameScan, .decoder] } };
        s.wm.debt < 8 ∧ .frameScan ∈ s.wm.waiting
          ∧ answers (.burstEnd []) s (·.wm.running == some (.burst .frameScan)) = true)
      ∧ (let s := { running with wm := { running.wm with
          debt := 7, running := some (.burst .decoder), waiting := [.decoder, .imageCopier], rr := .decoder } }
        let place : WmClient → Nat := fun c => match c with
          | .imageCopier => 0 | .retirePass => 1 | .decoder => 2 | .waveformLoader => 3 | .storeReader => 4
          | .frameScan => 5
        s.wm.debt < 8 ∧ .frameScan ∉ s.wm.waiting ∧ s.wm.rr ≠ .frameScan ∧ .imageCopier ∈ s.wm.waiting
          ∧ (∀ x ∈ s.wm.waiting, (place .imageCopier + 4 - place s.wm.rr) % 5 ≤ (place x + 4 - place s.wm.rr) % 5)
          ∧ answers (.burstEnd []) s (·.wm.running == some (.burst .imageCopier)) = true) := by decide +kernel

theorem test_MemoryBecomesActive_witness :
    (let s := { running with wm := { running.wm with state := .leaving } };
      s.wm.srHeld = false ∧ s.power.resetPending = false ∧ s.wm.state = .leaving
        ∧ answers .memoryLeaveEnd s (·.wm.state == .active) = true)
      ∧ (State.reset.wm.srHeld = false ∧ State.reset.wm.state = .initialising
        ∧ answers .initialisingEnd State.reset (·.wm.state == .active) = true)
      ∧ (let s := inPower .waking { running with
          wm := { running.wm with state := .leaving }, power := { running.power with resetPending := true } };
        s.wm.state = .leaving ∧ s.power.resetPending = true
          ∧ answers .memoryLeaveEnd s (fun t => t.wm.state == .initialising && !t.power.resetPending) = true) := by
  decide +kernel

/-! ## Witnesses: the Waveform Unit and the Panel Update Engine -/

/-- The first 40 bytes of a set of 44 bytes with its CRC-32 behind them. -/
def shortSet : List Byte := setHeader.take 36 ++ le32 44

/-- The slot an update of the last pixel takes. -/
def cornerSlot (st : SlotState) : Slot :=
  { state := st, id := 0, src := .record 0x2000#32, rect := { x := 1599, y := 1199, w := 1, h := 1 },
    eff := { x := 1599, y := 1199, w := 1, h := 1 }, mode := .mono, effMode := .mono, changedOnly := false,
    image := 0#32, stride := 1, unknownStart := false, bank := .a, table := 256, frames := 1, frame := 0, driven := 0,
    detail := 0#32, abort := .stopped }

/-- A WAVEFORM_LOAD in progress at a stage. -/
def loading (stage : LoadStage) (bank : List Byte) (s : State) : State :=
  let t := underway .waveformLoad s
  { t with
      wm := { t.wm with bankB := bank },
      wave := { t.wave with load := some { loadOf (record .waveformLoad [(36, 1)]) with stage := stage } } }

theorem test_WaveformLoadBegins_witness :
    (let f := [(32, 0xFF), (33, 0x0F), (34, 63), (36, 2)];
      Ready .waveformLoad (record .waveformLoad f) (offering .waveformLoad f attached)
        ∧ 262144 < half (record .waveformLoad f).bytes 32 * 64 + 63 + 2
        ∧ answers .waveformLoad (offering .waveformLoad f attached) (·.wave.load.isNone) = true)
      ∧ (let f := [(32, 0xFF), (33, 0x0F), (34, 63), (36, 1)];
        Ready .waveformLoad (record .waveformLoad f) (offering .waveformLoad f attached)
          ∧ loadInRange (record .waveformLoad f).bytes = true ∧ attached.power.forced = false
          ∧ attached.panel.engine ≠ .halted
          ∧ answers .waveformLoad (offering .waveformLoad f attached) (·.wave.load.isSome) = true)
      ∧ ((loading .listWait [] attached).wave.load.isSome = true ∧ attached.panel.pending = []
        ∧ answers .waveformListEmpty (loading .listWait [] attached)
            (fun t => t.wave.load.any (·.stage == .bankWait)) = true)
      ∧ (let s := loading .bankWait [] { attached with store := { attached.store with power := .poweringUp } };
        s.wave.active = .a ∧ s.panel.slots = [] ∧ s.store.power = .poweringUp
          ∧ answers .waveformBankFree s (·.store.wf == some 0) = true) := by decide +kernel

theorem test_WaveformLoadBegins_array (st : Store) :
    LoaderAsks { attached with store := { st with power := .poweringUp } } 9
        { { st with power := .poweringUp } with wf := some 9 }
      ∧ LoaderAsks { attached with store := { st with power := .off } } 9
        { { st with power := .off } with power := .poweringUp, idle := none, wf := some 9 }
      ∧ LoaderAsks { attached with store := { st with power := .on, op := some (.mark 3) } } 9
        { { st with power := .on, op := some (.mark 3) } with wf := some 9 }
      ∧ LoaderAsks { attached with store := { st with power := .on, op := none, erase := none, ta := none } } 9
        { { st with power := .on, op := none, erase := none, ta := none } with
          op := some (.read .waveform 9 false), idle := none, wf := none } :=
  ⟨.inl ⟨rfl, rfl⟩, .inr (.inl ⟨rfl, rfl, rfl⟩), .inr (.inr (.inl ⟨rfl, nofun, rfl⟩)),
    .inr (.inr (.inr ⟨rfl, rfl, rfl, rfl, rfl⟩))⟩

theorem test_WaveformPagesAndFlip_next :
    let t := loading .reading [] attached
    let s := { t with wave := { t.wave with load := t.wave.load.map fun l =>
      { l with page := some [7#8], progress := 1, needed := 3 } } };
    s.wm.state = .active ∧ (s.wave.load.any fun l => l.page.isSome && l.progress == 1 && l.needed == 3) = true
      ∧ s.store.power = .off ∧ s.power.drainAsked = false ∧ Writable .display 0x2000#32 s
      ∧ answers .waveformPageWritten s (fun t => t.store.power == .poweringUp && t.store.wf == some 2
          && t.wave.load.any (·.progress == 2)) = true := by decide +kernel

/-- The header of a set of two pages: 60 frames of CLEAR and 60 of GRAY16. -/
def longHeader : List Byte :=
  setHeader.take 36 ++ le32 7940 ++ List.replicate 8 0#8 ++ [60#8] ++ List.replicate 11 0#8 ++ [60#8]
    ++ List.replicate 195 0#8

theorem test_WaveformPagesAndFlip_first :
    let t := loading .reading [] attached
    let s (count : Nat) (page : List Byte) := { t with wave := { t.wave with load := t.wave.load.map fun l =>
      { l with page := some page, count := count } } };
    headerOk longHeader 2 = true ∧ setPages longHeader = 2 ∧ (s 2 longHeader).store.power = .off
      ∧ answers .waveformPageWritten (s 2 longHeader) (fun t => t.store.wf == some 1
          && t.wave.load.any fun l => l.progress == 1 && l.needed == 2) = true
      ∧ answers .waveformPageWritten (s 1 setHeader) (fun t => t.wave.load.any (fun l => l.stage == .checking)
          && t.store.wf == none && t.wm.running == some (.burst .waveformLoader)) = true
      ∧ (s 1 setHeader).wm.state = .active ∧ (s 1 setHeader).wm.debt < 8 ∧ (s 1 setHeader).wm.running = none
      ∧ (s 1 setHeader).wm.waiting = [] := by decide +kernel

theorem test_WaveformPagesAndFlip_witness :
    (let t := loading .reading [] attached
      let s := { t with wave := { t.wave with load := t.wave.load.map fun l =>
        { l with page := some [0#8] } } };
      s.wm.state = .active ∧ (s.wave.load.any fun l => l.page.isSome && l.progress == 0) = true
        ∧ Writable .display 0x2000#32 s
        ∧ answers .waveformPageWritten s (fun t => t.wave.load.isNone && t.wm.bankB == [0#8]) = true)
      ∧ (let s := loading .checking (shortSet ++ le32 (crc32 shortSet).toNat) attached;
        s.wm.state = .active ∧ Writable .display 0x2000#32 s ∧ s.sense.shown.temperature = none
          ∧ bankReferenced s.wave.active s = false
          ∧ answers .waveformCrcCheckEnd s (fun t => t.wave.active == .b && t.wave.validB && t.wave.period == 150
              && t.wave.range == some 0) = true)
      ∧ (let t := loading .checking (shortSet ++ le32 (crc32 shortSet).toNat) attached
        let s := { t with
          sense := { t.sense with shown := { t.sense.shown with temperature := some 250 } },
          panel := { t.panel with slots := [(0, cornerSlot .running)] } };
        s.sense.shown.temperature = some 250 ∧ bankReferenced s.wave.active s = true
          ∧ answers .waveformCrcCheckEnd s (fun t => t.wave.active == .b && t.wave.period == 0) = true)
      ∧ (let s := loading .checking (shortSet ++ le32 0) attached;
        answers .waveformCrcCheckEnd s (fun t => t.wave.active == .a && t.wave.load.isNone) = true) := by
  decide +kernel

theorem test_RangeFollowsTemperature_witness :
    let v : Wave := { Wave.reset with range := some 0 }
    1 ≤ setRanges setHeader ∧ v.range = some 0 ∧ v.fromDefault = false ∧ candidate setHeader (-400) 1 = 0
      ∧ ({ v with fromDefault := true }).fromDefault = true := by decide +kernel

theorem test_RangeFollowsTemperature_sweep :
    (let s := atSignal true .amb { running with
        power := { running.power with seen := true },
        wm := { running.wm with bankA := setHeader },
        wave := { running.wave with validA := true, range := some 0, fromDefault := true },
        sense := { running.sense with temperature := some 250, battery := 4000 } };
      (∃ w, s.sense.sweep = some w ∧ w.stage = .signal ∧ w.chan = .amb ∧ w.full = true)
        ∧ classify s.power s.sense.battery = s.power.cls ∧ s.power.vddMain = true ∧ s.sense.temperature = some 250
        ∧ s.wave.valid s.wave.active = true
        ∧ answers (.conversionEnd 9#12) s (!·.wave.fromDefault) = true
        ∧ answers (.conversionEnd 9#12) { s with sense := { s.sense with temperature := none } } (·.wave.fromDefault)
            = true)
      ∧ (let s := atSignal false .batt { running with power := { running.power with seen := true } };
        s.power.cls = classify s.power ((s.sense.batt.sample 0 4000).filtered * 5 / 4)
          ∧ answers (.conversionEnd 4000#12) s (·.wave == running.wave) = true) := by
  refine ⟨⟨⟨_, rfl, rfl, rfl, rfl⟩, ?_⟩, ?_⟩ <;> decide +kernel

/-- A set in force in bank A, the panel Known. -/
def showing (s : State) : State :=
  { s with
      wm := { s.wm with bankA := setHeader },
      wave := { s.wave with validA := true, range := some 0 },
      panel := { s.panel with known := true } }

/-- A GRAY16 update of one pixel at the panel's last corner, wider than the panel. -/
def cornerUpdate : List (Nat × Nat) :=
  [(32, 0x3F), (33, 6), (34, 0xAF), (35, 4), (36, 2), (38, 1), (41, 0x10), (44, 1), (46, 1)]

theorem test_PanelUpdateOutcome_witness :
    (let f := [(46, 4)]; Ready .panelUpdate (record .panelUpdate f) (offering .panelUpdate f attached)
        ∧ 3 < byteAt (record .panelUpdate f).bytes 46
        ∧ answers .panelUpdate (offering .panelUpdate f attached) (·.panel.pending.isEmpty) = true)
      ∧ (Ready .panelUpdate (record .panelUpdate []) (offering .panelUpdate [] attached)
        ∧ attached.wave.validA = false ∧ attached.wave.validB = false)
      ∧ (let s := offering .panelUpdate cornerUpdate (showing attached)
        let b := (record .panelUpdate cornerUpdate).bytes
        Ready .panelUpdate (record .panelUpdate cornerUpdate) s ∧ modeOfCode (byteAt b 46) = some .gray16
          ∧ s.wave.active = .a ∧ s.wave.validA = true ∧ setHasMode (s.wm.header .a) .gray16 = true
          ∧ (rawRect b).isEmpty = false ∧ (rawRect b).clip.w ≤ half b 44 ∧ s.power.forced = false
          ∧ s.power.cls ≠ .exhausted ∧ Quiet s ∧ s.panel.engine = .off ∧ s.panel.slots = [] ∧ s.panel.stops = []
          ∧ s.panel.known = true ∧ s.panel.uncertain = []
          ∧ answers .panelUpdate s (fun t => t.panel.engine == .rising && t.panel.slots.length == 1) = true) := by
  decide +kernel

theorem test_PanelUpdateOutcome_promoted :
    let s (known : Bool) := offering .panelUpdate cornerUpdate { showing attached with
      panel := { (showing attached).panel with
        known := known, uncertain := if known then [{ x := 1598, y := 1198, w := 2, h := 2 }] else [] } }
    let c := (rawRect (record .panelUpdate cornerUpdate).bytes).clip
    (∀ known, (s known).panel.known = known ∧ (s known).panel.copyQueue = []
        ∧ ((s known).bus.queue ++ (s known).bus.transfers).all (fun a => !a.isRows 0) = true ∧ setHasMode ((s known).wm.header .a) .clear = true)
      ∧ (s true).panel.uncertain.any (fun u => c.intersects u) = true
      ∧ answers .panelUpdate (s true) (fun t => t.panel.slots.any fun x => x.2.effMode == .clear && x.2.eff == c) = true
      ∧ answers .panelUpdate (s false) (fun t => t.panel.slots.any fun x =>
          x.2.effMode == .clear && x.2.eff.w == 1600 && x.2.rect == c && x.2.detail == 0xB#32) = true := by
  decide +kernel

theorem test_PanelUpdateOutcome_halted :
    let u := inPower .dozeEntry (showing attached)
    let s := offering .panelUpdate cornerUpdate { u with panel := { u.panel with engine := .halted, flushed := true } };
    Ready .panelUpdate (record .panelUpdate cornerUpdate) s ∧ s.panel.engine = .halted ∧ s.panel.flushed = true
      ∧ s.power.state = .dozeEntry ∧ modeInForce .gray16 s = true
      ∧ answers .panelUpdate s (fun t => t.panel.pending.isEmpty && t.bus.queue.contains
          (.resultWrite .display 0x2000#32 .panelHalted 1#32 0)) = true := by decide +kernel

theorem test_PanelUpdateOutcome_superseded :
    let e : Entry := { id := 3, src := .record 0x2000#32, rect := { x := 1599, y := 1199, w := 1, h := 1 },
                       mode := .gray16, changedOnly := false, maySupersede := true, image := 0#32, stride := 1,
                       detail := 0#32 }
    let t := underway .panelUpdate (showing attached)
    let s := { t with
      power := { t.power with cls := .exhausted }, panel := { t.panel with pending := [e], nextId := 4 },
      link := t.link.setLane .display fun l =>
        { l with state := .taking, copy := some { record .panelUpdate cornerUpdate with addr := 0x3000#32 } } };
    Ready .panelUpdate { record .panelUpdate cornerUpdate with addr := 0x3000#32 } s ∧ s.power.cls = .exhausted
      ∧ s.power.state = .run ∧ s.turn.state = .idle ∧ s.turn.queue = [] ∧ s.power.descentPending = false
      ∧ Writable .display 0x2000#32 s ∧ e.maySupersede = true
      ∧ e.rect.inside (rawRect (record .panelUpdate cornerUpdate).bytes).clip = true
      ∧ (∀ x ∈ s.panel.pending, x.src = .record 0x2000#32)
      ∧ answers .panelUpdate s (fun t => t.panel.pending.map (·.id) == [4] && t.bus.queue.contains
          (.resultWrite .display 0x2000#32 .superseded 0#32 0)) = true := by decide +kernel

/-- Slot 7 active with that update, the engine DRIVING, panel state written at the last two pixels. -/
def withSlot (st : SlotState) (s : State) : State :=
  let t := underway .panelUpdate (showing s)
  { t with
      wm := { t.wm with panel := [(1919998, { current := 1#4, target := 2#4, slot := 7#3, active := true }),
        (1919999, { current := 3#4, target := 4#4, slot := 7#3, active := true })] },
      panel := { t.panel with
        slots := [(7, cornerSlot st)], engine := .driving,
        copyQueue := if st = .copying then [7] else [],
        passQueue := if st = .retiring ∨ st = .clearing then [7] else [] } }

theorem test_ImageCopyEnds_witness :
    let s := withTransfers [.buffer (.imageRows 7) 0 1] (withSlot .copying attached)
    s.panel.copyQueue = [7] ∧ sparseGet 7 s.panel.slots = some (cornerSlot .copying)
      ∧ (cornerSlot .copying).src = .record 0x2000#32 ∧ (cornerSlot .copying).changedOnly = false
      ∧ s.wm.state = .active ∧ Writable .display 0x2000#32 s ∧ sparseWf s.wm.panel = true
      ∧ ((cornerSlot .copying).eff.x + (cornerSlot .copying).eff.w ≤ 1600
          ∧ (cornerSlot .copying).eff.y + (cornerSlot .copying).eff.h ≤ 1200)
      ∧ .buffer (.imageRows 7) 0 1 ∈ s.bus.transfers ∧ (cornerSlot .copying).state = .copying
      ∧ s.wave.periodPending = false
      ∧ answers (.imageCopyEnd [0x80#8]) s (fun t => (t.wm.entry 1919999).target == 15#4
          && (t.wm.entry 1919999).current == 3#4 && t.panel.slots.any (·.2.state == .ready)) = true
      ∧ answers .imageCopyBusError s (fun t => t.panel.slots.any (·.2.state == .clearing)
          && t.panel.uncertain.isEmpty) = true := by decide +kernel

/-- Slot 7 with an internal update of the last pixel from staging frame A. -/
def internalSlot (st : SlotState) (s : State) : State :=
  let t := withSlot st s
  { t with
      panel := { t.panel with slots := [(7, { cornerSlot st with src := .internal .a })] },
      turn := { t.turn with frameA := .held, latestFull := some 0 } }

theorem test_ImageCopyEnds_others :
    (let s := internalSlot .copying attached;
      sparseGet 7 s.panel.slots = some { cornerSlot .copying with src := .internal .a } ∧ s.turn.queue = []
        ∧ s.bus.queue = [] ∧ answers (.imageCopyEnd []) s (fun t => t.turn.frameA == .free
          && t.panel.slots.any (·.2.state == .ready)) = true)
      ∧ (let t := withSlot .copying attached
        let other : Slot := { cornerSlot .copying with src := .record 0x3000#32, rect := { x := 0, y := 0, w := 2, h := 3 },
                                                       stride := 9, eff := { x := 0, y := 0, w := 2, h := 3 } }
        let s := withTransfers [.buffer (.imageRows 7) 0 1] { t with panel := { t.panel with
          slots := [(5, other), (7, cornerSlot .copying)], copyQueue := [7, 5] } };
        s.panel.copyQueue = [7, 5] ∧ sparseGet 5 s.panel.slots = some other
          ∧ answers (.imageCopyEnd [0x80#8]) s (·.bus.queue == [.stateWrite .display 0x2000#32 .running,
              .buffer (.imageRows 5) 0 20]) = true) := by decide +kernel

theorem test_FramesAdvance_witness :
    (let s := withSlot .ready attached;
      s.panel.engine = .driving ∧ s.panel.scan = false ∧ (∀ st ∈ s.panel.stops, st.effect = true)
        ∧ (∃ e ∈ s.panel.slots, e.2.state = .ready)
        ∧ answers .frameTick s (fun t => t.panel.scan && t.panel.slots.any (·.2.state == .running)) = true)
      ∧ (let t := withSlot .running attached
        let s := { t with panel := { t.panel with scan := true } };
        s.panel.scan = true
          ∧ answers .frameScanEnd s (fun t => t.panel.slots.any (·.2.state == .retiring)) = true) := by decide +kernel

theorem test_PassesEndSlots_witness :
    let s := withSlot .retiring attached
    let c := withSlot .clearing attached
    s.panel.passQueue = [7] ∧ sparseGet 7 s.panel.slots = some (cornerSlot .retiring) ∧ s.wm.state = .active
      ∧ Writable .display 0x2000#32 s ∧ sparseWf s.wm.panel = true ∧ sparseWf s.panel.slots = true ∧ Quiet s
      ∧ c.panel.passQueue = [7] ∧ sparseGet 7 c.panel.slots = some (cornerSlot .clearing) ∧ Quiet c
      ∧ answers .retirePassEnd s (fun t => (t.wm.entry 1919999).current == 4#4 && (t.wm.entry 1919998).active
          && t.panel.engine == .holding) = true
      ∧ answers .clearingPassEnd c (fun t => (t.wm.entry 1919999).current == 3#4 && t.panel.slots.isEmpty) = true := by
  decide +kernel

theorem test_PassesEndSlots_others :
    (let s := internalSlot .retiring attached;
      sparseGet 7 s.panel.slots = some { cornerSlot .retiring with src := .internal .a }
        ∧ answers .retirePassEnd s (fun t => t.turn.latestFull.isNone && t.panel.slots.isEmpty) = true
        ∧ answers .clearingPassEnd (internalSlot .clearing attached) (·.turn.latestFull == some 0) = true)
      ∧ (let t := withSlot .retiring attached
        let s := { t with panel := { t.panel with
          slots := [(7, { cornerSlot .retiring with effMode := .clear })],
          uncertain := [{ x := 1599, y := 1199, w := 1, h := 1 }, { x := 1598, y := 1199, w := 2, h := 1 }] } };
        answers .retirePassEnd s (fun t => t.panel.uncertain.length == 1 && t.panel.known) = true) := by decide +kernel

/-- The engine in a state, with its timers running. -/
def inEngine (e : EngineState) (s : State) : State :=
  { s with panel := { s.panel with engine := e, risingTimer := true, holdTimer := some 500, fallingTimer := true } }

theorem test_RailsMoveTheEngine_witness :
    (let s := inEngine .rising (withSlot .ready attached); s.panel.slots ≠ [] ∧ Quiet s ∧ s.power.state = .run
        ∧ s.panel.engine = .rising ∧ s.panel.risingTimer = true
        ∧ answers .railGoodAssert s (·.panel.engine == .driving) = true
        ∧ answers .risingTimerExpiry s (·.panel.engine == .halted) = true)
      ∧ ((inEngine .holding attached).panel.engine ≠ .rising ∧ Quiet (inEngine .holding attached)
        ∧ (inEngine .holding attached).panel.holdTimer ≠ none
        ∧ answers .holdTimerExpiry (inEngine .holding attached) (·.panel.engine == .falling) = true
        ∧ answers .railGoodDeassert (inEngine .holding attached) (·.panel.engine == .halted) = true)
      ∧ ((inEngine .falling attached).panel.fallingTimer = true
        ∧ answers .fallingTimerExpiry (inEngine .falling attached) (·.panel.engine == .off) = true) := by decide +kernel

theorem test_RailsMoveTheEngine_holdCut :
    let s (q : PowerState) := inEngine .rising (inPower q attached);
    (∀ q, Quiet (s q) ∧ (s q).panel.engine = .rising ∧ (s q).panel.slots = [] ∧ (s q).panel.stops = []
        ∧ (s q).panel.holdTime = 500)
      ∧ answers .railGoodAssert (s .run) (fun t => t.panel.engine == .holding) = true
      ∧ answers .railGoodAssert (s .dozeEntry) (fun t => t.panel.engine == .falling && t.panel.fallingTimer) = true
      ∧ answers .railGoodAssert (s .deepEntry) (fun t => t.panel.engine == .falling && t.panel.holdTimer.isNone) = true := by
  refine ⟨fun q => by cases q <;> decide +kernel, ?_⟩; decide +kernel

/-- An update of the first pixel waits, and a rail can be lost while slot 7 is active. -/
def railed (st : SlotState) (q : PowerState) : State :=
  let t := inPower q (withSlot st attached)
  { t with panel := { t.panel with pending := [{
      id := 1, src := .record 0x2000#32, rect := { x := 0, y := 0, w := 1, h := 1 }, mode := .gray16,
      changedOnly := false, maySupersede := false, image := 0#32, stride := 1, detail := 0#32 }] } }

theorem test_RailsMoveTheEngine_faults :
    ((railed .running .run).panel.engine = .driving ∧ (railed .running .run).panel.stops = []
        ∧ sparseWf (railed .running .run).panel.slots = true ∧ (railed .running .run).turn.state = .idle
        ∧ (railed .running .run).turn.queue = [] ∧ (railed .running .run).power.descentPending = false
        ∧ (railed .running .run).link.state ≠ .detaching ∧ Writable .display 0x2000#32 (railed .running .run)
        ∧ (railed .running .run).panel.slots = [(7, cornerSlot .running)] ∧ (railed .running .run).panel.known = true
        ∧ (railed .running .run).panel.uncertain = []
        ∧ answers .railGoodDeassert (railed .running .run) (fun t => t.panel.engine == .halted
            && t.panel.slots.any (fun x => x.2.state == .clearing && x.2.abort == .railFault)
            && t.panel.uncertain == [{ x := 1599, y := 1199, w := 1, h := 1 }] && t.panel.pending.length == 1) = true)
      ∧ (let t := railed .running .run
        let s (u : List Rect) : State := { t with panel := { t.panel with uncertain := u } };
        answers .railGoodDeassert (s (List.replicate 8 { x := 0, y := 0, w := 1, h := 1 }))
            (fun t => t.panel.uncertain.isEmpty && !t.panel.known) = true
          ∧ answers .railGoodDeassert (s [{ x := 1599, y := 1199, w := 1, h := 1 }])
            (fun t => t.panel.uncertain.length == 1 && t.panel.known) = true)
      ∧ answers .railGoodDeassert (railed .copying .dozeEntry) (fun t => t.panel.uncertain.isEmpty
          && t.power.state == .waking && t.power.wakeReason == .panelHalted && t.panel.pending.isEmpty
          && t.bus.queue.contains (.resultWrite .display 0x2000#32 .panelHalted 0#32 0)) = true
      ∧ answers .railGoodDeassert (railed .retiring .dozeTurning) (fun t => t.power.state == .waking
          && t.panel.slots.any (·.2.state == .retiring)) = true
      ∧ answers .railGoodDeassert (railed .ready .deepEntry) (fun t => t.power.state == .deepEntry && t.panel.flushed
          && t.panel.pending.isEmpty) = true
      ∧ (let s := loading .listWait [] (inEngine .holding attached)
        s.panel.engine = .holding ∧ Writable .display 0x2000#32 s
          ∧ answers .railGoodDeassert s (fun t => t.wave.load.isNone && t.bus.queue.contains
              (.resultWrite .display 0x2000#32 .panelHalted 0#32 0)) = true)
      ∧ (let s := inEngine .rising attached
        s.panel.slots = [] ∧ s.panel.stops = [] ∧ Quiet s
          ∧ answers .railGoodAssert s (fun t => t.panel.engine == .holding && t.panel.holdTimer == some 500) = true
          ∧ answers .railGoodAssert { s with panel := { s.panel with holdTime := 0 } } (·.panel.engine == .falling)
              = true) := by decide +kernel

theorem test_PanelStopActs_witness :
    (Ready .panelStop (record .panelStop []) (offering .panelStop [] attached)
        ∧ (rawRect (record .panelStop []).bytes).isEmpty = true
        ∧ answers .panelStop (offering .panelStop [] attached) (·.panel.stops.isEmpty) = true)
      ∧ (let f := [(36, 1), (38, 1)]
        let s := offering .panelStop f (inEngine .driving attached)
        Ready .panelStop (record .panelStop f) s ∧ (rawRect (record .panelStop f).bytes).isEmpty = false
          ∧ s.panel.engine = .driving ∧ answers .panelStop s (·.panel.stops.length == 1) = true
          ∧ (let o := offering .panelStop f attached
            Ready .panelStop (record .panelStop f) o ∧ o.panel.engine ≠ .driving ∧ Quiet o ∧ o.panel.slots = []
              ∧ o.panel.stops = [] ∧ answers .panelStop o (·.panel.stops.isEmpty) = true)) := by decide +kernel

theorem test_PanelStopActs_atOnce :
    let f := [(36, 0x40), (37, 6), (38, 0xB0), (39, 4)]
    let e : Entry := { id := 1, src := .record 0x3000#32, rect := { x := 0, y := 0, w := 2, h := 1 }, mode := .gray16,
                       changedOnly := false, maySupersede := false, image := 0#32, stride := 2, detail := 0#32 }
    let s (st : SlotState) (u : List Rect) : State :=
      let t := withSlot st attached
      offering .panelStop f { t with
        link := t.link.setLane .display fun l =>
          { l with table := [newEntry { addr := 0x3000#32, bytes := [] } (some .panelUpdate)] },
        panel := { t.panel with engine := .rising, pending := [e], uncertain := u } };
    Ready .panelStop (record .panelStop f) (s .running []) ∧ (rawRect (record .panelStop f).bytes).isEmpty = false
      ∧ (s .running []).panel.engine ≠ .driving ∧ (s .running []).panel.stops = []
      ∧ ((s .running []).panel.pending.map (·.id) ++ (s .running []).panel.slots.map (·.2.id)).Nodup
      ∧ sparseWf (s .running []).panel.slots = true ∧ Writable .display 0x3000#32 (s .running [])
      ∧ (∀ x ∈ (s .running []).panel.pending, x.rect.intersects (rawRect (record .panelStop f).bytes).clip = true)
      ∧ (s .running []).turn.state = .idle ∧ (s .running []).turn.queue = []
      ∧ answers .panelStop (s .running []) (fun t => t.panel.slots.any (fun x => x.2.state == .clearing)
          && t.panel.stops.any (·.stopped == 2) && t.panel.uncertain.length == 1 && t.bus.queue.contains
            (.resultWrite .display 0x3000#32 .stopped 0#32 0)) = true
      ∧ answers .panelStop (s .running (List.replicate 8 { x := 0, y := 0, w := 1, h := 1 }))
          (fun t => t.panel.uncertain.isEmpty && !t.panel.known) = true
      ∧ answers .panelStop (s .running [{ x := 1599, y := 1199, w := 1, h := 1 }])
          (fun t => t.panel.uncertain.length == 1 && t.panel.known) = true
      ∧ answers .panelStop (s .retiring []) (fun t => t.panel.stops.isEmpty && t.bus.queue.contains
          (.resultWrite .display 0x2000#32 .ok 0#32 1)) = true := by decide +kernel

theorem test_PanelStopActs_atTick :
    let st : Stop := { addr := 0x2000#32, detail := 0#32, marks := [0, 1], effect := false, stopped := 0, waits := [] }
    let t := underway .panelStop (showing attached)
    let s := { t with panel := { t.panel with
      engine := .driving, stops := [st], slots := [(2, { cornerSlot .ready with src := .record 0x3000#32 }),
        (3, { cornerSlot .ready with id := 5, src := .record 0x4000#32, eff := { x := 0, y := 0, w := 1, h := 1 } })] } };
    s.panel.engine = .driving ∧ s.panel.scan = false ∧ s.panel.stops = [st] ∧ st.effect = false
      ∧ Writable .display 0x2000#32 s ∧ sparseWf s.panel.slots = true ∧ s.panel.pending = []
      ∧ answers .frameTick s (fun t => (sparseGet 2 t.panel.slots).any (·.state == .clearing)
          && (sparseGet 3 t.panel.slots).any (·.state == .running)
          && t.panel.stops.any fun st => st.effect && st.waits == [0]) = true := by decide +kernel

theorem test_ResumeAndSetup_witness :
    (Ready .panelResume (record .panelResume []) (offering .panelResume [] attached) ∧ attached.panel.engine ≠ .halted
        ∧ answers .panelResume (offering .panelResume [] attached) (·.panel.resumes.isEmpty) = true)
      ∧ (let s := offering .panelResume [] (inEngine .halted attached)
        Ready .panelResume (record .panelResume []) s ∧ s.panel.engine = .halted
          ∧ answers .panelResume s (·.panel.resumes == [0x2000#32]) = true)
      ∧ (let t := underway .panelResume (inEngine .halted attached)
        let s := { t with panel := { t.panel with resumes := [0x2000#32] } };
        s.panel.resumes = [0x2000#32] ∧ s.panel.engine = .halted ∧ s.panel.slots = [] ∧ Quiet s
          ∧ Writable .display 0x2000#32 s ∧ answers .panelResumeComplete s (·.panel.engine == .off) = true)
      ∧ (let f := [(32, 0x89), (33, 0x13)];
        Ready .panelSetup (record .panelSetup f) (offering .panelSetup f attached)
          ∧ 5000 < half (record .panelSetup f).bytes 32
          ∧ answers .panelSetup (offering .panelSetup f attached) (·.panel.holdTime == 5000) = true) := by decide +kernel

/-- An entry of the pending list at a place, one pixel. -/
def entryAt (id x : Nat) : Entry :=
  { id := id, src := .record 0x2000#32, rect := { x := x, y := 0, w := 2, h := 1 }, mode := .gray16, changedOnly := false,
    maySupersede := false, image := 0#32, stride := 2, detail := 0#32 }

theorem test_StartsRespectOrder_witness :
    let p : Panel := { Panel.resetFrom 9 with
      known := true, slots := [(0, { cornerSlot .running with eff := { x := 0, y := 0, w := 1, h := 1 } })] }
    (findStart { p with pending := [entryAt 1 0, entryAt 2 1, entryAt 3 4] } [] [entryAt 1 0, entryAt 2 1, entryAt 3 4])
        = some (entryAt 3 4)
      ∧ findStart { p with pending := [entryAt 1 0, entryAt 2 1] } [] [entryAt 1 0, entryAt 2 1] = none
      ∧ sparseWf p.slots = true ∧ sparseWf attached.panel.slots = true := by decide

/-! ## Witnesses: the Turn-Ahead Unit -/

/-- A TURN_LOAD of one entry under way, its array being read or not. -/
def turnLoading (reading : Bool) (fields : List (Nat × Nat)) : State :=
  let t := underway .turnLoad attached
  { t with
      bus := { t.bus with queue := if reading then [.buffer .entryArray 0 8] else [] },
      store := { t.store with power := .poweringUp },
      turn := { t.turn with load := some { record := record .turnLoad fields, reading := reading } } }

theorem test_TurnLoadSteps_witness :
    (let f := [(33, 0x10), (36, 1)];
      Ready .turnLoad (record .turnLoad f) (offering .turnLoad f attached)
        ∧ answers .turnLoad (offering .turnLoad f attached) (·.turn.load.isSome) = true)
      ∧ (turnBodyOk (record .turnLoad [(36, 24), (37, 23), (39, 15)]).bytes = true
        ∧ (turnLoading false [(36, 24), (37, 23)]).turn.state = .idle
        ∧ answers .turnLoadCheck (turnLoading false [(36, 24), (37, 23)])
            (fun t => t.turn.load.any (·.reading) && t.bus.queue == [.buffer .entryArray 0 192]) = true)
      ∧ (turnBodyOk (record .turnLoad [(36, 1), (37, 1)]).bytes = false ∧ (turnLoading false []).turn.queue = []
        ∧ Writable .control 0x2000#32 (turnLoading false [])
        ∧ answers .turnLoadCheck (turnLoading false [(36, 1), (37, 1)]) (·.turn.load.isNone) = true)
      ∧ (let s := turnLoading true [(36, 1), (38, 1)]
        let last := [0xFF#8, 0x0F#8, 63#8, 1#8, 1#8, 0#8, 0#8, 0#8]
        s.bus.queue = [.buffer .entryArray 0 8] ∧ Writable .control 0x2000#32 s ∧ s.turn.queue = []
          ∧ s.store.ex = none ∧ s.store.op = none ∧ turnEntries last 0 1 = .inl
            [{ block := 4095, first := 63, count := 1, mode := .gray16, bad := false }]
          ∧ turnEntries [0xFF#8, 0x0F#8, 63#8, 2#8, 1#8] 0 1 = .inr (0, .range)
          ∧ answers (.turnLoadArrayReadEnd (.data last)) s (fun t => t.turn.armed && t.turn.entries.length == 1) = true
          ∧ answers (.turnLoadArrayReadEnd .busError) s (·.turn.load.isNone) = true) := by decide +kernel

theorem test_TurnLoadSteps_array :
    let t := turnLoading true [(36, 1)]
    let last := [0xFF#8, 0x0F#8, 63#8, 1#8, 1#8, 0#8, 0#8, 0#8]
    let s (p : ArrayPower) (op : Option ArrayOp) : State :=
      { t with store := { t.store with power := p, op := op, idle := if p = .on then some 9 else none } };
    ((s .off none).store.ta = none ∧ (s .off none).store.wf = none ∧ (s .off none).store.ex = none
        ∧ answers (.turnLoadArrayReadEnd (.data last)) (s .off none) (fun t => t.store.power == .off
            && t.turn.entries.length == 1) = true)
      ∧ ((s .on (some (.raw 64 .erase false))).store.op ≠ none
        ∧ answers (.turnLoadArrayReadEnd (.data last)) (s .on (some (.raw 64 .erase false)))
            (fun t => t.executor.recheck && t.turn.entries.length == 1) = true)
      ∧ (ArrayFree (s .on none) ∧ answers (.turnLoadArrayReadEnd (.data last)) (s .on none)
          (fun t => t.store.idle == some 9 && !t.executor.recheck) = true) := by decide +kernel

theorem test_TurnLoadSteps_withdraws :
    let t := turnLoading true [(36, 1)]
    let s := { t with turn := { t.turn with
      state := .offering, frame := .b, frameB := .held, queue := [.fwd, .back], cursor := 7 } }
    let z := turnLoading false [(39, 3)]
    let last := [0xFF#8, 0x0F#8, 63#8, 1#8, 1#8, 0#8, 0#8, 0#8]
    s.turn.state = .offering ∧ s.turn.queue ≠ [] ∧ s.store.ex = none ∧ s.store.power = .poweringUp
      ∧ Writable .control 0x2000#32 s
      ∧ answers (.turnLoadArrayReadEnd (.data last)) s (fun t => t.turn.state == .idle && t.turn.frameB == .free
          && t.turn.queue.isEmpty && t.turn.cursor == 0) = true
      ∧ (turnBodyOk (record .turnLoad [(39, 3)]).bytes = true ∧ byteAt (record .turnLoad [(39, 3)]).bytes 36 = 0
        ∧ Writable .control 0x2000#32 z ∧ z.turn.state = .idle
        ∧ answers .turnLoadCheck { z with turn := { z.turn with entries := [⟨4, 0, 1, .gray16, false⟩] } }
            (fun t => t.turn.entries.isEmpty && t.turn.interval == 3 && t.turn.load.isNone && t.bus.queue.contains
              (.resultWrite .control 0x2000#32 .ok 0#32 0)) = true) := by decide +kernel

theorem test_TurnArmActs_witness :
    (Ready .turnArm (record .turnArm [(32, 1)]) (offering .turnArm [(32, 1)] attached)
        ∧ answers .turnArm (offering .turnArm [(32, 1)] attached) (·.turn.armed) = true)
      ∧ (Ready .turnArm (record .turnArm []) (offering .turnArm [] attached)
        ∧ answers .turnArm (offering .turnArm [] attached) (·.turn.arm == some 0x2000#32) = true)
      ∧ (Ready .turnArm (record .turnArm [(32, 2)]) (offering .turnArm [(32, 2)] attached)
        ∧ answers .turnArm (offering .turnArm [(32, 2)] attached) (·.turn.arm == none) = true)
      ∧ (let t := underway .turnArm attached
        let s := { t with turn := { t.turn with arm := some 0x2000#32 } };
        s.turn.state = .idle ∧ s.turn.queue = [] ∧ Writable .control 0x2000#32 s
          ∧ answers .turnArmComplete s (·.turn.arm == none) = true) := by decide +kernel

/-- A turn in a state, of a one-page extent, filling frame A for entry 1 of two. -/
def turning (x : TurnState) (decode : List Byte) (s : State) : State :=
  let e : TurnEntry := { block := 4, first := 0, count := 1, mode := .gray16, bad := false }
  { s with
      wm := { s.wm with decode := decode },
      turn := { s.turn with entries := [e, e], target := 1, extentCount := 1, frameA := .filling, state := x } }

theorem test_TurnReadsAndChecks_witness :
    (let t := turning .reading [] attached
      let s := { t with turn := { t.turn with arrived := [some [1#8]] } };
      s.wm.state = .active ∧ s.power.state = .run ∧ s.panel.pending = [] ∧ s.power.descentPending = false
        ∧ s.turn.arrived = [some [1#8]]
        ∧ answers .turnPageReadEnd s (fun t => t.turn.state == .checking && t.wm.decode == [1#8]) = true)
      ∧ (let t := turning .reading [] attached
        let s := { t with turn := { t.turn with arrived := [none] } };
        ¬ InDoze s ∧ answers .turnPageReadEnd s (fun t => t.turn.state == .idle && t.regs.cause == 1024#13) = true
          ∧ InDoze (inPower .dozeTurning s)
          ∧ answers .turnPageReadEnd (inPower .dozeTurning s) (fun t => t.turn.state == .idle
              && t.power.state == .waking && t.power.wakeReason == .turnError && t.regs.hostwake) = true)
      ∧ (let code := [0xF4#8]
        let d := imageSignature ++ le16 1600 ++ le16 1200 ++ le32 1 ++ le32 (crc32 code).toNat ++ List.replicate 16 0#8
          ++ code
        imageOk d 1 = true ∧ answers .turnImageCheckEnd (turning .checking d attached) (·.turn.state == .decoding) = true
          ∧ answers .turnImageCheckEnd (turning .checking (d.drop 1) attached) (·.turn.frameA == .free) = true) := by
  decide +kernel

theorem test_DecodeEndsTheTurn_witness :
    let t := turning .decoding (List.replicate 8 0#8 ++ le32 1 ++ List.replicate 20 0#8 ++ [0xF4#8]) attached
    let s := { t with panel := { t.panel with engine := .halted } };
    s.turn.state = .decoding ∧ s.wm.state = .active ∧ s.power.state = .run ∧ s.power.forced = false
      ∧ s.power.descentPending = false ∧ s.panel.pending = [] ∧ s.turn.queue = [] ∧ s.panel.engine = .halted
      ∧ s.panel.flushed = false
      ∧ answers .decodeEnd s (fun t => t.turn.state == .idle && t.wm.frameA == List.replicate 5 15#4
          && t.turn.cursor == 0) = true := by decide +kernel

/-- A stored page image whose code fills the panel: 7,084 runs of 271 pixels and one of 236, all white. -/
def fullImage : List Byte :=
  let code := (List.replicate 7084 [0xFF#8, 0xFF#8]).flatten ++ [0xFF#8, 0xDC#8]
  List.replicate 8 0#8 ++ le32 code.length ++ List.replicate 20 0#8 ++ code

theorem test_DecodeEndsTheTurn_usual :
    (let s := showing (turning .decoding fullImage { attached with turn := { Turn.reset with interval := 1 } });
      decodeOk 1920000 (imageCode s.wm.decode) = true ∧ s.turn.state = .decoding ∧ s.panel.pending = []
        ∧ s.panel.engine = .off ∧ s.panel.slots = [] ∧ s.panel.stops = [] ∧ s.panel.copyQueue = []
        ∧ s.panel.known = true ∧ s.panel.uncertain = [] ∧ s.power.cls ≠ .exhausted ∧ s.wave.active = .a
        ∧ s.wave.validA = true ∧ (0 < s.turn.interval ∧ s.turn.counter + 1 = s.turn.interval))
      ∧ setHasMode setHeader .gray16 = true := by decide +kernel

theorem test_DecodeEndsTheTurn_listFull :
    let t := turning .decoding fullImage attached
    let s := { t with panel := { t.panel with
      engine := .halted, pending := List.replicate 16 (entryAt 1 0) } };
    s.turn.state = .decoding ∧ s.turn.interval = 0 ∧ 16 ≤ s.panel.pending.length ∧ s.panel.engine = .halted
      ∧ s.power.forced = false ∧ s.turn.queue = [] := by decide +kernel

/-! ## Witnesses: the book store array and the Store Lane Executor -/

/-- A written page with one byte of data, for what a step makes of it. -/
def shortPage (crc : Word) : RawPage := { data := [0#8], spareOnes := false, pageCrc := crc, retired := false }

theorem test_ArrayServesReads_soundPage (d : List Byte) (h : d.length = 4096) :
    let p : RawPage := { data := d, spareOnes := false, pageCrc := crc32 d, retired := false }
    (Instr.pageReadEnd p).wellFormed = true ∧ pageErased p = false ∧ crc32 p.data = p.pageCrc := by
  simp [Instr.wellFormed, RawPage.wellFormed, pageErased, h]

theorem test_ArrayServesReads_unsoundPage (d : List Byte) (h : d.length = 4096) :
    let p : RawPage := { data := d, spareOnes := false, pageCrc := ~~~crc32 d, retired := false }
    (Instr.pageReadEnd p).wellFormed = true ∧ pageErased p = false ∧ crc32 p.data ≠ p.pageCrc := by
  refine ⟨by simp [Instr.wellFormed, RawPage.wellFormed, h], rfl, fun e => ?_⟩
  simpa using congrArg (·.getLsbD 0) e

/-- A page that reads as erased. -/
def erasedPage : RawPage :=
  { data := List.replicate 4096 0xFF#8, spareOnes := true, pageCrc := 0xFFFFFFFF#32, retired := false }

/-- The executor works on a record in a phase. -/
def working (k : Kind) (phase : LanePhase) (fields : List (Nat × Nat)) (buf : List Byte) : State :=
  arrayOn (underway k { attached with
    store := { attached.store with blocks := [(0, { fill := .mark 0, prot := .unlocked })] },
    executor := { Executor.reset with phase := phase, kind := some k, record := record k fields, buf := buf } })

theorem test_ArrayServesReads_grants :
    (let s := { attached with store := { attached.store with
        power := .poweringUp, ta := some 9, wf := some 8, ex := some (.read 7) } };
      s.store.op = none ∧ s.store.erase = none ∧ s.store.power = .poweringUp ∧ nextTurnPage s.turn = none
        ∧ answers .arrayPowerUpEnd s (·.store.op == some (.read .turnAhead 9 false)) = true)
      ∧ (let s := { attached with store := { attached.store with power := .poweringUp, ex := some (.read 7) } };
        s.store.ta = none ∧ s.store.wf = none
          ∧ answers .arrayPowerUpEnd s (·.store.op == some (.read .executor 7 false)) = true)
      ∧ (let s := { attached with store := { attached.store with power := .poweringUp } };
        s.store.ex = none ∧ s.store.idle = none ∧ answers .arrayPowerUpEnd s (·.store.idle == some 200) = true)
      ∧ (let s := { attached with store := { attached.store with power := .on, idle := some 200 } };
        s.store.idle ≠ none ∧ answers .arrayIdleTimerExpiry s (·.store.power == .off) = true) := by decide +kernel

/-- A turn in READING of three pages from page 9 on, its first asked for. -/
def readingTurn : State :=
  let t := { attached with
    turn := { Turn.reset with state := .reading, extentFirst := 9, extentCount := 3, nextPage := 1 } }
  { t with store := { t.store with power := .poweringUp, ta := some 9 } }

theorem test_ArrayServesReads_turnPages :
    let s := arrayOn readingTurn
    let u : State := { s with store := { s.store with op := some (.read .turnAhead 9 false), ta := some 10 } };
    readingTurn.store.power = .poweringUp ∧ nextTurnPage readingTurn.turn = some 10
      ∧ answers .arrayPowerUpEnd readingTurn (fun t => t.store.op == some (.read .turnAhead 9 false)
          && t.store.ta == some 10 && t.turn.nextPage == 2) = true
      ∧ s.store.power = .on ∧ s.store.op = none ∧ s.store.erase = none
      ∧ answers (.pageReadEnd erasedPage) { u with turn := { u.turn with nextPage := 2 } }
          (fun t => t.store.op == some (.read .turnAhead 10 false) && t.store.ta == some 11 && t.turn.nextPage == 3
            && t.turn.arrived.length == 1) = true := by decide +kernel

theorem test_ArrayServesReads_reads :
    let s := arrayOn attached
    let reading (second : Bool) : State :=
      { s with store := { s.store with op := some (.read .turnAhead 5 second) } };
    ArrayFree s ∧ s.store.idle = none ∧ (Instr.pageReadEnd erasedPage).wellFormed = true ∧ pageErased erasedPage = true
      ∧ answers (.pageReadEnd (shortPage 0#32)) (reading false) (·.store.op == some (.read .turnAhead 5 true)) = true
      ∧ answers (.pageReadEnd (shortPage 0#32)) (reading true) (·.turn.arrived == [none]) = true
      ∧ answers (.pageReadEnd (shortPage 0xD202EF8D#32)) (reading true) (·.turn.arrived.any (·.isSome)) = true
      ∧ answers .busyLimitExpiry (reading false) (·.store.op == some (.read .turnAhead 5 true)) = true := by
  decide +kernel

theorem test_ArrayServesReads_clients :
    let s := arrayOn (loading .reading [] attached)
    let x := working .storeRead .reading [(35, 1), (37, 0x20)] []
    let wave (second : Bool) : State := { s with store := { s.store with op := some (.read .waveform 5 second) } }
    let lane (second : Bool) : State := { x with store := { x.store with op := some (.read .executor 5 second) } };
    ArrayFree s ∧ s.store.idle = none ∧ s.wave.load.isSome = true ∧ Writable .display 0x2000#32 s ∧ ArrayFree x
      ∧ x.store.idle = none ∧ x.executor.phase = .reading ∧ Writable .store x.executor.record.addr x
      ∧ answers (.pageReadEnd (shortPage 0xD202EF8D#32)) (wave false) (fun t => t.wave.load.any (·.page.isSome)) = true
      ∧ answers (.pageReadEnd (shortPage 0#32)) (wave true) (fun t => t.wave.load.isNone && t.bus.queue.contains
          (.resultWrite .display 0x2000#32 .readError 0#32 0)) = true
      ∧ answers (.pageReadEnd erasedPage) (lane false) (fun t => t.executor.buf.length == 4096
          && t.executor.detail == warnErased && t.bus.queue.contains (.buffer .destination 0x2000 4096)) = true
      ∧ answers .busyLimitExpiry (lane true) (fun t => t.executor.phase == .idle && t.bus.queue.contains
          (.resultWrite .store 0x2000#32 .readError 0#32 0)) = true := by decide +kernel

theorem test_ArrayServesReads_surveys :
    let s := arrayOn attached
    let raw (p : Nat) : State := { s with store := { s.store with op := some (.raw p .storeSurvey false) } };
    ArrayFree s ∧ sparseWf s.store.blocks = true ∧ 0 % 64 = 0 ∧ RawWhy.storeSurvey ≠ .erase
      ∧ answers (.rawReadEnd { shortPage 0#32 with retired := true }) (raw 64) (fun t => (t.store.block 1).fill == .retired)
          = true
      ∧ answers (.rawReadEnd erasedPage) (raw 64) (fun t => (t.store.block 1).fill == .mark 0) = true
      ∧ answers (.rawReadEnd (shortPage 0#32)) (raw 127) (fun t => (t.store.block 1).fill == .mark 64) = true
      ∧ answers (.rawReadEnd (shortPage 0#32)) (raw 126) (·.store.op == some (.raw 127 .storeSurvey false)) = true := by
  decide +kernel

theorem test_ArrayWritesEnd_witness :
    let s := arrayOn (underway .storeErase { attached with executor :=
      { Executor.reset with phase := .erasing, kind := some .storeErase, record := record .storeErase [(34, 1)] } })
    let u (o : ArrayOp) : State := { s with store := { s.store with op := some o } }
    let er (p : ErasePhase) : State :=
      { s with store := { s.store with erase := some { block := 1, phase := p, count := 15 } } };
    ArrayFree s ∧ sparseWf s.store.array = true ∧ sparseWf s.store.blocks = true ∧ s.turn.state ≠ .reading
      ∧ Writable .store s.executor.record.addr s ∧ s.executor.kind ≠ none
      ∧ answers (.pageProgramEnd true) (u (.program 127 [])) (fun t => (t.store.block 1).fill == .mark 64) = true
      ∧ answers .busyLimitExpiry (u (.program 127 [])) (·.store.op == some (.mark 1)) = true
      ∧ answers (.eraseEnd true) (er .running) (fun t => t.store.page 64 == .erased
          && t.store.page 127 == .erased && t.store.page 128 == .found) = true
      ∧ answers (.eraseEnd false) (er .suspending) (·.store.op == some (.mark 1)) = true
      ∧ answers .eraseSuspended { er .suspending with store := { (er .suspending).store with ta := some 9 } }
          (fun t => t.store.op == some (.read .turnAhead 9 false) && t.store.erase.any (·.count == 16)) = true
      ∧ answers (.markWriteEnd false) (u (.mark 1)) (fun t => (t.store.block 1).fill == .retired
          && t.store.page 64 == { data := .found, field := .undefined } && t.regs.cause == 2048#13) = true
      ∧ answers (.markWriteEnd true) (u (.mark 1)) (·.store.page 64 == { data := .found, field := .marked }) = true := by
  decide +kernel

theorem test_ArrayWritesEnd_suspensions :
    let s := arrayOn (loading .bankWait [] attached)
    let er (p : ErasePhase) (n : Nat) : State :=
      { s with store := { s.store with erase := some { block := 1, phase := p, count := n } } };
    ArrayFree s ∧ s.wave.load.any (fun l => decide (l.stage = .bankWait)) = true
      ∧ bankReferenced s.wave.active.other s = false
      ∧ answers .waveformBankFree (er .running 15) (fun t => t.store.erase.any (·.phase == .suspending)
          && t.store.wf == some 0) = true
      ∧ answers .waveformBankFree (er .running 16) (fun t => t.store.erase.any (·.phase == .running)
          && t.store.wf == some 0) = true
      ∧ answers (.pageReadEnd (shortPage 0xD202EF8D#32)) { er .suspended 16 with store := { (er .suspended 16).store with
          op := some (.read .turnAhead 9 false) } } (fun t => t.store.erase.any (·.phase == .running)
            && t.turn.arrived.length == 1) = true := by decide +kernel

theorem test_ArrayWritesEnd_turnsAndLoads :
    let s := arrayOn (loading .reading [] { readingTurn with store := attached.store })
    let er (p : ErasePhase) (op : Option ArrayOp) (ta wf : Option Nat) : State :=
      { s with store := { s.store with erase := some { block := 1, phase := p, count := 3 }, op := op, ta := ta, wf := wf } };
    ArrayFree s ∧ s.wave.load.isSome = true
      ∧ answers .eraseSuspended (er .suspending none (some 9) (some 4)) (fun t => t.store.ta == some 10
          && t.store.wf == some 4 && t.turn.nextPage == 2 && t.store.op == some (.read .turnAhead 9 false)) = true
      ∧ answers .eraseSuspended (er .suspending none none (some 4)) (fun t => t.store.wf.isNone
          && t.store.op == some (.read .waveform 4 false) && t.store.erase.any (·.count == 4)) = true
      ∧ answers (.pageReadEnd (shortPage 0xD202EF8D#32)) (er .suspended (some (.read .turnAhead 9 false)) (some 10) none)
          (fun t => t.store.op == some (.read .turnAhead 10 false) && t.store.erase.any (·.phase == .suspended)) = true
      ∧ answers (.pageReadEnd (shortPage 0xD202EF8D#32)) (er .suspended (some (.read .waveform 4 false)) none none)
          (fun t => t.store.erase.any (·.phase == .running) && t.wave.load.any (·.page.isSome)) = true := by
  decide +kernel

theorem test_ArrayWritesEnd_turnStarts :
    let t := arrayOn (armedList attached)
    let s := underway .turnArm { t with turn := { t.turn with arm := some 0x2000#32, queue := [.fwd] } }
    let er (n : Nat) : State :=
      { s with store := { s.store with erase := some { block := 1, phase := .running, count := n } } };
    s.turn.state = .idle ∧ s.turn.load = none ∧ s.turn.targetOf .fwd = some 2 ∧ s.turn.takeFrame = some .a
      ∧ (s.turn.entries[2]?).any (fun e => !e.bad && modeInForce e.mode s) = true
      ∧ answers .turnArmComplete (er 15) (fun t => t.turn.state == .reading && t.store.ta == some 258
          && t.store.erase.any (·.phase == .suspending)) = true
      ∧ answers .turnArmComplete (er 16) (fun t => t.store.ta == some 258
          && t.store.erase.any (·.phase == .running)) = true := by decide +kernel

theorem test_ProtectionFollowsTable_witness :
    (let f := [(32, 1), (34, 0xFE), (35, 0x0F), (36, 2)]
      let s := offering .storeProtect f { attached with store := { attached.store with
        blocks := [(4095, { fill := .unknown, prot := .pinned })] } };
      Ready .storeProtect (record .storeProtect f) s ∧ sparseWf s.store.blocks = true
        ∧ byteAt (record .storeProtect f).bytes 32 ≤ 2 ∧ half (record .storeProtect f).bytes 34 ≤ 4095
        ∧ half (record .storeProtect f).bytes 34 + half (record .storeProtect f).bytes 36 = 4096
        ∧ s.power.forced = false ∧ s.power.cls ≠ .exhausted
        ∧ answers .storeProtect s (fun t => (t.store.block 4094).prot == .unlocked
            && (t.store.block 4095).prot == .pinned && t.bus.queue.contains
              (.resultWrite .store 0x2000#32 .protectedBlock 0#32 1)) = true)
      ∧ (let f := [(32, 1), (34, 0xFE), (35, 0x0F), (36, 3)];
        Ready .storeProtect (record .storeProtect f) (offering .storeProtect f attached)
          ∧ rangeOk (half (record .storeProtect f).bytes 34) (half (record .storeProtect f).bytes 36) = false
          ∧ answers .storeProtect (offering .storeProtect f attached) (·.store.blocks.isEmpty) = true)
      ∧ (let s := { attached with store := { attached.store with
          blocks := [(3, { fill := .unknown, prot := .pinnedOpen })] } };
        s.power.vddMain = true ∧ s.pins.guard ≠ true
          ∧ answers (.guardChange true) s (fun t => (t.store.block 3).prot == .pinned) = true
          ∧ answers (.guardChange false) s (fun t => (t.store.block 3).prot == .pinnedOpen) = true) := by decide +kernel

theorem test_IngestSteps_start :
    (let s := arrayOn (offering .storeIngest [] attached);
      Ready .storeIngest (record .storeIngest []) s ∧ ArrayFree s
        ∧ ingestInRange (record .storeIngest []).bytes = false ∧ answers .storeIngest s (·.executor.phase == .idle) = true)
      ∧ (let f := [(34, 63), (36, 1)]
        let s (m : Fill) := arrayOn (offering .storeIngest f { attached with store := { attached.store with
          blocks := [(0, { fill := m, prot := .unlocked })] } });
        Ready .storeIngest (record .storeIngest f) (s (.mark 63)) ∧ ArrayFree (s (.mark 63))
          ∧ ingestInRange (record .storeIngest f).bytes = true
          ∧ (((s (.mark 63)).store.block 0).prot.writable = true)
          ∧ answers .storeIngest (s (.mark 63)) (fun t => t.executor.phase == .verifying
              && (t.bus.queue ++ t.bus.transfers).contains (.buffer .payload 0 1)) = true
          ∧ answers .storeIngest (s (.mark 62)) (·.bus.queue.contains
              (.resultWrite .store 0x2000#32 .orderViolation 0#32 62)) = true
          ∧ answers .storeIngest (s .unknown) (·.store.op == some (.raw 0 .ingest false)) = true) := by decide +kernel

theorem test_IngestSteps_pages :
    let f := [(36, 9), (44, 0x26), (45, 0x39), (46, 0xF4), (47, 0xCB)]
    let digits := [0x31#8, 0x32#8, 0x33#8, 0x34#8, 0x35#8, 0x36#8, 0x37#8, 0x38#8, 0x39#8]
    let v := withTransfers [.buffer .payload 0 9] (working .storeIngest .verifying f [])
    let p := withQueue [.buffer .payloadPage 0 9] (working .storeIngest .programming f [])
    let d : State := { p with
      store := { p.store with op := some (.program 0 []) },
      executor := { p.executor with crc := crcUpdate crcInit digits } };
    v.executor.record = record .storeIngest f ∧ v.executor.phase = .verifying ∧ .buffer .payload 0 9 ∈ v.bus.transfers ∧ Writable .store 0x2000#32 v
      ∧ digits.length = ingestLength (record .storeIngest f).bytes ∧ ArrayFree p ∧ p.executor.buf = []
      ∧ digits.length = ingestPageSize (record .storeIngest f).bytes 0 ∧ (p.store.block 0).prot.writable = true
      ∧ (p.store.block 0).fill = .mark 0 ∧ ingestPages (record .storeIngest f).bytes ≤ 1
      ∧ answers (.ingestVerifyEnd (.data digits)) v (·.executor.phase == .programming) = true
      ∧ answers (.ingestVerifyEnd (.data (digits.drop 1 ++ [0#8]))) v (·.executor.phase == .idle) = true
      ∧ answers (.ingestPageDataRead (.data digits)) p (fun t => t.store.op.isSome && t.executor.buf.length == 4096) = true
      ∧ answers (.ingestPageDataRead .busError) p (·.executor.phase == .idle) = true
      ∧ (let q : State := { p with store := { p.store with blocks := [(0, { fill := .mark 0, prot := .pinned })] } };
        (q.store.block 0).prot.writable = false ∧ answers (.ingestPageDataRead (.data digits)) q (fun t =>
          t.store.op.isNone && t.store.idle == some 200 && t.bus.queue.contains
            (.resultWrite .store 0x2000#32 .protectedBlock 0#32 0)) = true)
      ∧ (let n := working .storeIngest .programming [(37, 0x10), (36, 1)] []
        let q : State := { n with store := { n.store with op := some (.program 0 []) } };
        q.executor.page + 1 < ingestPages q.executor.record.bytes
          ∧ answers (.pageProgramEnd true) q (fun t => t.bus.queue.contains (.buffer .payloadPage 4096 1)
              && t.executor.page == 1 && t.executor.progress == 1) = true)
      ∧ answers (.pageProgramEnd true) d (·.bus.queue.contains (.resultWrite .store 0x2000#32 .ok 0#32 1)) = true := by
  decide +kernel

theorem test_ReadAndSurveySteps_read :
    (let f := [(32, 0xFF), (33, 0x0F), (34, 63), (35, 1), (37, 0x20)]
      let s := arrayOn (offering .storeRead f attached);
      Ready .storeRead (record .storeRead f) s ∧ ArrayFree s ∧ readInRange (record .storeRead f).bytes = true
        ∧ s.power.forced = false ∧ s.power.cls ≠ .exhausted
        ∧ answers .storeRead s (·.store.op == some (.read .executor 262143 false)) = true)
      ∧ (let s := arrayOn (offering .storeRead [] attached);
        Ready .storeRead (record .storeRead []) s ∧ readInRange (record .storeRead []).bytes = false
          ∧ answers .storeRead s (·.executor.phase == .idle) = true)
      ∧ (let s := withQueue [.buffer .destination 0x2000 4096]
          (working .storeRead .reading [(35, 2), (37, 0x20)] (List.replicate 4096 5#8))
        s.executor.phase = .reading ∧ s.executor.buf ≠ [] ∧ sparseWf s.shared = true ∧ Writable .store 0x2000#32 s
          ∧ ArrayFree s
          ∧ answers (.storeReadDestWriteEnd false) s (fun t => sparseGet 0x2000 t.shared == some 5#8
              && t.store.op == some (.read .executor 1 false)) = true
          ∧ s.executor.buf.length = 4096 ∧ s.bus.queue = [.buffer .destination 0x2000 4096]
          ∧ answers (.storeReadDestWriteEnd true) s (fun t => t.executor.phase == .idle && t.bus.queue.contains
              (.resultWrite .store 0x2000#32 .badAddress 0#32 0)) = true) := by
  decide +kernel

theorem test_ReadAndSurveySteps_survey :
    (let f := [(34, 2)]
      let s := arrayOn (offering .storeSurvey f { attached with store := { attached.store with
        blocks := [(0, { fill := .mark 63, prot := .pinned })] } });
      Ready .storeSurvey (record .storeSurvey f) s ∧ ArrayFree s
        ∧ rangeOk (half (record .storeSurvey f).bytes 32) (half (record .storeSurvey f).bytes 34) = true
        ∧ (s.store.block 0).fill ≠ .unknown ∧ (s.store.block 1).fill = .unknown
        ∧ (s.store.block 0).reportByte = 0x5A#8
        ∧ answers .storeSurvey s (·.store.op == some (.raw 64 .storeSurvey false)) = true)
      ∧ (let f := [(34, 1), (37, 0x20)]
        let s := arrayOn (offering .storeSurvey f { attached with store := { attached.store with
          blocks := [(0, { fill := .mark 63, prot := .pinned })] } });
        Ready .storeSurvey (record .storeSurvey f) s ∧ answers .storeSurvey s (fun t =>
          t.executor.phase == .reporting && t.bus.queue.contains (.buffer .report 0x2000 1)) = true)
      ∧ (let s := arrayOn (offering .storeSurvey [] attached);
        Ready .storeSurvey (record .storeSurvey []) s ∧ rangeOk (half (record .storeSurvey []).bytes 32) 0 = false
          ∧ answers .storeSurvey s (·.executor.phase == .idle) = true)
      ∧ (let s := withQueue [.buffer .report 0x2000 1] (working .storeSurvey .reporting [(37, 0x20)] [0x5A#8])
        s.executor.phase = .reporting ∧ Writable .store 0x2000#32 s
          ∧ answers (.surveyReportWriteEnd false) s (·.shared == [(0x2000, 0x5A#8)]) = true
          ∧ s.bus.queue = [.buffer .report 0x2000 1]
          ∧ answers (.surveyReportWriteEnd true) s (fun t => t.executor.phase == .idle && t.bus.queue.contains
              (.resultWrite .store 0x2000#32 .badAddress 0#32 0)) = true) := by decide +kernel

theorem test_EraseSteps_witness :
    let f := [(32, 0xFF), (33, 0x0F), (34, 64)]
    let s (m : Fill) := arrayOn (offering .storeErase f { attached with store := { attached.store with
      blocks := [(4095, { fill := m, prot := .pinnedOpen })] } });
    Ready .storeErase (record .storeErase f) (s (.mark 64)) ∧ ArrayFree (s (.mark 64))
      ∧ half (record .storeErase f).bytes 32 = 4095 ∧ half (record .storeErase f).bytes 34 = 64
      ∧ ((s (.mark 64)).store.block 4095).prot.writable = true ∧ (s (.mark 64)).turn.entries = []
      ∧ answers .storeErase (s (.mark 64)) (fun t => t.store.erase.any (·.block == 4095)) = true
      ∧ answers .storeErase (s .unknown) (·.store.op == some (.raw 262080 .erase false)) = true
      ∧ answers .storeErase (s .retired) (·.bus.queue.contains
          (.resultWrite .store 0x2000#32 .retiredBlock 0#32 0)) = true
      ∧ (let e : TurnEntry := { block := 4094, first := 63, count := 2, mode := .mono, bad := true }
        e.touches 4095 = true ∧ answers .storeErase { s (.mark 64) with turn := { Turn.reset with entries := [e] } }
          (·.bus.queue.contains (.resultWrite .store 0x2000#32 .conflict 0#32 0)) = true) := by decide +kernel

/-! ## Witnesses: rules of the whole part -/

/-- The part right after Full Reset with the memory's start in front: it meets every invariant, and a step answers. -/
theorem test_invariants_witness :
    LightBounded Light.reset .normal ∧ SnapshotInUse (State.reset.withCommand .initialisingEnd)
      ∧ GuardAgrees (State.reset.withCommand .initialisingEnd)
      ∧ PowerConsistent (State.reset.withCommand .initialisingEnd)
      ∧ Canonical (State.reset.withCommand .initialisingEnd) ∧ StoreAgrees State.reset :=
  ⟨by constructor <;> decide, fun h => absurd rfl h, fun _ _ h => absurd h List.not_mem_nil,
    by constructor <;> decide, ⟨rfl, rfl, rfl, rfl, fun _ h => absurd h List.not_mem_nil, rfl,
      fun _ h => absurd h List.not_mem_nil, fun _ h => absurd h List.not_mem_nil,
      fun _ h => absurd h List.not_mem_nil⟩,
    ⟨rfl, fun _ h => (by cases h), fun h => absurd rfl h,
      fun h => (by rcases h with h | h | ⟨_, h, _⟩ <;> first | exact absurd rfl h | cases h),
      fun _ _ h => (by cases h), fun _ _ h => (by cases h), fun _ _ h => (by cases h), fun _ _ h => (by cases h),
      fun _ _ _ h => (by cases h)⟩⟩

/-- An erase that waits behind a page read of a turn, its block not named by the list. -/
def eraseWaits : State :=
  arrayOn { attached with
    store := { attached.store with
      op := some (.read .turnAhead 448 false), ex := some (.erase 5 false),
      blocks := [(5, { fill := .mark 3, prot := .unlocked })] },
    turn := { Turn.reset with entries := [{ block := 7, first := 0, count := 1, mode := .mono, bad := false }] },
    executor := { Executor.reset with phase := .erasing, kind := some .storeErase, block := 5 } }

theorem test_ErasesSpareTheList_witness : StoreAgrees eraseWaits
    ∧ answers (.pageReadEnd { data := [], spareOnes := true, pageCrc := 0#32, retired := false }) eraseWaits
      (fun t => t.store.erase.any (·.block == 5) && !t.turn.names 5 && t.turn.names 7) = true := by
  refine ⟨⟨rfl, fun o h f => ?_, fun h => absurd rfl h, fun _ => by decide, fun b c h => ?_, fun p z h => ?_,
    fun p d h => ?_, fun p w h => ?_, fun p w z h => ?_⟩, by decide +kernel⟩
  · cases h; cases f
  · cases h; decide
  all_goals cases h

/-- A page program in flight at its block's fill mark. -/
def programming : State :=
  let s := working .storeIngest .programming [(36, 1)] [0#8]
  { s with store := { s.store with op := some (.program 0 [0#8]) } }

theorem test_MemoriesChangeOnlyByWrites_witness : StoreAgrees programming
    ∧ (programming.store.block 0).fill = .mark 0 ∧ sparseWf programming.store.array = true
    ∧ answers (.pageProgramEnd true) programming (fun t => (t.store.block 0).fill == .mark 1
        && t.store.page 0 != programming.store.page 0) = true := by
  refine ⟨⟨rfl, fun o h f => ⟨rfl, rfl⟩, fun h => absurd rfl h, fun _ => by decide, fun b c h => ?_, fun p z h => ?_,
    fun p d h => ?_, fun p w h => ?_, fun p w z h => ?_⟩, by decide +kernel⟩
  case refine_3 => cases h; decide
  all_goals cases h

theorem test_bounds_witness : WithinCapacity (State.reset.withCommand .initialisingEnd)
    ∧ SettingsInRange (State.reset.withCommand .initialisingEnd) ∧ LinkAgrees (State.reset.withCommand .initialisingEnd) := by
  refine ⟨⟨by decide, by decide, fun _ h => absurd h List.not_mem_nil, by decide, by decide, by decide, by decide,
    by decide, fun _ h => (by cases h), fun _ _ h => absurd h List.not_mem_nil⟩, ?_, ?_⟩
  · constructor <;> first | decide | (constructor <;> decide) | exact fun _ h => nomatch h
  · exact ⟨fun i => by cases i <;> constructor <;> decide, by decide, by decide, fun _ i => by cases i <;> decide,
      by decide⟩

/-- A DISPLAY lane whose record is being read while its table has room for that one. -/
def lastPlace : State :=
  withQueue [.recordRead .display 0x2000#32] { attached with link := attached.link.setLane .display fun l =>
    { l with state := .taking, cursor := 0x2000#32, table := List.replicate 31 (newEntry (record .panelStop []) none) } }

theorem test_bounds_lastPlace : LinkAgrees lastPlace
    ∧ answers (.recordReadEnd (.data (body [(4, 0x99)]))) lastPlace (·.link.display.table.length == 32) = true :=
  ⟨⟨fun i => by cases i <;> constructor <;> decide, by decide, by decide,
    fun h => by rcases h with h | h | h <;> exact absurd h (by decide), by decide⟩, by decide +kernel⟩

theorem test_step_answers : (match step (State.reset.withCommand .initialisingEnd) with
    | .next t => t.wm.state == .active
    | _       => false) = true := by decide +kernel

theorem test_ChangesAreReported_witness :
    SnapshotInUse attached ∧ attached.link.state = .attached ∧ .finalPage ∉ attached.bus.queue
      ∧ answers .pwmPeriodStart attached (·.bus.queue.isEmpty) = true
      ∧ answers (.inputChange .fwd true) attached (·.bus.queue.isEmpty) = true
      ∧ answers (.sweepTimerExpiry) attached (·.bus.queue.isEmpty) = true
      ∧ answers (.guardChange true) attached (fun t => t.bus.queue == [.statusPage] && t.bus.snapshot.isSome) = true :=
  ⟨fun h => absurd rfl h, by decide, by decide, by decide +kernel, by decide +kernel, by decide +kernel,
    by decide +kernel⟩

theorem test_ClassAndDeepRules_witness :
    let s := inPower .deep { running with
      power := { running.power with vddMain := false, cls := .exhausted, wakeTimer := some 1 } };
    PowerConsistent s ∧ s.power.state = .deep := by
  refine ⟨?_, rfl⟩
  constructor <;> decide

end Sys2Proof.Tests
end

section
/-!
PROOFS. The Sense Front End's filter (02 R29): one step is the error's magnitude divided by 2^k, added when the scaled
sample lies above the filtered value and taken off when it lies below. What R29 says of a step follows from these two
equations over the naturals.
-/

namespace Sys2Proof.Machine

open Sys2Proof

theorem scaleSample_le (d : Int) (gain : Nat) : scaleSample d gain ≤ 4095 := by
  unfold scaleSample clampInt
  split
  · decide
  · split <;> omega

/-! ## One filter step -/

theorem tdiv_error_of_le {f s : Nat} (n : Nat) (h : f ≤ s) :
    Int.tdiv ((s : Int) - f) n = ((s - f) / n : Nat) := by
  rw [← Int.ofNat_sub h, Int.ofNat_tdiv]

/-- Truncation toward zero divides the magnitude, whichever sign the error has. -/
theorem tdiv_error_of_ge {f s : Nat} (n : Nat) (h : s ≤ f) :
    Int.tdiv ((s : Int) - f) n = -((f - s) / n : Nat) := by
  rw [← Int.neg_sub, Int.neg_tdiv, ← Int.ofNat_sub h, Int.ofNat_tdiv]

theorem filterStep_of_le {f s : Nat} (k : Nat) (h : f ≤ s) : filterStep f s k = f + (s - f) / 2 ^ k := by
  rw [filterStep, tdiv_error_of_le _ h]
  exact Int.toNat_natCast _

theorem filterStep_of_ge {f s : Nat} (k : Nat) (h : s ≤ f) : filterStep f s k = f - (f - s) / 2 ^ k := by
  rw [filterStep, tdiv_error_of_ge _ h]
  exact Int.toNat_sub f _

theorem filterStep_le_of_le {f s : Nat} (k : Nat) (h : f ≤ s) : filterStep f s k ≤ s :=
  calc filterStep f s k
    _ = f + (s - f) / 2 ^ k := filterStep_of_le k h
    _ ≤ f + (s - f)         := Nat.add_le_add_left (Nat.div_le_self ..) f
    _ = s                   := Nat.add_sub_cancel' h

theorem le_filterStep_of_ge {f s : Nat} (k : Nat) (h : s ≤ f) : s ≤ filterStep f s k :=
  calc s
    _ = f - (f - s)         := (Nat.sub_sub_self h).symm
    _ ≤ f - (f - s) / 2 ^ k := Nat.sub_le_sub_left (Nat.div_le_self ..) f
    _ = filterStep f s k    := (filterStep_of_ge k h).symm

/-- A bound on both the filtered value and the scaled sample survives the step. -/
theorem filterStep_le {f s m : Nat} (k : Nat) (hf : f ≤ m) (hs : s ≤ m) : filterStep f s k ≤ m := by
  rcases Nat.le_total f s with h | h
  · exact Nat.le_trans (filterStep_le_of_le k h) hs
  · rw [filterStep_of_ge k h]
    exact Nat.le_trans (Nat.sub_le ..) hf

theorem two_pow_eq_natCast (k : Nat) : (2 : Int) ^ k = (2 ^ k : Nat) := (Int.natCast_pow 2 k).symm

/-- R29's own equation over the integers: no step is cut off at zero. -/
theorem natCast_filterStep (f s k : Nat) :
    (filterStep f s k : Int) = f + Int.tdiv ((s : Int) - f) (2 ^ k) := by
  rw [two_pow_eq_natCast]
  rcases Nat.le_total f s with h | h
  · rw [filterStep_of_le k h, tdiv_error_of_le _ h, Int.natCast_add]
  · have part : (f - s) / 2 ^ k ≤ f := Nat.le_trans (Nat.div_le_self ..) (Nat.sub_le ..)
    rw [filterStep_of_ge k h, tdiv_error_of_ge _ h, Int.ofNat_sub part, Int.sub_eq_add_neg]

theorem filterStep_zero (f s : Nat) : filterStep f s 0 = s := by
  rcases Nat.le_total f s with h | h
  · rw [filterStep_of_le 0 h, Nat.pow_zero, Nat.div_one, Nat.add_sub_cancel' h]
  · rw [filterStep_of_ge 0 h, Nat.pow_zero, Nat.div_one, Nat.sub_sub_self h]

/-- The dead band of R29: an error below 2^k in magnitude moves nothing. -/
theorem filterStep_of_error_lt {f s k : Nat} (above : s < f + 2 ^ k) (below : f < s + 2 ^ k) :
    filterStep f s k = f := by
  rcases Nat.le_total f s with h | h
  · rw [filterStep_of_le k h, Nat.div_eq_of_lt (by omega), Nat.add_zero]
  · rw [filterStep_of_ge k h, Nat.div_eq_of_lt (by omega), Nat.sub_zero]

/-! ## The filter within a channel's chain -/

@[simp] theorem Channel.sample_seed (c : Channel) (z r : Nat) : (c.sample z r).seed = false := rfl

theorem Channel.sample_filtered_of_seed {c : Channel} (z r : Nat) (h : c.seed = true) :
    (c.sample z r).filtered = scaleSample ((r : Int) - c.nextTrim z) c.gain := by
  simp only [Channel.sample, h, if_true]

theorem Channel.sample_filtered_of_not_seed {c : Channel} (z r : Nat) (h : c.seed = false) :
    (c.sample z r).filtered
      = filterStep c.filtered (scaleSample ((r : Int) - c.nextTrim z) c.gain) c.k := by
  simp only [Channel.sample, h, Bool.false_eq_true, if_false]

/-- Settles O18, by the filter's seed flag: a seeded channel takes the scaled sample, any other makes one filter step. -/
theorem filterMovesTowardSample : Obligations.FilterMovesTowardSample := by
  intro c z r inRange _
  refine ⟨c.sample_seed z r, ?_⟩
  have scaled := scaleSample_le ((r : Int) - c.nextTrim z) c.gain
  cases seed : c.seed with
  | true =>
    rw [c.sample_filtered_of_seed z r seed]
    exact ⟨scaled, fun _ => rfl, nofun, nofun, nofun, fun _ => Nat.le_refl _, nofun, scaled⟩
  | false =>
    rw [c.sample_filtered_of_not_seed z r seed]
    generalize scaleSample ((r : Int) - c.nextTrim z) c.gain = sc at scaled ⊢
    refine ⟨scaled, nofun, fun _ => natCast_filterStep .., ?straight, ?deadBand,
      filterStep_le_of_le c.k, fun _ => le_filterStep_of_ge c.k, filterStep_le c.k inRange scaled⟩
    case straight =>
      intro _ k0
      rw [k0, filterStep_zero]
    case deadBand =>
      intro _ above below
      rw [two_pow_eq_natCast] at above below
      exact filterStep_of_error_lt (by omega) (by omega)

end Sys2Proof.Machine
end

section
/-!
PROOFS. The supply class at a battery event (03 R42). The rise is given here as R42 words it, one class at a time; what
it passes and where it stops follow by induction along the rise. A class is kept on a second reading when it is no
higher than the down target and its leave threshold is not reached, and both steps of R42 end in such a class.
-/

namespace Sys2Proof.Machine

open Sys2Proof

/-! ## The thresholds and the order of the classes -/

/-- The enter threshold E of each class below Normal (R41). -/
def Power.EntersAt (p : Power) (enter : SupplyClass → Nat) : Prop :=
  enter .reduced = p.eReduced ∧ enter .critical = p.eCritical ∧ enter .exhausted = p.eExhausted

/-- The leave threshold X of each class below Normal (R42). -/
def Power.LeavesAt (p : Power) (leave : SupplyClass → Nat) : Prop :=
  leave .reduced = p.xReduced ∧ leave .critical = p.xCritical ∧ leave .exhausted = p.xExhausted

/-- The class one above, Normal its own. -/
def SupplyClass.raised : SupplyClass → SupplyClass
  | .normal    => .normal
  | .reduced   => .normal
  | .critical  => .reduced
  | .exhausted => .critical

theorem SupplyClass.depth_raised {c : SupplyClass} (h : c ≠ .normal) : c.raised.depth + 1 = c.depth := by
  cases c with
  | normal => exact absurd rfl h
  | reduced => rfl
  | critical => rfl
  | exhausted => rfl

theorem SupplyClass.depth_inj {c d : SupplyClass} (h : c.depth = d.depth) : c = d :=
  match c, d, h with
  | .normal, .normal, _       => rfl
  | .reduced, .reduced, _     => rfl
  | .critical, .critical, _   => rfl
  | .exhausted, .exhausted, _ => rfl

theorem SupplyClass.ne_normal_of_depth_lt {c d : SupplyClass} (h : c.depth < d.depth) : d ≠ .normal :=
  fun normal => by rw [normal] at h; exact Nat.not_lt_zero _ h

/-! ## The down target -/

theorem lt_enter_downTarget {p : Power} {enter : SupplyClass → Nat} (enters : p.EntersAt enter) {v : Nat}
    (below : downTarget p v ≠ .normal) : v < enter (downTarget p v) := by
  obtain ⟨reduced, critical, exhausted⟩ := enters
  revert below
  unfold downTarget
  by_cases inExhausted : v < p.eExhausted
  · rw [if_pos inExhausted, exhausted]
    exact fun _ => inExhausted
  rw [if_neg inExhausted]
  by_cases inCritical : v < p.eCritical
  · rw [if_pos inCritical, critical]
    exact fun _ => inCritical
  rw [if_neg inCritical]
  by_cases inReduced : v < p.eReduced
  · rw [if_pos inReduced, reduced]
    exact fun _ => inReduced
  · rw [if_neg inReduced]
    exact absurd rfl

theorem downTarget_eq_of_lowest {p : Power} {enter : SupplyClass → Nat} (enters : p.EntersAt enter) {v : Nat}
    {d : SupplyClass} (below : d ≠ .normal) (entered : v < enter d)
    (lowest : ∀ c, d.depth < c.depth → enter c ≤ v) : downTarget p v = d := by
  obtain ⟨reduced, critical, exhausted⟩ := enters
  unfold downTarget
  cases d with
  | normal => exact absurd rfl below
  | reduced =>
    rw [if_neg (exhausted ▸ Nat.not_lt_of_le (lowest .exhausted (by decide))),
      if_neg (critical ▸ Nat.not_lt_of_le (lowest .critical (by decide))), if_pos (reduced ▸ entered)]
  | critical =>
    rw [if_neg (exhausted ▸ Nat.not_lt_of_le (lowest .exhausted (by decide))), if_pos (critical ▸ entered)]
  | exhausted => rw [if_pos (exhausted ▸ entered)]

/-! ## The rise -/

/-- Step 2 of R42 as the rule words it: the class rises by one while it is not Normal and `v` reaches its leave
threshold. -/
inductive Rises (leave : SupplyClass → Nat) (v : Nat) : SupplyClass → SupplyClass → Prop
  | stays {c : SupplyClass} (short : c ≠ .normal → v < leave c) : Rises leave v c c
  | rises {c r : SupplyClass} (below : c ≠ .normal) (reached : leave c ≤ v) (rest : Rises leave v c.raised r) :
      Rises leave v c r

section
variable {leave : SupplyClass → Nat} {v : Nat} {c r : SupplyClass}

theorem Rises.depth_le (h : Rises leave v c r) : r.depth ≤ c.depth := by
  induction h with
  | stays _ => exact Nat.le_refl _
  | rises below _ _ ih =>
    have one := SupplyClass.depth_raised below
    omega

/-- Every class the rise has left had its leave threshold reached. -/
theorem Rises.leave_le (h : Rises leave v c r) {d : SupplyClass} (above : r.depth < d.depth)
    (within : d.depth ≤ c.depth) : leave d ≤ v := by
  induction h with
  | stays _ => exact absurd above (Nat.not_lt_of_le within)
  | rises below reached _ ih =>
    have one := SupplyClass.depth_raised below
    rcases Nat.eq_or_lt_of_le within with same | higher
    · rwa [SupplyClass.depth_inj same]
    · exact ih above (by omega)

theorem Rises.lt_leave (h : Rises leave v c r) : r ≠ .normal → v < leave r := by
  induction h with
  | stays short => exact short
  | rises _ _ _ ih => exact ih

end

/-- One round of the rise's "while". -/
theorem riseFrom_eq_ite {p : Power} {leave : SupplyClass → Nat} (leaves : p.LeavesAt leave) (v : Nat)
    (c : SupplyClass) : riseFrom p v c = if leave c ≤ v then riseFrom p v c.raised else c := by
  obtain ⟨reduced, critical, exhausted⟩ := leaves
  cases c with
  | normal => exact (ite_self _).symm
  | reduced => rw [reduced]; rfl
  | critical => rw [critical]; rfl
  | exhausted => rw [exhausted]; rfl

theorem rises_riseFrom {p : Power} {leave : SupplyClass → Nat} (leaves : p.LeavesAt leave) (v : Nat)
    (c : SupplyClass) : Rises leave v c (riseFrom p v c) := by
  by_cases normal : c = .normal
  · subst normal
    exact .stays (absurd rfl)
  · have one := SupplyClass.depth_raised normal
    rw [riseFrom_eq_ite leaves]
    split
    case isTrue reached => exact .rises normal reached (rises_riseFrom leaves v c.raised)
    case isFalse short => exact .stays fun _ => Nat.lt_of_not_le short
termination_by c.depth

theorem riseFrom_of_lt_leave {p : Power} {leave : SupplyClass → Nat} (leaves : p.LeavesAt leave) {v : Nat}
    {c : SupplyClass} (short : c ≠ .normal → v < leave c) : riseFrom p v c = c := by
  by_cases normal : c = .normal
  · rw [normal]; rfl
  · rw [riseFrom_eq_ite leaves, if_neg (Nat.not_le_of_lt (short normal))]

/-! ## The class after a battery event -/

theorem classify_of_down {p : Power} {v : Nat} (seen : p.seen = true)
    (down : p.cls.depth < (downTarget p v).depth) : classify p v = downTarget p v := by
  simp only [classify, seen, down, Bool.not_true, Bool.false_eq_true, if_false, if_true]

theorem classify_of_not_down {p : Power} {v : Nat} (seen : p.seen = true)
    (notDown : (downTarget p v).depth ≤ p.cls.depth) : classify p v = riseFrom p v p.cls := by
  simp only [classify, seen, Nat.not_lt_of_le notDown, Bool.not_true, Bool.false_eq_true, if_false]

/-- A class no higher than the down target whose leave threshold is not reached is kept on this reading. -/
theorem classify_withCls_eq_self {p : Power} {leave : SupplyClass → Nat} (leaves : p.LeavesAt leave) {v : Nat}
    {c : SupplyClass} (seen : p.seen = true) (notDown : (downTarget p v).depth ≤ c.depth)
    (short : c ≠ .normal → v < leave c) : classify { p with cls := c } v = c :=
  calc classify { p with cls := c } v
    _ = riseFrom { p with cls := c } v c := classify_of_not_down seen notDown
    _ = c                                := riseFrom_of_lt_leave leaves short

/-- The last sentence of R42: with every leave threshold above its enter threshold, the class an event gives is kept
when the same reading comes again. -/
theorem classify_withCls_classify {p : Power} {enter leave : SupplyClass → Nat} (enters : p.EntersAt enter)
    (leaves : p.LeavesAt leave) (gap : ∀ c, c ≠ .normal → enter c < leave c) {v : Nat} (seen : p.seen = true) :
    classify { p with cls := classify p v } v = classify p v := by
  have targetShort : downTarget p v ≠ .normal → v < leave (downTarget p v) := fun below =>
    Nat.lt_trans (lt_enter_downTarget enters below) (gap _ below)
  rcases Nat.lt_or_ge p.cls.depth (downTarget p v).depth with down | notDown
  · rw [classify_of_down seen down]
    exact classify_withCls_eq_self leaves seen (Nat.le_refl _) targetShort
  · rw [classify_of_not_down seen notDown]
    have risen := rises_riseFrom leaves v p.cls
    refine classify_withCls_eq_self leaves seen (Nat.le_of_not_lt fun higher => ?_) risen.lt_leave
    -- A rise past the down target would have passed its leave threshold.
    exact Nat.not_lt_of_le (risen.leave_le higher notDown)
      (targetShort (SupplyClass.ne_normal_of_depth_lt higher))

/-- Settles O17, by the two steps of R42: the fall to the down target, and the induction along the rise. -/
theorem classFollowsHysteresis : Obligations.ClassFollowsHysteresis := by
  intro p v seen _ _ reducedGap criticalGap exhaustedGap enter leave enters leaves
  refine ⟨?falls, ?rises, classify_withCls_classify enters leaves ?gap seen⟩
  case falls =>
    intro d below entered lowest deeper
    have target := downTarget_eq_of_lowest enters below entered lowest
    rw [classify_of_down seen (target ▸ deeper), target]
  case rises =>
    intro noneDeeper
    have notDown : (downTarget p v).depth ≤ p.cls.depth := by
      by_cases normal : downTarget p v = .normal
      · rw [normal]; exact Nat.zero_le _
      · exact noneDeeper _ normal (lt_enter_downTarget enters normal)
    have risen := rises_riseFrom leaves v p.cls
    rw [classify_of_not_down seen notDown]
    exact ⟨risen.depth_le, fun _ => risen.leave_le, risen.lt_leave⟩
  case gap =>
    obtain ⟨enterReduced, enterCritical, enterExhausted⟩ := enters
    obtain ⟨leaveReduced, leaveCritical, leaveExhausted⟩ := leaves
    intro c below
    cases c with
    | normal => exact absurd rfl below
    | reduced => omega
    | critical => omega
    | exhausted => omega

end Sys2Proof.Machine
end

section
/-!
PROOFS. What a step can do. `Passes c s b u` says that the meaning of the command `c`, begun in `s`, passes through the
state `u` before the port is settled; each of its rules is one change that a meaning makes, with the conditions under
which the model makes it. Every invariant of the part is then an induction over these rules.
-/

namespace Sys2Proof.Machine

open Sys2Proof

/-! ## Changes that leave a block's invariants alone -/

/-- An access that reads neither a lane's record or link nor the Anchor Block, and is not the last page write. -/
def BusAccess.harmless : BusAccess → Bool
  | .recordRead .. | .linkRead .. | .anchorRead _ | .finalPage => false
  | .resultWrite .. | .stateWrite .. | .statusPage | .buffer .. => true

/-- No cause is cleared, and no Attach comes to wait. -/
structure RegsCalm (r r' : Regs) : Prop where
  cause  : ∀ k, r.cause.getLsbD k = true → r'.cause.getLsbD k = true
  attach : r'.attachWaits = true → r.attachWaits = true

/-- A lane keeps its state and its copy, and its table does not grow. -/
structure LaneCalm (l l' : Lane) : Prop where
  state : l'.state = l.state
  copy  : l'.copy = l.copy
  table : l'.table.length ≤ l.table.length

/-- The pending list does not grow, and every slot has the number and the rectangle of one there was. -/
structure PanelCalm (p p' : Panel) : Prop where
  pending   : p'.pending.Sublist p.pending
  slots     : ∀ e ∈ p'.slots, ∃ d ∈ p.slots, d.1 = e.1 ∧ d.2.eff = e.2.eff
  canonical : sparseWf p.slots = true → sparseWf p'.slots = true
  length    : sparseWf p.slots = true → p'.slots.length ≤ p.slots.length
  uncertain : p.uncertain.length ≤ 8 → p'.uncertain.length ≤ 8
  hold      : p.holdTime ≤ 5000 → p'.holdTime ≤ 5000

/-- The turn-ahead list and the key queue do not grow, and a quiet unit stays quiet. -/
structure TurnCalm (t t' : Turn) : Prop where
  quiet    : t.state = .idle → t.queue = [] → t'.state = .idle
  queue    : t'.queue.length ≤ t.queue.length
  entries  : t'.entries.length ≤ t.entries.length
  names    : ∀ b, t'.names b = true → t.names b = true
  interval : t'.interval = t.interval
  load     : ∀ l, t'.load = some l → l.reading = true → t.load = some l ∨ turnBodyOk l.record.bytes = true

/-- The arbiter's changes: the controller's state, the epoch and the panel state stay, the debt does not grow past 8. -/
structure MemoryCalm (w w' : WorkMem) : Prop where
  state : w'.state = w.state
  epoch : w'.epoch = w.epoch
  panel : w'.panel = w.panel
  debt  : w.debt ≤ 8 → w'.debt ≤ 8

/-- The settings of the Power Controller lie in the ranges their record is checked against (03 R44). -/
structure Power.InRange (p : Power) : Prop where
  thresholds : ∀ v ∈ [p.eReduced, p.xReduced, p.eCritical, p.xCritical, p.eExhausted, p.xExhausted], 1 ≤ v ∧ v ≤ 5118
  order1     : p.eCritical < p.eReduced
  order2     : p.eExhausted < p.eCritical
  hyst1      : p.eReduced + 20 ≤ p.xReduced
  hyst2      : p.eCritical + 20 ≤ p.xCritical
  hyst3      : p.eExhausted + 20 ≤ p.xExhausted
  grace      : 1 ≤ p.graceTime ∧ p.graceTime ≤ 60
  doze       : 1 ≤ p.dozeTimeout ∧ p.dozeTimeout ≤ 240
  storeIdle  : 10 ≤ p.storeIdle ∧ p.storeIdle ≤ 10000

/-- The channels, the periods and the curve of the Sense Front End lie in their ranges (02 R36, R37). -/
structure Sense.InRange (n : Sense) : Prop where
  runPeriod  : 50 ≤ n.runPeriod ∧ n.runPeriod ≤ 5000
  dozePeriod : 250 ≤ n.dozePeriod ∧ n.dozePeriod ≤ 10000
  deepPeriod : 10 ≤ n.deepPeriod ∧ n.deepPeriod ≤ 600
  curve      : ∀ c, n.curve = some c → c.length = 9 ∧ c.Pairwise (fun p q => p.1 < q.1)
    ∧ ∀ p ∈ c, p.1 ≤ 4095 ∧ -400 ≤ p.2 ∧ p.2 ≤ 1250
  batt       : n.batt.InRange
  therm      : n.therm.InRange
  amb        : n.amb.InRange

/-- Timers stop and requests are withdrawn, the power state, the class and the settings stay. -/
structure PowerCalm (p p' : Power) : Prop where
  state    : p'.state = p.state
  cls      : p'.cls = p.cls
  seen     : p.seen = true → p'.seen = true
  settings : p.InRange → p'.InRange
  reason   : p'.wakeReason = p.wakeReason
  forced   : p'.forced = p.forced
  vddMain  : p'.vddMain = p.vddMain
  descent  : p'.descentPending = p.descentPending
  grace    : p'.graceTimer ≠ none → p.graceTimer ≠ none
  doze     : p'.dozeTimer ≠ none → p.dozeTimer ≠ none
  wake     : p'.wakeTimer ≠ none → p.wakeTimer ≠ none
  drain    : p'.drainAsked = true → p.drainAsked = true
  remember : p'.remembered ≠ none → p.remembered ≠ none
  reset    : p'.resetPending = true → p.resetPending = true

/-- The operation in flight stays, ends, is a page read just begun for another client than the executor, or is the
second attempt of the same read. -/
def OpCalm (o o' : Option ArrayOp) : Prop :=
  o' = o ∨ o' = none ∨ (∃ cl p, cl ≠ .executor ∧ o' = some (.read cl p false))
    ∨ (∃ cl p z, o = some (.read cl p z) ∧ o' = some (.read cl p true))
    ∨ ∃ p w z, o = some (.raw p w z) ∧ o' = some (.raw p w true)

/-- The block table and the array stay, the executor asks for nothing new, and an erase stays at its block. -/
structure StoreCalm (st st' : Store) : Prop where
  blocks : st'.blocks = st.blocks
  array  : st'.array = st.array
  ex     : st'.ex = st.ex ∨ st'.ex = none
  erase  : st'.erase.map (·.block) = st.erase.map (·.block)
  op     : OpCalm st.op st'.op

/-- The operation that a granted request of the executor becomes (09 R176, R177, R179). -/
inductive Granted (st : Store) : ExRequest → ArrayOp → Prop where
  | read (p : Nat) : Granted st (.read p) (.read .executor p false)
  | raw (p : Nat) (why : RawWhy) : Granted st (.raw p why) (.raw p why false)
  | mark (b : Nat) : Granted st (.mark b) (.mark b)
  | program (p : Nat) (d : List Byte) : (st.block (p / 64)).prot.writable = true →
      (st.block (p / 64)).fill = .mark (p % 64) → Granted st (.program p d) (.program p d)
  | survey (p : Nat) (d : List Byte) : (st.block (p / 64)).fill = .unknown →
      Granted st (.program p d) (.raw (p / 64 * 64) (.program p d) false)
  | check (b : Nat) (z : Bool) : (st.block b).fill = .unknown →
      Granted st (.erase b z) (.raw (b * 64) .erase false)

/-- The executor may place a request: it is in a phase that waits for one, an erase is of its own block, which the list
does not name, and a raw read of an UNKNOWN block (10, section 10.1; 09 R170, 10 R195). -/
structure Postable (u : State) (r : ExRequest) : Prop where
  phase : u.executor.phase ≠ .idle ∧ u.executor.phase ≠ .verifying ∧ u.executor.phase ≠ .reporting
    ∧ (u.executor.phase = .programming → u.executor.buf ≠ []) ∧ (u.executor.phase = .reading → u.executor.buf = [])
  erase : ∀ b z, r = .erase b z → u.executor.phase = .erasing ∧ u.executor.block = b ∧ u.turn.names b = false
  raw   : ∀ p w, r = .raw p w → (u.store.block (p / 64)).fill = .unknown

/-- The executor stays at its phase, block and buffer, and a check that is to be made again stays so. -/
structure ExecutorCalm (x x' : Executor) : Prop where
  phase   : x'.phase = x.phase
  block   : x'.block = x.block
  buf     : x'.buf = x.buf
  recheck : x'.recheck = false → x.recheck = false

/-! ## Composite changes -/

/-- The port once its access at the head has ended (01 R8). -/
def State.popped (s : State) (q : List BusAccess) : State := s.modBus fun b => { b with queue := q, snapshot := none }

/-- The Link Engine once DETACHING is entered (01 R5). -/
def Link.detaching (l : Link) : Link :=
  { l with state := .detaching, scanOn := false, display := l.display.detach, store := l.store.detach,
           control := l.control.detach }

/-- The supply class is replaced: the light is cut to it, and a grace ends unless the class is Exhausted (03 R43, R61). -/
def State.withClass (cl : SupplyClass) (s : State) : State :=
  (s.modPower fun p => { p with cls := cl, graceTimer := if cl = .exhausted then p.graceTimer else none }).modLight
    (Light.takeClass cl)

/-- The forced-descent flag is set, and the wake timer and its setting end (03 R62). -/
def State.forcing (s : State) : State := s.modPower fun p => { p with forced := true, wakeSetting := 0, wakeTimer := none }

/-- The power state becomes DEEP_ENTRY (03 R57). -/
def State.toDeepEntry (s : State) : State :=
  setPower .deepEntry (s.modPower fun p => { p with dozeTimer := none, drainAsked := false, descentPending := false })

/-- A wake from a DOZE state, the reset that it may carry apart (03 R50, R53). -/
def wakingFromDoze (r : WakeReason) (s : State) : State :=
  (leaveSelfRefresh
    (setPower .waking
      ((recordWake r s).modPower fun p =>
        { p with dozeTimer := none, wakeTimer := none, drainAsked := false, resetPending := r == .engineReset }))).modPanel
    fun p => { p with flushed := false }

/-- The part may go down: a descent waits for its decode, or the state is neither DEEP nor WAKING and no grace runs (03
R52, R56, R62, R63). -/
def MayDescend (s : State) (p : Power) : Prop :=
  p.descentPending = true ∨ ((PowerConsistent s → p.state ≠ .deep ∧ p.state ≠ .waking)
    ∧ (p.state = .run → p.graceTimer = none ∨ p.cls ≠ .exhausted ∨ p.dozeTimer ≠ none))

/-- The operations in flight are those the step found, or none. -/
structure SameTargets (s u : State) : Prop where
  op    : u.store.op = s.store.op ∨ u.store.op = none
  erase : u.store.erase = s.store.erase ∨ u.store.erase = none
  array : u.store.array = s.store.array

/-- The slot an entry starts in, and what the list and the engine become (06 R103). -/
def Panel.started (p : Panel) (e : Entry) (l : Latch) (n : Nat) : Panel :=
  { p.startEngine with
      pending := p.pending.filter fun x => x.id != e.id,
      slots := sparsePut n (startedSlot p e l) p.slots,
      copyQueue := p.copyQueue ++ [n] }

/-! ## The rules -/

/-- The states that the meaning of `c`, begun in `s`, passes through. The flag holds in the middle of a forced descent,
between the forced-descent flag and DEEP_ENTRY (03 R62). -/
inductive Passes (c : Instr) (s : State) : Bool → State → Prop where
  | start : Passes c s false s
  -- registers
  | regs {b u} (f : Regs → Regs) : Passes c s b u → RegsCalm u.regs (f u.regs) → Passes c s b (u.modRegs f)
  | causeCleared {b u} (v : Word) : Passes c s b u → (c.wellFormed = true → ∃ w, c = .causeClear w) →
      Passes c s b (clearCauses v u)
  -- the link and the port
  | attachToWait {b u} : Passes c s b u → u.link.attaching = false → u.link.state ≠ .attached →
      u.link.state ≠ .detaching → Passes c s b (attachToWait u)
  | startAttach {b u} : Passes c s b u → (u.link.attaching = false ∨ u.regs.attachWaits = true) →
      Passes c s b (startAttach u)
  | faultCleared {b u} : Passes c s b u → u.link.state = .fault →
      Passes c s b (u.modLink fun l => { l with state := .detached })
  | detaching {b u} : Passes c s b u → u.link.state = .attached → Passes c s b (u.modLink Link.detaching)
  | anchorPassed (addr : Word) (bs : List Byte) (q : List BusAccess) : s.bus.queue = .anchorRead addr :: q →
      Passes c s false (attachSucceeds bs (s.popped q))
  | anchorFailed (addr : Word) (q : List BusAccess) : s.bus.queue = .anchorRead addr :: q →
      Passes c s false (attachFails (s.popped q))
  | recordRead (i : LaneId) (addr : Word) (a : BusRead) (q : List BusAccess) :
      s.bus.queue = .recordRead i addr :: q → Passes c s false (recordRead i addr a (s.popped q))
  | linkRead (i : LaneId) (addr : Word) (why : LinkReadWhy) (v : Word) (q : List BusAccess) :
      s.bus.queue = .linkRead i addr why :: q → Passes c s false (linkRead i v (s.popped q))
  | headerWritten (a : BusAccess) (e : Bool) (q : List BusAccess) : s.bus.queue = a :: q → a.isHeaderWrite = true →
      c = .recordHeaderWriteEnd e → Passes c s false (headerWritten a e (s.popped q))
  | pageWritten (e : Bool) (q : List BusAccess) : s.bus.queue = .statusPage :: q → c = .statusPageWriteEnd e →
      Passes c s false (pageWritten e s.bus.snapshot (s.popped q))
  | finalWritten (e : Bool) (q : List BusAccess) : s.bus.queue = .finalPage :: q → c = .detachFinalPage e →
      Passes c s false ((pageWritten e s.bus.snapshot (s.popped q)).modLink fun l => { l with state := .detached })
  | bufferEnded (use : BufferUse) (addr n : Nat) (q : List BusAccess) : s.bus.queue = .buffer use addr n :: q →
      Passes c s false (s.popped q)
  | transferEnded {b u} (f : List BusAccess → List BusAccess) : Passes c s b u →
      Passes c s b (u.modBus fun x => { x with transfers := f x.transfers })
  | lane {b u} (i : LaneId) (f : Lane → Lane) : Passes c s b u → LaneCalm (u.link.lane i) (f (u.link.lane i)) →
      Passes c s b (u.modLane i f)
  | ask {b u} (a : BusAccess) : Passes c s b u → a.harmless = true → Passes c s b (enqueue a u)
  | askLink {b u} (i : LaneId) (why : LinkReadWhy) : Passes c s b u → u.link.state = .attached →
      (u.link.lane i).state = .parked → Passes c s b (requestLink i why u)
  | accept {b u} (k : Kind) (r : RecordCopy) : Passes c s b u → offered k u = some r →
      Passes c s b (acceptRecord k r u)
  | hold {b u} (k : Kind) (r : RecordCopy) : Passes c s b u → offered k u = some r →
      Passes c s b (holdLane k.lane u)
  | released {b u} (i : LaneId) : Passes c s b u → Passes c s b (releaseHeld i u)
  | dropRows {b u} (n : Nat) : Passes c s b u → Passes c s b (dropRows n u)
  -- shared memory
  | shared {b u} (f : List Host.Cell → List Host.Cell) : Passes c s b u →
      (∃ ok, c = .storeReadDestWriteEnd ok ∨ c = .surveyReportWriteEnd ok) →
      (sparseWf u.shared = true → sparseWf (f u.shared) = true) → Passes c s b (u.modShared f)
  -- working memory
  | memory {b u} (f : WorkMem → WorkMem) : Passes c s b u → MemoryCalm u.wm (f u.wm) → Passes c s b (u.modWm f)
  | askSelfRefresh {b u} : Passes c s b u → Passes c s b (askSelfRefresh u)
  | leaveSelfRefresh {b u} : Passes c s b u → Passes c s b (leaveSelfRefresh u)
  | activated : (s.power.resetPending = false ∨ s.wm.state ≠ .leaving) → Passes c s false (s.modWm WorkMem.activate)
  | selfRefreshed : s.wm.state = .entering → Passes c s false (s.modWm fun w => { w with state := .selfRefresh })
  | copied {b u} (n : Nat) (sl : Slot) (image : List Byte) : Passes c s b u → (n, sl) ∈ u.panel.slots →
      Passes c s b (copyTargets n sl image u)
  | passed {b u} (n : Nat) (sl : Slot) (retires : Bool) : Passes c s b u → (n, sl) ∈ u.panel.slots →
      Passes c s b (passOver n sl retires u)
  -- the Waveform Unit and the Panel Update Engine
  | wave {b u} (f : Wave → Wave) : Passes c s b u → Passes c s b (u.modWave f)
  | panel {b u} (f : Panel → Panel) : Passes c s b u → PanelCalm u.panel (f u.panel) → Passes c s b (u.modPanel f)
  | join {b u} (e : Entry) : Passes c s b u → e.rect.onPanel → u.panel.pending.length < 16 →
      Passes c s b (u.modPanel fun p => { p with pending := p.pending ++ [e], nextId := e.id + 1 })
  | starts {b u} (e : Entry) (l : Latch) (n : Nat) : Passes c s b u → startsMade u = true →
      findStart u.panel [] u.panel.pending = some e → u.panel.freeSlot = some n →
      Passes c s b (u.modPanel fun p => p.started e l n)
  -- the Turn-Ahead Unit
  | turn {b u} (f : Turn → Turn) : Passes c s b u → TurnCalm u.turn (f u.turn) → Passes c s b (u.modTurn f)
  | joinKey {b u} (k : TurnKey) : Passes c s b u → u.turn.queue.length < 4 → u.power.descentPending = false →
      u.power.drainAsked = false → Passes c s b (u.modTurn fun x => { x with queue := x.queue ++ [k] })
  | relist {b u} (f : Turn → Turn) : Passes c s b u →
      (WithinCapacity s → (f u.turn).entries.length ≤ 24 ∧ (f u.turn).interval ≤ 15) →
      (f u.turn).queue = [] → (u.turn.state = .idle → (f u.turn).state = .idle) → (f u.turn).load = u.turn.load →
      (∀ b z, u.store.ex ≠ some (.erase b z)) →
      (StoreAgrees s → ∀ p z, u.store.op = some (.raw p .erase z) → u.executor.recheck = true) →
      Passes c s b (u.modTurn f)
  | turnLost {b u} : Passes c s b u → Passes c s b (turnLost u)
  -- the Front Light and the Sense Front End, keys and pins
  | light {b u} (f : Light → Light) : Passes c s b u →
      (LightBounded u.light u.power.cls → LightBounded (f u.light) u.power.cls) → Passes c s b (u.modLight f)
  | cls {b u} (cl : SupplyClass) : Passes c s b u → u.panel = s.panel → u.power.seen = true →
      (∃ raw w, c = .conversionEnd raw ∧ s.sense.sweep = some w ∧ w.stage = .signal ∧ w.nextChannel = none) →
      Passes c s b (u.withClass cl)
  | sense {b u} (f : Sense → Sense) : Passes c s b u → (u.sense.InRange → (f u.sense).InRange) →
      Passes c s b (u.modSense f)
  | keys {b u} (f : Keys → Keys) : Passes c s b u → Passes c s b (u.modKeys f)
  | railGood {b u} (x : Bool) : Passes c s b u → Passes c s b (u.modPins fun p => { p with railGood := x })
  | guardKept (x : Bool) : (s.power.vddMain && s.pins.guard != x) = false →
      Passes c s false (s.modPins fun p => { p with guard := x })
  | guardChanged (x : Bool) : c = .guardChange x →
      Passes c s false ((s.modPins fun p => { p with guard := x }).modStore (Store.takeGuard x))
  -- the Power Controller
  | power {b u} (f : Power → Power) : Passes c s b u → PowerCalm u.power (f u.power) → Passes c s b (u.modPower f)
  | remember {b u} (r : WakeReason) : Passes c s b u →
      (u.power.state = .deepEntry ∨ u.power.descentPending = true) →
      Passes c s b (u.modPower fun p => { p with remembered := p.remembered.or (some r) })
  | grace {b u} : Passes c s b u → u.power.state = .run → u.power.cls = .exhausted →
      Passes c s b (u.modPower fun p => { p with graceTimer := some p.graceTime })
  | drain {b u} : Passes c s b u → (u.power.state = .dozeEntry ∨ u.power.state = .dozeTurning) →
      u.power.descentPending = false ∨ u.power.state = .dozeEntry → u.turn.state = .idle → u.turn.queue = [] →
      Passes c s b (u.modPower fun p => { p with drainAsked := true })
  | descentWaits {b u} : Passes c s b u → u.power.state = .dozeTurning → u.turn.queue = [] →
      u.turn.decoding = true → Passes c s b (u.modPower fun p => { p with descentPending := true })
  | dozeQuiet {u} : Passes c s false u → Passes c s false (reachDozeQuiet u)
  | dozeTurning {u} : Passes c s false u → u.power.state = .dozeQuiet → Passes c s false (setPower .dozeTurning u)
  | dozeEntry {u} : Passes c s false u → u.power.state = .run → u.power.cls ≠ .exhausted →
      Passes c s false (setPower .dozeEntry u)
  | force {u} (b : Bool) : Passes c s false u → (b = true ∨ u.power.state = .deepEntry) → Passes c s b u.forcing
  | deepEntry {b u} : Passes c s b u → MayDescend s u.power → Passes c s false u.toDeepEntry
  | enterDeep {u} : Passes c s false u → u.power.state = .deepEntry → u.power.remembered = none → SameTargets s u →
      c = .deepEntryComplete → Passes c s false (enterDeep u)
  | run {u} : Passes c s false u → s.power.state = .waking → u.power.state = .waking → u.power.resetPending = false →
      Passes c s false (setPower .run u)
  | wakingFromDoze {u} (r : WakeReason) : Passes c s false u → InDoze u → u.power.descentPending = false →
      (r = .engineReset → u.wm.state = .selfRefresh ∨ u.wm.state = .leaving) → Passes c s false (wakingFromDoze r u)
  | resetFromDoze {u} : Passes c s false u → InDoze u → u.power.descentPending = false → SameTargets s u →
      (c.wellFormed = true → ResetsMain c) → Passes c s false (engineReset (wakingFromDoze .engineReset u))
  | wakeFromDeep {u} (r : WakeReason) : Passes c s false u → u.power.state = .deep → r.reachesDeep = true →
      (u.power.cls = .exhausted → r = .charger) → SameTargets s u → (c.wellFormed = true → ResetsMain c) →
      Passes c s false (wakeFromDeep r u)
  | engineReset {u} : Passes c s false u →
      (u.power.state = .run ∨ (PowerConsistent s → s.power.state = .waking ∧ u.power.state = .waking)) →
      SameTargets s u →
      (c.wellFormed = true → ResetsMain c) → Passes c s false (engineReset u)
  | fullReset : c = .fullReset → Passes c s false (fullReset s)
  -- the Store Controller and the executor
  | store {b u} (f : Store → Store) : Passes c s b u → StoreCalm u.store (f u.store) → Passes c s b (u.modStore f)
  | grant {b u} (r : ExRequest) (o : ArrayOp) : Passes c s b u → u.store.ex = some r → u.store.op = none →
      u.store.erase = none → Granted u.store r o →
      Passes c s b (u.modStore fun st => { st with ex := none }.launch o)
  | eraseStarts {b u} (n : Nat) (z : Bool) : Passes c s b u → u.store.ex = some (.erase n z) → u.store.op = none →
      u.store.erase = none → eraseCheck u.store n = none →
      Passes c s b (u.modStore fun st =>
        { st with ex := none, idle := none, erase := some { block := n, phase := .running, count := 0 } })
  | post {b u} (r : ExRequest) : Passes c s b u → (StoreAgrees s → ¬ u.store.outstanding ∧ Postable u r) →
      Passes c s b (postRequest r u)
  | executor {b u} (f : Executor → Executor) : Passes c s b u →
      (StoreAgrees s → ¬ u.store.outstanding ∨ ExecutorCalm u.executor (f u.executor)) →
      Passes c s b (u.modExecutor f)
  | surveyed (page : RawPage) (p : Nat) (why : RawWhy) (z : Bool) (f : Fill) : c = .rawReadEnd page →
      s.store.op = some (.raw p why z) → Passes c s false ((endOp s).modStore fun st => st.setFill (p / 64) f)
  | programmed (p : Nat) (d : List Byte) : c = .pageProgramEnd true → s.store.op = some (.program p d) →
      Passes c s false ((endOp s).modStore fun st =>
        { st.setFill (p / 64) (.mark (p % 64 + 1)) with
            array := sparsePut p { st.page p with data := .written d (crc32 d) } st.array })
  | programFailed (p : Nat) (d : List Byte) : (∃ ok, c = .pageProgramEnd ok ∨ c = .busyLimitExpiry) →
      s.store.op = some (.program p d) →
      Passes c s false ((endOp s).modStore fun st => { st with array := sparsePut p .undefined st.array })
  | erased (e : Erase) : c = .eraseEnd true → runningErase s.store = some e →
      Passes c s false (s.modStore fun st =>
        { st.setFill e.block (.mark 0) with erase := none, array := fillBlock e.block .erased st.array })
  | eraseFailed (e : Erase) : (∃ ok, c = .eraseEnd ok ∨ c = .busyLimitExpiry) → runningErase s.store = some e →
      Passes c s false (s.modStore fun st =>
        { st with erase := none, array := fillBlock e.block .undefined st.array })
  | marked (n : Nat) (x : Bool) : (∃ ok, c = .markWriteEnd ok ∨ c = .busyLimitExpiry) →
      s.store.op = some (.mark n) →
      Passes c s false ((endOp s).modStore fun st =>
        { st.setFill n .retired with array := st.setField n (if x then .marked else .undefined) })
  | protect {b u} (cmd : ProtectCommand) (first n : Nat) : Passes c s b u → c = .storeProtect →
      u.store = s.store → (StoreAgrees s → ¬ u.store.outstanding) →
      Passes c s b (u.modStore (protectRange u.pins.guard cmd first n))

end Sys2Proof.Machine
end

section
/-!
PROOFS. The operations that the blocks share, working memory, the Waveform Unit and the Panel Update Engine: each passes
through the rules of `Passes` alone.
-/

namespace Sys2Proof.Machine

open Sys2Proof

variable {c : Instr} {s u : State} {b : Bool}

/-! ## Registers, tables and the port -/

theorem setCause_passes (k : Cause) (h : Passes c s b u) : Passes c s b (setCause k u) :=
  h.regs _ ⟨fun i hi => by simp [hi], id⟩

theorem setHostwake_passes (h : Passes c s b u) : Passes c s b (setHostwake u) :=
  h.regs _ ⟨fun _ => id, id⟩

theorem requestPage_passes (h : Passes c s b u) : Passes c s b (requestPage u) := by
  unfold requestPage
  split
  · exact h.ask _ rfl
  · exact h

theorem retire_passes (i : LaneId) (h : Passes c s b u) : Passes c s b (retire i u) := by
  have lane := h.lane i
    (fun l => { l with
      table := l.table.dropWhile TakenEntry.retirable,
      retiredAddr := (((u.link.lane i).table.takeWhile TakenEntry.retirable).getLast?.map (·.addr)).getD l.retiredAddr,
      retiredCount := l.retiredCount
        + BitVec.ofNat 32 ((u.link.lane i).table.takeWhile TakenEntry.retirable).length })
    ⟨rfl, rfl, (List.dropWhile_sublist _).length_le⟩
  unfold retire
  dsimp only
  split
  · exact setCause_passes _ lane
  · exact lane

theorem updateEntry_length (addr : Word) (f : TakenEntry → TakenEntry) (l : List TakenEntry) :
    (updateEntry addr f l).length = l.length := by
  induction l with
  | nil => rfl
  | cons e l ih =>
    unfold updateEntry
    split <;> simp [ih]

theorem markDone_passes (i : LaneId) (addr : Word) (h : Passes c s b u) : Passes c s b (markDone i addr u) :=
  retire_passes i (h.lane i _ ⟨rfl, rfl, Nat.le_of_eq (updateEntry_length _ _ _)⟩)

theorem completeRecord_passes (i : LaneId) (addr : Word) (result : ResultCode) (detail : Word) (progress : Nat)
    (h : Passes c s b u) : Passes c s b (completeRecord i addr result detail progress u) := by
  unfold completeRecord
  split
  · exact h
  · split
    · exact markDone_passes i addr h
    · exact (h.ask _ rfl).ask _ rfl

theorem markRunning_passes (i : LaneId) (addr : Word) (h : Passes c s b u) : Passes c s b (markRunning i addr u) := by
  unfold markRunning
  split
  · exact h
  · split
    · exact h
    · exact h.ask _ rfl

/-! ## Working memory -/

theorem WorkMem.decide_calm (w : WorkMem) : MemoryCalm w w.decide := by
  refine ⟨by simp, by simp, by simp, fun hd => ?_⟩
  rcases w.decide_debt with h | ⟨h, -⟩ <;> omega

theorem MemoryCalm.trans {w x y : WorkMem} (h : MemoryCalm w x) (k : MemoryCalm x y) : MemoryCalm w y :=
  ⟨k.state.trans h.state, k.epoch.trans h.epoch, k.panel.trans h.panel, fun d => k.debt (h.debt d)⟩

theorem wmRequest_passes (x : WmClient) (h : Passes c s b u) : Passes c s b (wmRequest x u) := by
  refine h.memory _ ?_
  split
  · exact ⟨rfl, rfl, rfl, id⟩
  · exact MemoryCalm.trans ⟨by simp, by simp, by simp, by simp⟩ (WorkMem.decide_calm _)

theorem wmDrop_passes (x : WmClient) (h : Passes c s b u) : Passes c s b (wmDrop x u) :=
  h.memory _ ⟨rfl, rfl, rfl, id⟩

theorem wmGoOn_passes (l : List WmClient) (h : Passes c s b u) : Passes c s b (wmGoOn l u) :=
  h.memory _ (MemoryCalm.trans ⟨by simp, by simp, by simp, by simp⟩ (WorkMem.decide_calm _))

/-! ## The Waveform Unit -/

theorem endLoad_passes (result : ResultCode) (h : Passes c s b u) : Passes c s b (endLoad result u) := by
  unfold endLoad
  split
  · exact h
  · exact completeRecord_passes _ _ _ _ _ (h.wave _)

theorem endWaitingLoad_passes (result : ResultCode) (h : Passes c s b u) : Passes c s b (endWaitingLoad result u) := by
  unfold endWaitingLoad
  split
  · exact endLoad_passes _ h
  · exact h

theorem endListWaitLoad_passes (h : Passes c s b u) : Passes c s b (endListWaitLoad u) := by
  unfold endListWaitLoad
  split
  · exact endLoad_passes _ h
  · exact h

theorem settlePeriod_passes (h : Passes c s b u) : Passes c s b (settlePeriod u) := by
  unfold settlePeriod
  split
  · exact h.wave _
  · exact h

theorem rangeEvent_passes (h : Passes c s b u) : Passes c s b (rangeEvent u) := by
  unfold rangeEvent
  split
  · exact h
  · split
    · exact h.wave _
    · exact h

/-! ## Reports on internal updates -/

/-- A change of the turn that leaves the list, the queue, the turn state, the interval and the load alone. -/
theorem TurnCalm.of_same {t t' : Turn} (he : t'.entries = t.entries) (hq : t'.queue = t.queue)
    (hs : t'.state = t.state) (hi : t'.interval = t.interval) (hl : t'.load = t.load) : TurnCalm t t' :=
  ⟨fun h _ => hs.trans h, hq ▸ Nat.le_refl _, he ▸ Nat.le_refl _, fun n => by simp [Turn.names, he], hi,
    fun l h _ => .inl (hl ▸ h)⟩

@[simp] theorem Turn.setFrame_keeps (t : Turn) (f : Frame) (x : FrameState) :
    (t.setFrame f x).entries = t.entries ∧ (t.setFrame f x).queue = t.queue ∧ (t.setFrame f x).state = t.state
    ∧ (t.setFrame f x).interval = t.interval ∧ (t.setFrame f x).load = t.load
    ∧ (t.setFrame f x).latestFull = t.latestFull ∧ (t.setFrame f x).target = t.target
    ∧ (t.setFrame f x).offerFull = t.offerFull ∧ (t.setFrame f x).counter = t.counter := by
  cases f <;> simp [Turn.setFrame]

@[simp] theorem Turn.lose_keeps (t : Turn) (id : Nat) :
    (t.lose id).entries = t.entries ∧ (t.lose id).queue = t.queue ∧ (t.lose id).state = t.state
    ∧ (t.lose id).interval = t.interval ∧ (t.lose id).load = t.load := by
  unfold Turn.lose
  split <;> simp

theorem reportCopied_passes (f : Frame) (h : Passes c s b u) : Passes c s b (reportCopied f u) :=
  h.turn _ (.of_same (by simp) (by simp) (by simp) (by simp) (by simp))

theorem reportRemoved_passes (f : Frame) (id : Nat) (h : Passes c s b u) : Passes c s b (reportRemoved f id u) :=
  h.turn _ (.of_same (by simp) (by simp) (by simp) (by simp) (by simp))

theorem reportEnded_passes (id : Nat) (h : Passes c s b u) : Passes c s b (reportEnded id u) :=
  h.turn _ (.of_same (by simp) (by simp) (by simp) (by simp) (by simp))

theorem reportCompleted_passes (id : Nat) (h : Passes c s b u) : Passes c s b (reportCompleted id u) := by
  refine h.turn _ ?_
  split
  · exact .of_same rfl rfl rfl rfl rfl
  · exact .of_same rfl rfl rfl rfl rfl

/-! ## The pending list -/

/-- A change of the panel that leaves the list, the slots, the regions and the hold time alone. -/
theorem PanelCalm.of_same {p p' : Panel} (hp : p'.pending = p.pending) (hs : p'.slots = p.slots)
    (hu : p'.uncertain = p.uncertain) (hh : p'.holdTime = p.holdTime) : PanelCalm p p' :=
  ⟨hp ▸ List.Sublist.refl _, fun e he => ⟨e, hs ▸ he, rfl, rfl⟩, fun h => by rw [hs]; exact h, fun _ => hs ▸ Nat.le_refl _,
    fun h => by rw [hu]; exact h, fun h => by rw [hh]; exact h⟩

theorem PanelCalm.filter_pending (p : Panel) (f : Entry → Bool) :
    PanelCalm p { p with pending := p.pending.filter f } :=
  ⟨List.filter_sublist, fun e he => ⟨e, he, rfl, rfl⟩, id, fun _ => Nat.le_refl _, id, id⟩

theorem endEntry_passes (result : ResultCode) (e : Entry) (h : Passes c s b u) : Passes c s b (endEntry result e u) := by
  unfold endEntry
  split
  · exact completeRecord_passes _ _ _ _ _ h
  · exact reportRemoved_passes _ _ h

theorem endEntries_passes (result : ResultCode) (l : List Entry) (h : Passes c s b u) :
    Passes c s b (endEntries result l u) := by
  induction l generalizing u with
  | nil => exact h
  | cons e l ih => exact ih (endEntry_passes result e h)

theorem removeEntries_passes (result : ResultCode) (p : Entry → Bool) (h : Passes c s b u) :
    Passes c s b (removeEntries result p u) :=
  endEntries_passes _ _ (h.panel _ (.filter_pending _ _))

@[simp] theorem endEntries_panel (result : ResultCode) (l : List Entry) (x : State) :
    (endEntries result l x).panel = x.panel := by
  simp

theorem removeEntries_panel (result : ResultCode) (p : Entry → Bool) (x : State) :
    (removeEntries result p x).panel = { x.panel with pending := x.panel.pending.filter fun e => !p e } := by
  simp [removeEntries]

theorem joinList_passes (e : Entry) (h : Passes c s b u) (onPanel : e.rect.onPanel)
    (room : u.panel.pending.length < 16) : Passes c s b (joinList e u) := by
  refine (removeEntries_passes .superseded (supersedes e) h).join e onPanel ?_
  rw [removeEntries_panel]
  exact Nat.lt_of_le_of_lt (List.length_filter_le _ _) room

theorem flushList_passes (result : ResultCode) (h : Passes c s b u) : Passes c s b (flushList result u) :=
  removeEntries_passes _ _ h

theorem flushRecords_passes (h : Passes c s b u) : Passes c s b (flushRecords u) :=
  removeEntries_passes _ _ h

/-! ## Starts and offers -/

theorem requestRows_passes (h : Passes c s b u) : Passes c s b (requestRows u) := by
  unfold requestRows
  split
  · exact h
  · split
    · exact h
    · split
      · exact h
      · split
        · exact h
        · exact h.ask _ rfl

theorem startEntry_passes (e : Entry) (h : Passes c s b u) (made : startsMade u = true)
    (found : findStart u.panel [] u.panel.pending = some e) : Passes c s b (startEntry e u) := by
  unfold startEntry
  split
  · next l n _ free => exact requestRows_passes (wmRequest_passes _ (h.starts e l n made found free))
  · exact removeEntries_passes _ _ h

theorem startAll_passes (n : Nat) (h : Passes c s b u) : Passes c s b (startAll n u) := by
  induction n generalizing u with
  | zero => exact h
  | succ n ih =>
    unfold startAll
    split
    · next made =>
      split
      · next found => exact ih (startEntry_passes _ h made found)
      · exact h
    · exact h

theorem evaluateStarts_passes (h : Passes c s b u) : Passes c s b (evaluateStarts u) := startAll_passes _ h

theorem fullPanel_onPanel : fullPanel.onPanel := ⟨Nat.le_refl _, Nat.le_refl _⟩

theorem Turn.accepted_keeps (t : Turn) (id : Nat) :
    (t.accepted id).entries = t.entries ∧ (t.accepted id).queue = t.queue ∧ (t.accepted id).state = .idle
    ∧ (t.accepted id).interval = t.interval ∧ (t.accepted id).load = t.load := by
  unfold Turn.accepted
  dsimp only
  split
  · simp
  · split <;> simp

theorem TurnCalm.of_idle {t t' : Turn} (he : t'.entries = t.entries) (hq : t'.queue = t.queue)
    (hs : t'.state = .idle) (hi : t'.interval = t.interval) (hl : t'.load = t.load) : TurnCalm t t' :=
  ⟨fun _ _ => hs, hq ▸ Nat.le_refl _, he ▸ Nat.le_refl _, fun n => by simp [Turn.names, he], hi,
    fun l h _ => .inl (hl ▸ h)⟩

theorem refuseOffer_passes (h : Passes c s b u) : Passes c s b (refuseOffer u) :=
  h.turn _ (.of_idle (by simp) (by simp) rfl (by simp) (by simp))

theorem tryOffer_passes (h : Passes c s b u) : Passes c s b (tryOffer u) := by
  unfold tryOffer
  split
  · exact h
  · split
    · exact refuseOffer_passes h
    · split
      · exact h
      · next room =>
        obtain ⟨he, hq, hs, hi, hl⟩ := u.turn.accepted_keeps u.panel.nextId
        exact evaluateStarts_passes (joinList_passes _ (h.turn _ (.of_idle he hq hs hi hl)) fullPanel_onPanel
          (Nat.lt_of_not_le room))

theorem settlePanel_passes (h : Passes c s b u) : Passes c s b (settlePanel u) :=
  tryOffer_passes (evaluateStarts_passes h)

/-! ## Aborts, stops and engine states -/

theorem reportAbort_passes (sl : Slot) (h : Passes c s b u) : Passes c s b (reportAbort sl u) := by
  unfold reportAbort
  split
  · exact h
  · exact reportRemoved_passes _ _ h
  · exact reportEnded_passes _ h

theorem copyOn_passes (h : Passes c s b u) : Passes c s b (copyOn u) := by
  unfold copyOn
  split
  · exact wmDrop_passes _ h
  · exact requestRows_passes (wmRequest_passes _ h)

theorem mem_of_sparseGet {β : Type} {k : Nat} {v : β} : ∀ {m : List (Nat × β)}, sparseGet k m = some v → (k, v) ∈ m
  | [], h => by cases h
  | (j, w) :: m, h => by
    unfold sparseGet at h
    split at h
    · cases h; subst_vars; exact List.mem_cons_self
    · exact List.mem_cons_of_mem _ (mem_of_sparseGet h)

theorem mem_sparsePut {β : Type} {k : Nat} {v : β} {e : Nat × β} : ∀ {m : List (Nat × β)}, e ∈ sparsePut k v m →
    e = (k, v) ∨ e ∈ m
  | [], h => .inl (List.mem_singleton.mp h)
  | (j, w) :: m, h => by
    unfold sparsePut at h
    split at h
    · exact (List.mem_cons.mp h)
    · split at h
      · exact (List.mem_cons.mp h).imp_right (List.mem_cons_of_mem _)
      · rcases List.mem_cons.mp h with h | h
        · exact .inr (h ▸ List.mem_cons_self)
        · exact (mem_sparsePut h).imp_right (List.mem_cons_of_mem _)

theorem mem_sparseErase {β : Type} {k : Nat} {e : Nat × β} : ∀ {m : List (Nat × β)}, e ∈ sparseErase k m → e ∈ m
  | [], h => h
  | (j, w) :: m, h => by
    unfold sparseErase at h
    split at h
    · exact List.mem_cons_of_mem _ h
    · rcases List.mem_cons.mp h with h | h
      · exact h ▸ List.mem_cons_self
      · exact List.mem_cons_of_mem _ (mem_sparseErase h)

theorem mem_sparseMap {β : Type} {f : Nat → β → β} {e : Nat × β} : ∀ {m : List (Nat × β)}, e ∈ sparseMap f m →
    ∃ d ∈ m, e = (d.1, f d.1 d.2)
  | [], h => by cases h
  | (j, w) :: m, h => by
    rcases List.mem_cons.mp h with h | h
    · exact ⟨_, List.mem_cons_self, h⟩
    · obtain ⟨d, hd, he⟩ := mem_sparseMap h
      exact ⟨d, List.mem_cons_of_mem _ hd, he⟩

@[simp] theorem sparseMap_length {β : Type} (f : Nat → β → β) : ∀ m : List (Nat × β),
    (sparseMap f m).length = m.length
  | [] => rfl
  | (j, w) :: m => by simp [sparseMap, sparseMap_length f m]

theorem sparseErase_length_le {β : Type} (k : Nat) : ∀ m : List (Nat × β), (sparseErase k m).length ≤ m.length
  | [] => Nat.le_refl _
  | (j, w) :: m => by
    unfold sparseErase
    split
    · simp
    · simpa using sparseErase_length_le k m

/-- Writing a key that is listed makes the list no longer. -/
theorem sparsePut_length {β : Type} {k lo : Nat} {v w : β} : ∀ {m : List (Nat × β)}, sparseFrom lo m = true →
    sparseGet k m = some w → (sparsePut k v m).length = m.length
  | [], _, h => by cases h
  | (j, x) :: m, wf, h => by
    simp only [sparseFrom, Bool.and_eq_true, decide_eq_true_eq] at wf
    unfold sparseGet at h
    unfold sparsePut
    split
    · next lt =>
      rw [if_neg (by omega), sparseGet_below (by omega) wf.2] at h
      cases h
    · split
      · simp
      · next ne =>
        rw [if_neg (fun e => ne e.symm)] at h
        simp [sparsePut_length wf.2 h]

theorem sparsePut_length_le {β : Type} (k : Nat) (v : β) : ∀ m : List (Nat × β),
    (sparsePut k v m).length ≤ m.length + 1
  | [] => Nat.le_refl _
  | (j, x) :: m => by
    unfold sparsePut
    split
    · simp
    · split
      · simp
      · simpa using sparsePut_length_le k v m

/-- A change of the slots' contents that keeps their rectangles. -/
theorem PanelCalm.map_slots (p : Panel) (f : Nat → Slot → Slot) (h : ∀ n sl, (f n sl).eff = sl.eff) :
    PanelCalm p { p with slots := sparseMap f p.slots } := by
  refine ⟨List.Sublist.refl _, fun e he => ?_, fun wf => ?_, fun _ => by simp, id, id⟩
  · obtain ⟨d, hd, rfl⟩ := mem_sparseMap he
    exact ⟨d, hd, rfl, (h _ _).symm⟩
  · simpa [sparseMap_wf] using wf

theorem Panel.addUncertain_calm (p : Panel) (r : Rect) : PanelCalm p (p.addUncertain r) := by
  unfold Panel.addUncertain
  split
  · exact .of_same rfl rfl rfl rfl
  · split
    · exact ⟨List.Sublist.refl _, fun e he => ⟨e, he, rfl, rfl⟩, id, fun _ => Nat.le_refl _, fun _ => by simp, id⟩
    · next room =>
      refine ⟨List.Sublist.refl _, fun e he => ⟨e, he, rfl, rfl⟩, id, fun _ => Nat.le_refl _, fun _ => ?_, id⟩
      simp only [Config.uncertainCapacity, List.length_append, List.length_singleton] at room ⊢
      omega

theorem PanelCalm.trans {p q r : Panel} (h : PanelCalm p q) (k : PanelCalm q r) : PanelCalm p r := by
  refine ⟨k.pending.trans h.pending, fun e he => ?_, fun w => k.canonical (h.canonical w),
    fun w => Nat.le_trans (k.length (h.canonical w)) (h.length w), fun w => k.uncertain (h.uncertain w),
    fun w => k.hold (h.hold w)⟩
  obtain ⟨d, hd, dn, deff⟩ := k.slots e he
  obtain ⟨a, ha, an, aeff⟩ := h.slots d hd
  exact ⟨a, ha, an.trans dn, aeff.trans deff⟩

/-- A listed slot is replaced by one with its rectangle. -/
theorem PanelCalm.put_slot {p : Panel} {n : Nat} {sl sl' : Slot} (h : sparseGet n p.slots = some sl)
    (he : sl'.eff = sl.eff) : PanelCalm p { p with slots := sparsePut n sl' p.slots } := by
  refine ⟨List.Sublist.refl _, fun e hm => ?_, sparsePut_wf _ (Nat.zero_le _),
    fun wf => Nat.le_of_eq (sparsePut_length wf h), id, id⟩
  rcases mem_sparsePut hm with rfl | hm
  · exact ⟨_, mem_of_sparseGet h, rfl, he.symm⟩
  · exact ⟨e, hm, rfl, rfl⟩

theorem abortSlot_passes (result : ResultCode) (n : Nat) (h : Passes c s b u) :
    Passes c s b (abortSlot result n u) := by
  unfold abortSlot
  split
  · exact h
  · next sl found =>
    split
    · exact h
    · have calm : PanelCalm u.panel (if sl.state = .running then u.panel.addUncertain sl.eff else u.panel) := by
        split
        · exact Panel.addUncertain_calm _ _
        · exact .of_same rfl rfl rfl rfl
      have slots : (if sl.state = .running then u.panel.addUncertain sl.eff else u.panel).slots = u.panel.slots := by
        split
        · unfold Panel.addUncertain
          split
          · rfl
          · split <;> rfl
        · rfl
      have aborted := h.panel
        (fun p => { (if sl.state = .running then p.addUncertain sl.eff else p) with
            slots := sparsePut n { sl with state := .clearing, abort := result } p.slots,
            copyQueue := p.copyQueue.filter (· != n),
            passQueue := p.passQueue ++ [n] })
        (calm.trans ((PanelCalm.put_slot (sl' := { sl with state := .clearing, abort := result })
          (slots.symm ▸ found : sparseGet n _ = some sl) rfl).trans (.of_same rfl (by rw [slots]) rfl rfl)))
      have copied := copyOn_passes (aborted.dropRows n)
      refine settlePeriod_passes (wmRequest_passes _ (reportAbort_passes sl ?_))
      split
      · exact copied
      · exact aborted

theorem abortSlots_passes (result : ResultCode) (l : List Nat) (h : Passes c s b u) :
    Passes c s b (abortSlots result l u) := by
  induction l generalizing u with
  | nil => exact h
  | cons n l ih => exact ih (abortSlot_passes result n h)

theorem foldl_complete_passes {α : Type} (f : α → State → State)
    (hf : ∀ a v, Passes c s b v → Passes c s b (f a v)) (l : List α) (h : Passes c s b u) :
    Passes c s b (l.foldl (fun v a => f a v) u) := by
  induction l generalizing u with
  | nil => exact h
  | cons a l ih => exact ih (hf a u h)

theorem completeStops_passes (h : Passes c s b u) : Passes c s b (completeStops u) :=
  foldl_complete_passes (fun (st : Stop) v => completeRecord .display st.addr .ok st.detail st.stopped v)
    (fun _ _ hv => completeRecord_passes _ _ _ _ _ hv) _ (h.panel _ (.of_same rfl rfl rfl rfl))

theorem effectStop_passes (st : Stop) (h : Passes c s b u) : Passes c s b (effectStop st u) :=
  abortSlots_passes _ _ (removeEntries_passes _ _ h)

theorem effectList_passes (l done : List Stop) (h : Passes c s b u) : Passes c s b (effectList l done u) := by
  induction l generalizing u done with
  | nil => exact h.panel _ (.of_same rfl rfl rfl rfl)
  | cons st l ih =>
    unfold effectList
    split
    · exact ih _ h
    · exact ih _ (effectStop_passes st h)

theorem effectStops_passes (h : Passes c s b u) : Passes c s b (effectStops u) :=
  completeStops_passes (effectList_passes _ _ h)

theorem enterHolding_passes (h : Passes c s b u) : Passes c s b (enterHolding u) := by
  refine effectStops_passes (h.panel _ ?_)
  split
  · exact .of_same rfl rfl rfl rfl
  · exact .of_same rfl rfl rfl rfl

theorem leaveDriving_passes (h : Passes c s b u) : Passes c s b (leaveDriving u) := by
  unfold leaveDriving
  split
  · exact settlePanel_passes (enterHolding_passes h)
  · exact h

theorem applyHoldCut_passes (h : Passes c s b u) : Passes c s b (applyHoldCut u) := by
  refine h.panel _ ?_
  split
  · exact .of_same rfl rfl rfl rfl
  · exact .of_same rfl rfl rfl rfl

theorem PanelCalm.erase_slot (p : Panel) (n : Nat) : PanelCalm p { p with slots := sparseErase n p.slots } :=
  ⟨List.Sublist.refl _, fun e he => ⟨e, mem_sparseErase he, rfl, rfl⟩, sparseErase_wf,
    fun _ => sparseErase_length_le _ _, id, id⟩

theorem freeSlot_passes (n id : Nat) (h : Passes c s b u) : Passes c s b (freeSlot n id u) := by
  have freed := h.panel
    (fun p => { p with slots := sparseErase n p.slots, passQueue := p.passQueue.filter (· != n),
                       stops := p.stops.map fun st => { st with waits := st.waits.filter (· != id) } })
    ((PanelCalm.erase_slot _ n).trans (.of_same rfl rfl rfl rfl))
  unfold freeSlot
  refine leaveDriving_passes (settlePanel_passes (completeStops_passes (settlePeriod_passes ?_)))
  split
  · exact wmDrop_passes _ freed
  · exact wmRequest_passes _ freed

theorem haltEngine_passes (h : Passes c s b u) : Passes c s b (haltEngine u) :=
  effectStops_passes (setCause_passes _ (endListWaitLoad_passes
    (abortSlots_passes _ _ (wmDrop_passes _ (h.panel _ (.of_same rfl rfl rfl rfl))))))

theorem completeSlot_passes (sl : Slot) (h : Passes c s b u) : Passes c s b (completeSlot sl u) := by
  unfold completeSlot
  split
  · exact completeRecord_passes _ _ _ _ _ h
  · exact reportCompleted_passes _ h

theorem panelLost_passes (h : Passes c s b u) : Passes c s b (panelLost u) :=
  h.panel _ ⟨List.Sublist.refl _, fun e he => ⟨e, he, rfl, rfl⟩, id, fun _ => Nat.le_refl _, fun _ => Nat.zero_le _, id⟩

theorem Panel.cleared_calm (p : Panel) (sl : Slot) : PanelCalm p (p.cleared sl) := by
  unfold Panel.cleared
  split
  · exact ⟨List.Sublist.refl _, fun e he => ⟨e, he, rfl, rfl⟩, id, fun _ => Nat.le_refl _,
      Nat.le_trans (List.length_filter_le _ _), id⟩
  · exact .of_same rfl rfl rfl rfl

end Sys2Proof.Machine
end

section
/-!
PROOFS. The Power Controller's operations, and those of the Link Engine and the Turn-Ahead Unit that act with it: each
passes through the rules of `Passes` alone.
-/

namespace Sys2Proof.Machine

open Sys2Proof

variable {c : Instr} {s u : State} {b : Bool}

/-! ## Wakes -/

/-- The changes of the Power Controller that stop timers and withdraw requests. -/
theorem PowerCalm.refl (p : Power) : PowerCalm p p :=
  ⟨rfl, rfl, id, id, rfl, rfl, rfl, rfl, id, id, id, id, id, id⟩

theorem Power.InRange.congr {p p' : Power} (h : p.InRange)
    (he : [p'.eReduced, p'.xReduced, p'.eCritical, p'.xCritical, p'.eExhausted, p'.xExhausted, p'.graceTime,
        p'.dozeTimeout, p'.storeIdle]
      = [p.eReduced, p.xReduced, p.eCritical, p.xCritical, p.eExhausted, p.xExhausted, p.graceTime, p.dozeTimeout,
        p.storeIdle]) : p'.InRange := by
  simp only [List.cons.injEq, and_true] at he
  obtain ⟨h1, h2, h3, h4, h5, h6, h7, h8, h9⟩ := he
  obtain ⟨k1, k2, k3, k4, k5, k6, k7, k8, k9⟩ := h
  exact ⟨by rw [h1, h2, h3, h4, h5, h6]; exact k1, by omega, by omega, by omega, by omega, by omega, by omega,
    by omega, by omega⟩

theorem withdrawDrain_passes (h : Passes c s b u) : Passes c s b (withdrawDrain u) := by
  unfold withdrawDrain
  split
  · exact (h.power _ { PowerCalm.refl u.power with
      settings := fun k => k.congr rfl, drain := fun k => by cases k }).leaveSelfRefresh
  · exact h

theorem rememberWake_passes (r : WakeReason) (h : Passes c s b u)
    (hp : u.power.state = .deepEntry ∨ u.power.descentPending = true) : Passes c s b (rememberWake r u) := by
  unfold rememberWake
  split
  · exact h.remember r hp
  · exact h

theorem wakeInDeep_passes (r : WakeReason) (h : Passes c s false u) (hp : u.power.state = .deep)
    (reaches : r.reachesDeep = true) (targets : SameTargets s u) (resets : c.wellFormed = true → ResetsMain c) :
    Passes c s false (wakeInDeep r u) := by
  unfold wakeInDeep
  split
  · exact (h.power _ { PowerCalm.refl u.power with
      settings := fun k => k.congr rfl, remember := fun k => absurd rfl k }).regs _ ⟨fun _ => id, fun k => nomatch k⟩
  · next awake => exact h.wakeFromDeep r hp reaches (fun e => Decidable.byContradiction fun k => awake ⟨e, k⟩) targets resets

theorem wakeFromDoze_eq (r : WakeReason) (x : State) : wakeFromDoze r x =
    if r = .engineReset ∧ (wakingFromDoze r x).wm.state ≠ .leaving then engineReset (wakingFromDoze r x)
    else wakingFromDoze r x := rfl

@[simp] theorem wakingFromDoze_wm (r : WakeReason) (x : State) : (wakingFromDoze r x).wm = x.wm.leave := by
  simp [wakingFromDoze, leaveSelfRefresh]

theorem WorkMem.leave_leaving {w : WorkMem} : w.leave.state = .leaving ↔ w.state = .selfRefresh ∨ w.state = .leaving := by
  unfold WorkMem.leave
  cases h : w.state <;> simp_all

theorem wakeFromDoze_passes (r : WakeReason) (h : Passes c s false u) (doze : InDoze u)
    (calm : u.power.descentPending = false)
    (hr : r = .engineReset → SameTargets s u ∧ (c.wellFormed = true → ResetsMain c)) :
    Passes c s false (wakeFromDoze r u) := by
  rw [wakeFromDoze_eq]
  split
  · next reset =>
    obtain ⟨rfl, -⟩ := reset
    exact h.resetFromDoze doze calm (hr rfl).1 (hr rfl).2
  · next kept =>
    refine h.wakingFromDoze r doze calm fun e => ?_
    rw [wakingFromDoze_wm] at kept
    exact WorkMem.leave_leaving.mp (Decidable.byContradiction fun k => kept ⟨e, k⟩)

/-- A wake event, where a wake that can reset the main domain finds the targets the step found. -/
theorem wakeEvent_passes (r : WakeReason) (h : Passes c s false u)
    (hr : r = .engineReset ∨ r.reachesDeep = true → SameTargets s u ∧ (c.wellFormed = true → ResetsMain c)) :
    Passes c s false (wakeEvent r u) := by
  have doze : InDoze u → Passes c s false
      (if u.power.descentPending then rememberWake r u else if r = .coverOpen then u else wakeFromDoze r u) := by
    intro d
    split
    · next w => exact rememberWake_passes r h (.inr w)
    · next w =>
      split
      · exact h
      · exact wakeFromDoze_passes r h d (by simpa using w) fun e => hr (.inl e)
  unfold wakeEvent
  cases hs : u.power.state with
  | run => exact h
  | waking => exact h
  | deepEntry => exact rememberWake_passes r h (.inl hs)
  | deep =>
    by_cases reaches : r.reachesDeep = true
    · simp only [reaches, if_true]
      exact wakeInDeep_passes r h hs reaches (hr (.inr reaches)).1 (hr (.inr reaches)).2
    · simp only [reaches]
      exact h
  | dozeEntry => exact doze (.inl hs)
  | dozeQuiet => exact doze (.inr (.inl hs))
  | dozeTurning => exact doze (.inr (.inr hs))

/-- A wake event that reaches neither DEEP nor carries a reset. -/
theorem wakeEvent_soft_passes (r : WakeReason) (h : Passes c s false u) (hr : r ≠ .engineReset)
    (hd : r.reachesDeep = false) : Passes c s false (wakeEvent r u) :=
  wakeEvent_passes r h fun k => k.elim (fun e => absurd e hr) fun e => by rw [hd] at e; cases e

/-! ## DETACHING and the descents -/

theorem enterDetaching_passes (h : Passes c s b u) (attached : u.link.state = .attached) :
    Passes c s b (enterDetaching u) := by
  have t := h.detaching attached
  unfold enterDetaching
  dsimp only
  split
  · exact settlePanel_passes (flushRecords_passes t)
  · exact t

theorem detachIfAttached_passes (h : Passes c s b u) : Passes c s b (detachIfAttached u) := by
  unfold detachIfAttached
  split
  · exact enterDetaching_passes h ‹_›
  · exact h

theorem flushHalted_passes (h : Passes c s b u) : Passes c s b (flushHalted u) :=
  tryOffer_passes (flushList_passes _ (h.panel _ (.of_same rfl rfl rfl rfl)))

theorem LightBounded.fade {l : Light} {cls : SupplyClass} (h : LightBounded l cls) (x : Bool) :
    LightBounded { l with fade := x } cls := by
  obtain ⟨h1, h2, h3, h4, h5, h6, h7⟩ := h
  exact ⟨h1, h2, h3, h4, h5, h6, h7⟩

/-- Emptying the key queue. -/
theorem TurnCalm.empty_queue (t : Turn) : TurnCalm t { t with queue := [] } :=
  ⟨fun h _ => h, Nat.zero_le _, Nat.le_refl _, fun _ => id, rfl, fun _ h _ => .inl h⟩

theorem enterDeepEntry_passes (h : Passes c s b u) (may : MayDescend s u.power) :
    Passes c s false (enterDeepEntry u) := by
  have t := applyHoldCut_passes
    (((h.deepEntry may).light (fun l => { l with fade := true }) (·.fade true)).turn
      (fun x => { x with queue := [] }) (.empty_queue _))
  unfold enterDeepEntry
  dsimp only
  split
  · exact flushHalted_passes t
  · exact t

theorem forceDescent_passes (b : Bool) (h : Passes c s false u) (hb : b = true ∨ u.power.state = .deepEntry) :
    Passes c s b (forceDescent u) :=
  tryOffer_passes (endWaitingLoad_passes _ (flushList_passes _ (h.force b hb)))

theorem forceDescent_power (x : State) :
    (forceDescent x).power = { x.power with forced := true, wakeSetting := 0, wakeTimer := none } := by
  simp [forceDescent, flushList]

theorem beginForcedDescent_passes (h : Passes c s false u) (may : MayDescend s u.power) :
    Passes c s false (beginForcedDescent u) := by
  refine detachIfAttached_passes (enterDeepEntry_passes (forceDescent_passes true h (.inl rfl)) ?_)
  rw [forceDescent_power]
  exact may

/-- A state that is none of RUN, WAKING and DEEP may go down. -/
theorem MayDescend.of_state {p : Power} (deep : p.state ≠ .deep) (waking : p.state ≠ .waking)
    (run : p.state ≠ .run) : MayDescend s p :=
  .inr ⟨fun _ => ⟨deep, waking⟩, fun h => absurd h run⟩

theorem startGrace_passes (h : Passes c s b u) (run : u.power.state = .run) (cls : u.power.cls = .exhausted) :
    Passes c s b (startGrace u) := by
  unfold startGrace
  split
  · exact setCause_passes _ (h.grace run cls)
  · exact h

theorem exhaustedDescent_passes (h : Passes c s false u) (cls : u.power.cls = .exhausted) :
    Passes c s false (exhaustedDescent u) := by
  unfold exhaustedDescent
  cases hs : u.power.state with
  | run => exact startGrace_passes h hs cls
  | waking => exact h
  | deep => exact h
  | deepEntry => exact forceDescent_passes false h (.inr hs)
  | dozeEntry => exact beginForcedDescent_passes h (.of_state (by simp [hs]) (by simp [hs]) (by simp [hs]))
  | dozeQuiet => exact beginForcedDescent_passes h (.of_state (by simp [hs]) (by simp [hs]) (by simp [hs]))
  | dozeTurning =>
    have t := h.turn (fun x => { x with queue := [] }) (.empty_queue _)
    dsimp only
    split
    · next decoding => exact t.descentWaits (by simpa using hs) rfl decoding
    · exact beginForcedDescent_passes t (.of_state (by simp [hs]) (by simp [hs]) (by simp [hs]))

theorem finishDescent_passes (h : Passes c s false u) : Passes c s false (finishDescent u) := by
  unfold finishDescent
  split
  · next pending =>
    simp only [Bool.and_eq_true] at pending
    exact beginForcedDescent_passes h (.inl pending.1)
  · exact h

end Sys2Proof.Machine
end

section
/-!
PROOFS. The Store Lane Executor's and the Store Controller's operations: each passes through the rules of `Passes`
alone. An operation of the executor is made while nothing of its is outstanding at the Store Controller.
-/

namespace Sys2Proof.Machine

open Sys2Proof

variable {c : Instr} {s u : State} {b : Bool}

/-! ## The executor -/

/-- Nothing of the executor's is outstanding at the Store Controller, where the two agreed when the step began. -/
def Unasked (s u : State) : Prop := StoreAgrees s → ¬ u.store.outstanding

theorem Unasked.of_requests {v : State} (h : Unasked s u) (hx : v.store.ex = u.store.ex)
    (ho : v.store.op = u.store.op) (he : v.store.erase = u.store.erase) : Unasked s v := by
  unfold Unasked Store.outstanding at h ⊢
  rw [hx, ho, he]
  exact h

theorem Unasked.of_store {v : State} (h : Unasked s u) (hs : v.store = u.store) : Unasked s v :=
  h.of_requests (by rw [hs]) (by rw [hs]) (by rw [hs])

theorem askBuffer_passes (use : BufferUse) (addr n : Nat) (h : Passes c s b u) :
    Passes c s b (askBuffer use addr n u) :=
  h.ask _ rfl

theorem executor_passes (f : Executor → Executor) (h : Passes c s b u) (hf : Unasked s u) :
    Passes c s b (u.modExecutor f) :=
  h.executor f fun k => .inl (hf k)

theorem finishExecutor_passes (result : ResultCode) (detail : Word) (progress : Nat) (h : Passes c s b u)
    (hf : Unasked s u) : Passes c s b (finishExecutor result detail progress u) :=
  executor_passes _ (completeRecord_passes _ _ _ _ _ h) (hf.of_store (by simp))

theorem beginExecutor_passes (k : Kind) (r : RecordCopy) (h : Passes c s b u) (hf : Unasked s u) :
    Passes c s b (beginExecutor k r u) :=
  executor_passes _ h hf

/-- The phases in which the executor waits for a page or a block. -/
theorem Postable.of_phase {r : ExRequest} (hp : u.executor.phase = .checking ∨ u.executor.phase = .surveying
      ∨ u.executor.phase = .erasing ∨ u.executor.phase = .retiring)
    (he : ∀ n z, r = .erase n z → u.executor.phase = .erasing ∧ u.executor.block = n ∧ u.turn.names n = false)
    (hr : ∀ p w, r = .raw p w → (u.store.block (p / 64)).fill = .unknown) : Postable u r := by
  refine ⟨?_, he, hr⟩
  rcases hp with hp | hp | hp | hp <;> simp [hp]

theorem post_passes (r : ExRequest) (h : Passes c s b u) (hf : Unasked s u) (hp : StoreAgrees s → Postable u r) :
    Passes c s b (postRequest r u) :=
  h.post r fun k => ⟨hf k, hp k⟩

theorem askPayloadPage_passes (h : Passes c s b u) : Passes c s b (askPayloadPage u) := h.ask _ rfl

theorem ingestKnown_passes (h : Passes c s b u) (hf : Unasked s u) : Passes c s b (ingestKnown u) := by
  unfold ingestKnown
  dsimp only
  split
  · exact finishExecutor_passes _ _ _ h hf
  · split
    · exact askBuffer_passes _ _ _ (executor_passes _ h hf)
    · exact finishExecutor_passes _ _ _ h hf
  · exact finishExecutor_passes _ _ _ h hf

theorem ingestChecks_passes (h : Passes c s b u) (hf : Unasked s u) (hp : u.executor.phase = .checking) :
    Passes c s b (ingestChecks u) := by
  unfold ingestChecks
  dsimp only
  split
  · exact finishExecutor_passes _ _ _ h hf
  · split
    · exact finishExecutor_passes _ _ _ h hf
    · split
      · exact finishExecutor_passes _ _ _ h hf
      · split
        · next unknown =>
          refine post_passes _ h hf fun _ => .of_phase (.inl hp) (fun _ _ e => nomatch e) fun p w e => ?_
          cases e
          rwa [Nat.mul_div_cancel _ (by decide)]
        · exact ingestKnown_passes h hf

theorem ingestVerified_passes (payload : List Byte) (h : Passes c s b u) (hf : Unasked s u) :
    Passes c s b (ingestVerified payload u) := by
  unfold ingestVerified
  dsimp only
  split
  · exact askPayloadPage_passes (executor_passes _ h hf)
  · exact finishExecutor_passes _ _ _ h hf

@[simp] theorem sized_length (n : Nat) (bs : List Byte) : (sized n bs).length = n := by
  simp only [sized, List.length_append, List.length_take, List.length_replicate]
  omega

theorem ingestPageRead_passes (payload : List Byte) (h : Passes c s b u) (hf : Unasked s u)
    (hp : u.executor.phase = .programming) :
    Passes c s b (ingestPageRead payload u) := by
  unfold ingestPageRead
  dsimp only
  refine post_passes _ ?_ ?_ fun _ => ⟨?_, fun _ _ e => (nomatch e), fun _ _ e => nomatch e⟩
  · split
    · exact markRunning_passes _ _ (executor_passes _ h hf)
    · exact executor_passes _ h hf
  · split
    · exact hf.of_store (by simp)
    · exact hf.of_store rfl
  · have filled : sized (ingestPageSize u.executor.record.bytes u.executor.page) payload = [] →
        ¬4096 - ingestPageSize u.executor.record.bytes u.executor.page = 0 := by
      intro empty
      have size := congrArg List.length empty
      simp only [sized_length, List.length_nil] at size
      omega
    split <;> simpa [hp] using filled

theorem ingestPageDone_passes (h : Passes c s b u) (hf : Unasked s u) : Passes c s b (ingestPageDone u) := by
  unfold ingestPageDone
  dsimp only
  split
  · exact askPayloadPage_passes (executor_passes _ h hf)
  · exact finishExecutor_passes _ _ _ (executor_passes _ h hf) (hf.of_store (by simp))

theorem requestReadPage_passes (h : Passes c s b u) (hf : Unasked s u) (hp : u.executor.phase = .reading)
    (hb : u.executor.buf = []) : Passes c s b (requestReadPage u) :=
  post_passes _ h hf fun _ => ⟨by simp [hp, hb], fun _ _ e => (nomatch e), fun _ _ e => nomatch e⟩

theorem readChecks_passes (h : Passes c s b u) (hf : Unasked s u) (hb : u.executor.buf = []) :
    Passes c s b (readChecks u) := by
  unfold readChecks
  dsimp only
  split
  · exact finishExecutor_passes _ _ _ h hf
  · split
    · exact finishExecutor_passes _ _ _ h hf
    · exact requestReadPage_passes (executor_passes _ h hf) (hf.of_store (by simp)) rfl hb

theorem readPageDone_passes (data : List Byte) (erased : Bool) (h : Passes c s b u) (hf : Unasked s u) :
    Passes c s b (readPageDone data erased u) :=
  askBuffer_passes _ _ _ (executor_passes _ h hf)

theorem readPageWritten_passes {ok : Bool} (h : Passes (.storeReadDestWriteEnd ok) s b u) (hf : Unasked s u)
    (hp : u.executor.phase = .reading) : Passes (.storeReadDestWriteEnd ok) s b (readPageWritten u) := by
  have t := executor_passes
    (fun x => { x with page := x.page + 1, progress := x.progress + 1, buf := [] })
    (h.shared (writeShared (readDestination u.executor) u.executor.buf) ⟨ok, .inl rfl⟩ (writeShared_wf _ _))
    (hf.of_store (by simp))
  unfold readPageWritten
  dsimp only
  split
  · exact requestReadPage_passes t (hf.of_store (by simp)) hp rfl
  · exact finishExecutor_passes _ _ _ t (hf.of_store (by simp))

theorem startBlock_passes (n : Nat) (h : Passes c s b u) (hf : Unasked s u) : Passes c s b (startBlock n u) := by
  have t := executor_passes (fun x => { x with phase := .erasing, block := n, recheck := false }) h hf
  have tf : Unasked s (u.modExecutor fun x => { x with phase := .erasing, block := n, recheck := false }) :=
    hf.of_store rfl
  unfold startBlock
  dsimp only
  split
  · exact finishExecutor_passes _ _ _ t tf
  · split
    · exact finishExecutor_passes _ _ _ t tf
    · split
      · exact finishExecutor_passes _ _ _ t tf
      · split
        · exact finishExecutor_passes _ _ _ t tf
        · next unnamed =>
          refine post_passes _ t tf fun _ => .of_phase (.inr (.inr (.inl rfl))) (fun m z e => ?_) fun _ _ e => nomatch e
          cases e
          exact ⟨rfl, rfl, by simpa using unnamed⟩

theorem eraseChecks_passes (h : Passes c s b u) (hf : Unasked s u) : Passes c s b (eraseChecks u) := by
  unfold eraseChecks
  dsimp only
  split
  · exact startBlock_passes _ h hf
  · exact finishExecutor_passes _ _ _ h hf

theorem blockErased_passes (h : Passes c s b u) (hf : Unasked s u) : Passes c s b (blockErased u) := by
  have t := executor_passes (fun x => { x with progress := x.progress + 1 }) h hf
  unfold blockErased
  dsimp only
  split
  · exact startBlock_passes _ t (hf.of_store (by simp))
  · exact finishExecutor_passes _ _ _ t (hf.of_store (by simp))

theorem beginRetiring_passes (n : Nat) (h : Passes c s b u) (hf : Unasked s u) : Passes c s b (beginRetiring n u) :=
  post_passes _ (executor_passes _ h hf) (hf.of_store (by simp)) fun _ =>
    .of_phase (.inr (.inr (.inr rfl))) (fun _ _ e => nomatch e) fun _ _ e => nomatch e

theorem retiringDone_passes (h : Passes c s b u) (hf : Unasked s u) : Passes c s b (retiringDone u) :=
  finishExecutor_passes _ _ _ (setCause_passes _ h) (hf.of_store (by simp))

theorem protectChecks_passes (h : Passes .storeProtect s b u) (hf : Unasked s u) (hs : u.store = s.store) :
    Passes .storeProtect s b (protectChecks u) := by
  unfold protectChecks
  dsimp only
  split
  · exact finishExecutor_passes _ _ _ h hf
  · split
    · exact finishExecutor_passes _ _ _ h hf
    · split
      · exact finishExecutor_passes _ _ _ h hf
      · exact finishExecutor_passes _ _ _ (h.protect _ _ _ rfl hs hf) (hf.of_requests (by simp) (by simp) (by simp))

theorem surveyFrom_passes (place : Nat) (h : Passes c s b u) (hf : Unasked s u) : Passes c s b (surveyFrom place u) := by
  unfold surveyFrom
  dsimp only
  split
  · next i found =>
    refine post_passes _ (executor_passes _ h hf) (hf.of_store (by simp)) fun _ =>
      .of_phase (.inr (.inl rfl)) (fun _ _ e => nomatch e) fun p w e => ?_
    cases e
    rw [Nat.mul_div_cancel _ (by decide)]
    simpa using List.find?_some found
  · exact askBuffer_passes _ _ _ (executor_passes _ h hf)

theorem surveyChecks_passes (h : Passes c s b u) (hf : Unasked s u) : Passes c s b (surveyChecks u) := by
  unfold surveyChecks
  dsimp only
  split
  · exact finishExecutor_passes _ _ _ h hf
  · split
    · exact finishExecutor_passes _ _ _ h hf
    · exact surveyFrom_passes _ h hf

theorem surveyDone_passes (ok : Bool) (h : Passes c s b u) (hf : Unasked s u) : Passes c s b (surveyDone ok u) :=
  surveyFrom_passes _ (executor_passes _ h hf) (hf.of_store (by simp))

theorem reportDone_passes {ok : Bool} (h : Passes (.surveyReportWriteEnd ok) s b u) (hf : Unasked s u) :
    Passes (.surveyReportWriteEnd ok) s b (reportDone u) :=
  finishExecutor_passes _ _ _ (h.shared _ ⟨ok, .inr rfl⟩ (writeShared_wf _ _)) (hf.of_store (by simp))

/-! ## The arbiter -/

theorem OpCalm.refl (o : Option ArrayOp) : OpCalm o o := .inl rfl

/-- A change of the Store Controller's power, timers and internal requests. -/
theorem StoreCalm.of_same {st st' : Store} (hb : st'.blocks = st.blocks) (ha : st'.array = st.array)
    (hx : st'.ex = st.ex) (he : st'.erase = st.erase) (ho : st'.op = st.op) : StoreCalm st st' :=
  ⟨hb, ha, .inl hx, by rw [he], .inl ho⟩

theorem refuseGrant_passes (result : ResultCode) (h : Passes c s b u)
    (hf : StoreAgrees s → u.store.erase = none ∧ ∀ o, u.store.op = some o → ¬ forExecutor o) :
    Passes c s b (refuseGrant result u) := by
  refine finishExecutor_passes _ _ _ (h.store _ ⟨rfl, rfl, .inr rfl, rfl, .refl _⟩) fun k => ?_
  obtain ⟨he, ho⟩ := hf k
  rintro (x | x | ⟨o, ho', hx⟩)
  · exact x rfl
  · exact x he
  · exact ho o ho' hx

theorem grantExecutor_passes (r : ExRequest) (h : Passes c s b u) (hx : u.store.ex = some r) (ho : u.store.op = none)
    (he : u.store.erase = none) : Passes c s b (grantExecutor r u) := by
  have idle : StoreAgrees s → u.store.erase = none ∧ ∀ o, u.store.op = some o → ¬ forExecutor o :=
    fun _ => ⟨he, by simp [ho]⟩
  unfold grantExecutor
  split
  · exact h.grant _ _ hx ho he (.read _)
  · exact h.grant _ _ hx ho he (.raw _ _)
  · exact h.grant _ _ hx ho he (.mark _)
  · next p d =>
    split
    · exact refuseGrant_passes _ h idle
    · next pass =>
      unfold programCheck at pass
      dsimp only at pass
      split at pass
      · cases pass
      · next writable =>
        split
        · next unknown => exact h.grant _ _ hx ho he (.survey _ _ unknown)
        · next known =>
          refine h.grant _ _ hx ho he (.program _ _ (by simpa using writable) ?_)
          split at pass
          · next e => exact absurd e known
          · cases pass
          · next m e =>
            split at pass
            · next eq => rw [e, eq]
            · cases pass
  · next n z =>
    split
    · exact refuseGrant_passes _ h idle
    · next pass =>
      split
      · next unknown =>
        simp only [Bool.and_eq_true, decide_eq_true_eq] at unknown
        exact h.grant _ _ hx ho he (.check _ _ unknown.1)
      · exact h.eraseStarts n z hx ho he pass

/-- Another client's page read begins. -/
theorem StoreCalm.launch_read {st : Store} (cl : ArrayClient) (p : Nat) (hc : cl ≠ .executor) :
    StoreCalm st (st.launch (.read cl p false)) :=
  ⟨rfl, rfl, .inl rfl, rfl, .inr (.inr (.inl ⟨cl, p, hc, rfl⟩))⟩

theorem grantTurn_passes (p : Nat) (h : Passes c s b u) : Passes c s b (grantTurn p u) := by
  have t := h.store (fun st => { st with ta := none }.launch (.read .turnAhead p false))
    ⟨rfl, rfl, .inl rfl, rfl, .inr (.inr (.inl ⟨_, p, by decide, rfl⟩))⟩
  unfold grantTurn
  dsimp only
  split
  · exact (t.store _ (.of_same rfl rfl rfl rfl rfl)).turn _ (.of_same rfl rfl rfl rfl rfl)
  · exact t

theorem grantWave_passes (p : Nat) (h : Passes c s b u) : Passes c s b (grantWave p u) :=
  h.store _ ⟨rfl, rfl, .inl rfl, rfl, .inr (.inr (.inl ⟨.waveform, p, by decide, rfl⟩))⟩

theorem chooseOperation_passes (h : Passes c s b u) (ho : u.store.op = none) (he : u.store.erase = none) :
    Passes c s b (chooseOperation u) := by
  unfold chooseOperation
  split
  · exact grantTurn_passes _ h
  · exact grantWave_passes _ h
  · next hx => exact grantExecutor_passes _ h hx ho he
  · exact h.store _ (.of_same rfl rfl rfl rfl rfl)

theorem chooseDuringErase_passes (e : Erase) (h : Passes c s b u) (he : u.store.erase = some e) :
    Passes c s b (chooseDuringErase e u) := by
  have phase (x : ErasePhase) : Passes c s b (u.modStore fun st => { st with erase := some { e with phase := x } }) :=
    h.store _ ⟨rfl, rfl, .inl rfl, by simp [he], .refl _⟩
  unfold chooseDuringErase
  split
  · exact h
  · split
    · exact phase _
    · exact h
  · exact h
  · exact grantTurn_passes _ h
  · exact grantWave_passes _ h
  · exact phase _

theorem serveOnce_passes (h : Passes c s b u) : Passes c s b (serveOnce u) := by
  unfold serveOnce
  split
  · exact h
  · split
    · exact withdrawDrain_passes (h.store _ (.of_same rfl rfl rfl rfl rfl))
    · exact h
  · split
    · exact h
    · next free =>
      split
      · next he => exact chooseDuringErase_passes _ h he
      · next he => exact chooseOperation_passes h (by simpa using free) he

theorem serveStore_passes (h : Passes c s b u) : Passes c s b (serveStore u) := serveOnce_passes (serveOnce_passes h)

theorem powerOffArray_passes (h : Passes c s b u) : Passes c s b (powerOffArray u) :=
  h.store _ (.of_same rfl rfl rfl rfl rfl)

theorem endOp_passes (h : Passes c s b u) : Passes c s b (endOp u) :=
  h.store _ ⟨rfl, rfl, .inl rfl, rfl, .inr (.inl rfl)⟩

/-! ## The ends of array operations -/

/-- The operation in flight was the executor's: once it has ended nothing of the executor's is outstanding. -/
theorem unasked_endOp {o : ArrayOp} (ho : s.store.op = some o) (hx : forExecutor o) : Unasked s (endOp s) := by
  intro k
  obtain ⟨ex, er⟩ := k.flight o ho hx
  rintro (x | x | ⟨o', ho', -⟩)
  · exact x ex
  · exact x er
  · cases ho'

theorem deliverRead_passes (cl : ArrayClient) (data : Option (List Byte)) (erased : Bool) (h : Passes c s b u)
    (hf : cl = .executor → Unasked s u) : Passes c s b (deliverRead cl data erased u) := by
  unfold deliverRead
  split
  · exact wmRequest_passes _ (h.turn _ (.of_same rfl rfl rfl rfl rfl))
  · exact (h.turn _ (.of_same rfl rfl rfl rfl rfl)).store _ (.of_same rfl rfl rfl rfl rfl)
  · exact wmRequest_passes _ (h.wave _)
  · exact endLoad_passes _ h
  · exact readPageDone_passes _ _ h (hf rfl)
  · exact finishExecutor_passes _ _ _ h (hf rfl)

theorem finishRead_passes (cl : ArrayClient) (p : Nat) (z : Bool) (data : Option (List Byte)) (erased : Bool)
    (ho : s.store.op = some (.read cl p z)) : Passes c s false (finishRead cl data erased s) :=
  serveStore_passes (deliverRead_passes _ _ _ (endOp_passes .start) fun e => unasked_endOp ho e)

theorem readMismatch_passes (cl : ArrayClient) (p : Nat) (z : Bool) (ho : s.store.op = some (.read cl p z)) :
    Passes c s false (readMismatch cl p z s) := by
  unfold readMismatch
  split
  · exact finishRead_passes _ _ _ _ _ ho
  · exact Passes.start.store _ ⟨rfl, rfl, .inl rfl, rfl, .inr (.inr (.inr (.inl ⟨cl, p, z, ho, rfl⟩)))⟩

theorem markCheckPassed_passes {p : Nat} {z : Bool} (ho : s.store.op = some (.raw p .erase z)) :
    Passes c s false (markCheckPassed (endOp s)) := by
  have free := unasked_endOp (s := s) ho trivial
  unfold markCheckPassed
  split
  · exact startBlock_passes _ (endOp_passes .start) free
  · next once =>
    refine post_passes _ (endOp_passes .start) free fun k => ?_
    obtain ⟨phase, unnamed⟩ := k.check p z ho
    refine .of_phase (.inr (.inr (.inl phase))) (fun n x e => ?_) fun _ _ e => nomatch e
    cases e
    exact ⟨phase, rfl, unnamed (by simpa using once)⟩

/-- What a raw read is made for, as far as the executor's phase shows it: a program's survey has its page waiting. -/
theorem surveySettled_passes (why : RawWhy) (h : Passes c s b u) (hf : Unasked s u)
    (hp : ∀ p d, why = .program p d → StoreAgrees s → Postable u (.program p d)) :
    Passes c s b (surveySettled why u) := by
  unfold surveySettled
  split
  · exact ingestKnown_passes h hf
  · exact surveyDone_passes _ h hf
  · exact post_passes _ h hf (hp _ _ rfl)
  · refine refuseGrant_passes _ h fun k => ?_
    have := hf k
    simp only [Store.outstanding, not_or, not_exists, not_and, Classical.not_not] at this
    exact ⟨this.2.1, this.2.2⟩

theorem surveyFailed_passes (why : RawWhy) (h : Passes c s b u) (hf : Unasked s u) :
    Passes c s b (surveyFailed why u) := by
  unfold surveyFailed
  split
  · exact finishExecutor_passes _ _ _ h hf
  · exact surveyDone_passes _ h hf
  · exact finishExecutor_passes _ _ _ h hf
  · exact finishExecutor_passes _ _ _ h hf

/-- While a raw read is in flight the executor is in a phase that waits for it. -/
theorem StoreAgrees.flight_phase (h : StoreAgrees s) {o : ArrayOp} (ho : s.store.op = some o) (hx : forExecutor o) :
    s.executor.phase ≠ .idle ∧ s.executor.phase ≠ .verifying ∧ s.executor.phase ≠ .reporting
      ∧ (s.executor.phase = .programming → s.executor.buf ≠ [])
      ∧ (s.executor.phase = .reading → s.executor.buf = []) :=
  h.phase (.inr (.inr ⟨o, ho, hx⟩))

theorem surveyPage_passes {p : Nat} {why : RawWhy} {z : Bool} (page : RawPage)
    (ho : s.store.op = some (.raw p why z)) :
    Passes (.rawReadEnd page) s false (surveyPage p why page (endOp s)) := by
  have free := unasked_endOp (s := s) ho trivial
  have settled (f : Fill) : Passes (.rawReadEnd page) s false (settleFill (p / 64) f why (endOp s)) := by
    refine surveySettled_passes _ (.surveyed page p why z f rfl ho) (free.of_requests (by simp) (by simp) (by simp))
      fun q d e k => ⟨?_, fun _ _ e => (nomatch e), fun _ _ e => nomatch e⟩
    exact k.flight_phase ho trivial
  unfold surveyPage
  split
  · exact settled _
  · split
    · next e =>
      subst e
      exact markCheckPassed_passes ho
    · split
      · exact settled _
      · split
        · exact settled _
        · next more _ last =>
          refine post_passes _ (endOp_passes .start) free fun k => ⟨k.flight_phase ho trivial,
            fun _ _ e => (nomatch e), fun q w e => ?_⟩
          cases e
          have same : (p + 1) / 64 = p / 64 := by omega
          rw [same]
          exact k.raw p why z ho

theorem programSucceeded_passes {p : Nat} {d : List Byte} (ho : s.store.op = some (.program p d)) :
    Passes (.pageProgramEnd true) s false (programSucceeded p d (endOp s)) :=
  ingestPageDone_passes (.programmed p d rfl ho) ((unasked_endOp ho trivial).of_requests (by simp) (by simp) (by simp))

theorem programFailed_passes {p : Nat} {d : List Byte} (hc : ∃ ok, c = .pageProgramEnd ok ∨ c = .busyLimitExpiry)
    (ho : s.store.op = some (.program p d)) : Passes c s false (programFailed p (endOp s)) :=
  beginRetiring_passes _ (.programFailed p d hc ho)
    ((unasked_endOp ho trivial).of_requests (by simp) (by simp) (by simp))

theorem unasked_erase_ended {e : Erase} {st : Store} (h : runningErase s.store = some e)
    (hx : st.ex = s.store.ex) (he : st.erase = none) (ho : st.op = s.store.op) :
    StoreAgrees s → ¬ st.outstanding := by
  unfold runningErase at h
  obtain ⟨some_erase, running⟩ := Option.filter_eq_some_iff.mp h
  simp only [Bool.and_eq_true, Option.isNone_iff_eq_none] at running
  intro k
  rintro (x | x | ⟨o, x, -⟩)
  · exact x (hx.trans (k.erase (by simp [some_erase])))
  · exact x he
  · rw [ho, running.1] at x; cases x

theorem eraseSucceeded_passes {e : Erase} (h : runningErase s.store = some e) :
    Passes (.eraseEnd true) s false (eraseSucceeded e.block s) :=
  blockErased_passes (.erased e rfl h) (unasked_erase_ended h (by simp) rfl (by simp))

theorem eraseFailed_passes {e : Erase} (hc : ∃ ok, c = .eraseEnd ok ∨ c = .busyLimitExpiry)
    (h : runningErase s.store = some e) : Passes c s false (eraseFailed e.block s) :=
  beginRetiring_passes _ (.eraseFailed e hc h) (unasked_erase_ended h rfl rfl rfl)

theorem markEnded_passes {n : Nat} (x : Bool) (hc : ∃ ok, c = .markWriteEnd ok ∨ c = .busyLimitExpiry)
    (ho : s.store.op = some (.mark n)) : Passes c s false (markEnded n x (endOp s)) :=
  retiringDone_passes (.marked n x hc ho) ((unasked_endOp ho trivial).of_requests (by simp) (by simp) (by simp))

end Sys2Proof.Machine
end

section
/-!
PROOFS. The Turn-Ahead Unit, the end of a step's effects, the supply class, the Sense Front End and the Link Engine's
commands: each passes through the rules of `Passes` alone.
-/

namespace Sys2Proof.Machine

open Sys2Proof

variable {c : Instr} {s u : State} {b : Bool}

/-! ## The head press -/

theorem discardPresses_passes (k : Cause) (r : WakeReason) (h : Passes c s false u) (hr : r ≠ .engineReset)
    (hd : r.reachesDeep = false) : Passes c s false (discardPresses k r u) :=
  wakeEvent_soft_passes r (setCause_passes k (h.turn (fun t => { t with queue := [] }) (.empty_queue _))) hr hd

theorem startTurn_passes (key : TurnKey) (target : Nat) (e : TurnEntry) (f : Frame) (h : Passes c s b u)
    (press : u.turn.queue ≠ []) : Passes c s b (startTurn key target e f u) := by
  refine serveStore_passes ((h.turn _ ?_).store _ (.of_same rfl rfl rfl rfl rfl))
  exact ⟨fun _ e => absurd e press, by simp, by simp, fun n => by simp [Turn.names], by simp,
    fun l hl _ => .inl (by simpa using hl)⟩

theorem considerHead_passes (h : Passes c s false u) : Passes c s false (considerHead u) := by
  unfold considerHead
  dsimp only
  split
  · split
    · exact h
    · next hq =>
      split
      · exact discardPresses_passes _ _ h (by decide) rfl
      · split
        · exact discardPresses_passes _ _ h (by decide) rfl
        · split
          · exact discardPresses_passes _ _ h (by decide) rfl
          · split
            · exact h
            · exact startTurn_passes _ _ _ _ h (by simp [hq])
  · exact h

theorem settleAll_passes (h : Passes c s false u) : Passes c s false (settleAll u) :=
  considerHead_passes (settlePanel_passes (finishDescent_passes h))

theorem withdrawDrain_modTurn (f : Turn → Turn) (x : State) :
    withdrawDrain (x.modTurn f) = (withdrawDrain x).modTurn f := by
  by_cases h : x.power.drainAsked = true
  · simp only [withdrawDrain, State.modTurn_power, h, if_true]
    rfl
  · simp only [withdrawDrain, State.modTurn_power, h]
    rfl

theorem withdrawDrain_drainAsked (x : State) : (withdrawDrain x).power.drainAsked = false := by
  unfold withdrawDrain
  split
  · rfl
  · next h => simpa using h

theorem withdrawDrain_power (x : State) : (withdrawDrain x).power = { x.power with drainAsked := false } := by
  unfold withdrawDrain
  split
  · rfl
  · next h =>
    have : x.power.drainAsked = false := by simpa using h
    rw [← this]

theorem joinQueue_passes (k : TurnKey) (h : Passes c s false u) : Passes c s false (joinQueue k u) := by
  unfold joinQueue
  split
  · exact h
  · next room =>
    simp only [Bool.or_eq_true, not_or, Config.keyQueueCapacity] at room
    have short : (withdrawDrain u).turn.queue.length < 4 := by
      simpa using Nat.lt_of_not_le (of_decide_eq_false (Bool.eq_false_iff.mpr room.2))
    have joined : Passes c s false ((withdrawDrain u).modTurn fun x => { x with queue := x.queue ++ [k] }) :=
      (withdrawDrain_passes h).joinKey k short (by simpa [withdrawDrain_power] using room.1)
        (withdrawDrain_drainAsked u)
    rw [withdrawDrain_modTurn]
    dsimp only
    split
    · next quiet => exact joined.leaveSelfRefresh.dozeTurning (by simpa using quiet)
    · exact joined

/-! ## A turn's end -/

@[simp] theorem markBad_length (n : Nat) (l : List TurnEntry) : (markBad n l).length = l.length := by
  induction l generalizing n with
  | nil => cases n <;> rfl
  | cons e l ih => cases n <;> simp [markBad, ih]

/-- A Bad mark changes no block that an entry touches. -/
@[simp] theorem markBad_touches (n m : Nat) (l : List TurnEntry) :
    (markBad n l).any (·.touches m) = l.any (·.touches m) := by
  induction l generalizing n with
  | nil => cases n <;> rfl
  | cons e l ih =>
    cases n with
    | zero => rfl
    | succ n => simp only [markBad, List.any_cons, ih]

theorem failTurn_passes (h : Passes c s false u) : Passes c s false (failTurn u) := by
  refine discardPresses_passes _ _ ((h.turn _ ?_).store _ (.of_same rfl rfl rfl rfl rfl)) (by decide) rfl
  exact ⟨fun _ _ => rfl, by simp, by simp, fun n => by simp [Turn.names], by simp,
    fun l hl _ => .inl (by simpa using hl)⟩

theorem writeDecoded_passes (h : Passes c s b u) : Passes c s b (writeDecoded u) :=
  h.memory _ ⟨by simp, by simp, by simp, by simp⟩

theorem beginOffer_passes (h : Passes c s b u) (busy : u.turn.state ≠ .idle) : Passes c s b (beginOffer u) :=
  h.turn _ ⟨fun e => absurd e busy, Nat.le_refl _, Nat.le_refl _, fun _ => id, rfl, fun _ hl _ => .inl hl⟩

/-! ## TURN_LOAD -/

/-- What the replacement of the list makes of the unit (07 R132). -/
def Turn.relisted (bs : List Byte) (entries : List TurnEntry) (t : Turn) : Turn :=
  { t.withdrawOffer with
      entries := entries, cursor := byteAt bs 37, armed := byteAt bs 38 == 1, interval := byteAt bs 39, counter := 0,
      owed := false, queue := [] }

theorem replaceList_eq (bs : List Byte) (entries : List TurnEntry) (x : State) :
    replaceList bs entries x = serveStore (recheckErase (x.modTurn (Turn.relisted bs entries))) := rfl

theorem Turn.relisted_keeps (bs : List Byte) (entries : List TurnEntry) (t : Turn) :
    (t.state = .idle → (t.relisted bs entries).state = .idle) ∧ (t.relisted bs entries).load = t.load := by
  unfold Turn.relisted Turn.withdrawOffer
  split <;> simp

theorem turnEntries_length {a : List Byte} {i n : Nat} {l : List TurnEntry} (h : turnEntries a i n = .inl l) :
    l.length = n := by
  induction n generalizing i l with
  | zero => unfold turnEntries at h; cases h; rfl
  | succ n ih =>
    unfold turnEntries at h
    split at h
    · cases h
    · split at h
      · next rest =>
        cases h
        simp [ih rest]
      · cases h

theorem turnBodyOk_bounds {bs : List Byte} (h : turnBodyOk bs = true) :
    byteAt bs 36 ≤ 24 ∧ byteAt bs 39 ≤ 15 := by
  simp only [turnBodyOk, Bool.and_eq_true, decide_eq_true_eq] at h
  exact ⟨h.1.1.1, h.1.1.2⟩

theorem replaceList_passes {bs : List Byte} {entries : List TurnEntry} (h : Passes c s b u)
    (fits : WithinCapacity s → entries.length ≤ 24 ∧ byteAt bs 39 ≤ 15) (hs : u.store = s.store) :
    Passes c s b (replaceList bs entries u) := by
  obtain ⟨idle, load⟩ := u.turn.relisted_keeps bs entries
  rw [replaceList_eq]
  refine serveStore_passes ?_
  unfold recheckErase
  simp only [State.modTurn_store]
  split
  · next n z hx =>
    have agree (k : StoreAgrees s) : s.store.erase = none ∧ ∀ o, s.store.op = some o → ¬ forExecutor o := by
      rw [hs] at hx
      refine ⟨Decidable.byContradiction fun e => ?_, fun o ho f => ?_⟩
      · rw [k.erase e] at hx; cases hx
      · rw [(k.flight o ho f).1] at hx; cases hx
    have withdrawn := h.store (fun st => { st with ex := none }) ⟨rfl, rfl, .inr rfl, rfl, .refl _⟩
    have relisted := withdrawn.relist (Turn.relisted bs entries) fits rfl idle load (fun _ _ e => nomatch e)
      fun k p y ho => ((agree k).2 (.raw p .erase y) (by rw [← hs]; exact ho) trivial).elim
    refine startBlock_passes n relisted fun k => ?_
    rintro (x | x | ⟨o, ho, f⟩)
    · exact x rfl
    · exact x (by simpa [hs] using (agree k).1)
    · exact (agree k).2 o (hs ▸ ho) f
  · next raw other =>
    have marked := h.executor (fun x => { x with recheck := true })
      fun _ => .inr ⟨rfl, rfl, rfl, fun e => nomatch e⟩
    exact marked.relist (Turn.relisted bs entries) fits rfl idle load
      (fun n z e => other n z e) fun _ _ _ _ => rfl
  · next other noCheck =>
    exact h.relist (Turn.relisted bs entries) fits rfl idle load (fun n z e => other n z e)
      fun _ p z ho => absurd ho (noCheck p z)

theorem endTurnLoad_passes (result : ResultCode) (progress : Nat) (h : Passes c s false u) :
    Passes c s false (endTurnLoad result progress u) := by
  unfold endTurnLoad
  split
  · exact h
  · refine considerHead_passes (completeRecord_passes _ _ _ _ _ (h.turn _ ?_))
    exact ⟨fun e _ => e, Nat.le_refl _, Nat.le_refl _, fun _ => id, rfl, fun _ hl _ => nomatch hl⟩

theorem takeEntries_passes (l : TurnLoad) (a : List Byte) (h : Passes c s false u)
    (ok : WithinCapacity s → turnBodyOk l.record.bytes = true) (hs : u.store = s.store) :
    Passes c s false (takeEntries l a u) := by
  unfold takeEntries
  dsimp only
  split
  · next entries he =>
    refine endTurnLoad_passes _ _ (replaceList_passes h (fun k => ?_) hs)
    obtain ⟨count, interval⟩ := turnBodyOk_bounds (ok k)
    exact ⟨Nat.le_trans (Nat.le_of_eq (turnEntries_length he)) count, interval⟩
  · exact endTurnLoad_passes _ _ h

/-! ## The supply class -/

theorem changeClass_passes (cl : SupplyClass) (h : Passes c s false u) (same : u.panel = s.panel)
    (seen : u.power.seen = true)
    (event : ∃ raw w, c = .conversionEnd raw ∧ s.sense.sweep = some w ∧ w.stage = .signal ∧ w.nextChannel = none) :
    Passes c s false (changeClass cl u) := by
  have t := setCause_passes supplyCause (h.cls cl same seen event)
  unfold changeClass
  dsimp only
  refine settlePanel_passes ?_
  split
  · next e =>
    have same : setCause supplyCause (u.withClass cl) = setCause supplyCause
        ((u.modPower fun p => { p with cls := cl }).modLight (Light.takeClass cl)) := by
      simp only [State.withClass, e, if_true]
    rw [← same]
    exact exhaustedDescent_passes t (by simpa [State.withClass] using e)
  · next e =>
    have same : setCause supplyCause (u.withClass cl) = (setCause supplyCause
        ((u.modPower fun p => { p with cls := cl }).modLight (Light.takeClass cl))).modPower
          fun p => { p with graceTimer := none } := by
      simp only [State.withClass, e, if_false]
      rfl
    rw [← same]
    exact t

theorem batteryEvent_passes (h : Passes c s false u) (same : u.panel = s.panel)
    (event : ∃ raw w, c = .conversionEnd raw ∧ s.sense.sweep = some w ∧ w.stage = .signal ∧ w.nextChannel = none) :
    Passes c s false (batteryEvent u) := by
  have t := h.power (fun p => { p with seen := true })
    { PowerCalm.refl u.power with seen := fun _ => rfl, settings := fun k => k.congr rfl }
  unfold batteryEvent
  dsimp only
  split
  · exact t
  · exact changeClass_passes _ t same rfl event

theorem railFault_passes (h : Passes c s false u) : Passes c s false (railFault u) := by
  have flushed (x : State) (hx : Passes c s false x) :
      Passes c s false (tryOffer (if x.link.state = .detaching then flushRecords x else x)) := by
    refine tryOffer_passes ?_
    split
    · exact flushRecords_passes hx
    · exact hx
  have t := haltEngine_passes h
  cases hp : (haltEngine u).power.state with
  | dozeEntry =>
    simpa only [railFault, hp] using flushed _ (wakeEvent_soft_passes _ (flushHalted_passes t) (by decide) rfl)
  | dozeTurning => simpa only [railFault, hp] using flushed _ (wakeEvent_soft_passes _ t (by decide) rfl)
  | deepEntry => simpa only [railFault, hp] using flushed _ (flushHalted_passes t)
  | run => simpa only [railFault, hp] using flushed _ t
  | waking => simpa only [railFault, hp] using flushed _ t
  | dozeQuiet => simpa only [railFault, hp] using flushed _ t
  | deep => simpa only [railFault, hp] using flushed _ t

/-! ## CONTROL commands -/

theorem SameTargets.of_store (h : u.store = s.store) : SameTargets s u :=
  ⟨.inl (by rw [h]), .inl (by rw [h]), by rw [h]⟩

theorem takeAttach_passes (h : Passes c s false u) (free : u.link.attaching = false) (hs : u.store = s.store)
    (resets : c.wellFormed = true → ResetsMain c) : Passes c s false (takeAttach u) := by
  unfold takeAttach
  split
  · exact h
  · next apart =>
    rw [not_or] at apart
    split
    · exact h
    · split
      · exact (h.regs _ ⟨fun _ => id, id⟩).startAttach (.inl free)
      · exact wakeEvent_passes _ (h.attachToWait free apart.1 apart.2) fun _ => ⟨.of_store (by simpa using hs), resets⟩

theorem takeDetach_passes (h : Passes c s b u) : Passes c s b (takeDetach u) := by
  have t := h.regs (fun r => { r with attachWaits := false }) ⟨fun _ => id, fun e => nomatch e⟩
  unfold takeDetach
  dsimp only
  split
  · next e => exact enterDetaching_passes t e
  · next e => exact t.faultCleared e
  · exact t
  · exact t

theorem takeEngineReset_passes (h : Passes c s false u) (hs : u.store = s.store)
    (resets : c.wellFormed = true → ResetsMain c) : Passes c s false (takeEngineReset u) := by
  unfold takeEngineReset
  split
  · next run => exact h.engineReset (.inl run) (.of_store hs) resets
  · exact wakeEvent_passes _ h fun _ => ⟨.of_store hs, resets⟩
  · exact wakeEvent_passes _ h fun _ => ⟨.of_store hs, resets⟩
  all_goals exact h

theorem takeCommand_passes (x : ControlCommand) (h : Passes c s false u) (free : u.link.attaching = false)
    (hs : u.store = s.store) (resets : x = .detach ∨ (c.wellFormed = true → ResetsMain c)) :
    Passes c s false (takeCommand x u) := by
  unfold takeCommand
  split
  · exact takeAttach_passes h free hs (resets.resolve_left (by decide))
  · exact takeDetach_passes h
  · exact takeEngineReset_passes h hs (resets.resolve_left (by decide))

theorem controlWrite_passes (x : ControlCommand) (h : Passes c s false u) (hs : u.store = s.store)
    (resets : x = .detach ∨ (c.wellFormed = true → ResetsMain c)) : Passes c s false (controlWrite x u) := by
  unfold controlWrite
  split
  · exact h.regs _ ⟨fun _ => id, id⟩
  · next free => exact takeCommand_passes x h (by simp_all) hs resets

theorem writeAnswered_passes (h : Passes c s b u) : Passes c s b (writeAnswered u) := h.regs _ ⟨fun _ => id, id⟩

theorem writeRefused_passes (h : Passes c s b u) : Passes c s b (writeRefused u) := h.regs _ ⟨fun _ => id, id⟩

theorem writeAnchor_passes (v : Word) (h : Passes c s b u) : Passes c s b (writeAnchor v u) := by
  unfold writeAnchor
  split
  · exact h.regs _ ⟨fun _ => id, id⟩
  · exact h

theorem writeCausemask_passes (v : Word) (h : Passes c s b u) : Passes c s b (writeCausemask v u) :=
  h.regs _ ⟨fun _ => id, id⟩

theorem nudgeLane_passes (i : LaneId) (h : Passes c s b u) (attached : u.link.state = .attached) :
    Passes c s b (nudgeLane i u) := by
  unfold nudgeLane
  split
  · next parked => exact h.askLink i _ attached parked
  · exact h.lane i _ ⟨rfl, rfl, Nat.le_refl _⟩
  · exact h.lane i _ ⟨rfl, rfl, Nat.le_refl _⟩
  · exact h
  · exact h

theorem nudgeIf_passes (mask : Word) (i : LaneId) (h : Passes c s b u) (attached : u.link.state = .attached) :
    Passes c s b (nudgeIf mask i u) := by
  unfold nudgeIf
  split
  · exact nudgeLane_passes i h attached
  · exact h

theorem writeNudge_passes (mask : Word) (h : Passes c s b u) : Passes c s b (writeNudge mask u) := by
  unfold writeNudge
  split
  · next attached =>
    exact nudgeIf_passes mask _ (nudgeIf_passes mask _ (nudgeIf_passes mask _ h attached) (by simpa using attached))
      (by simpa using attached)
  · exact h

theorem tickLane_passes (i : LaneId) (h : Passes c s b u) (attached : u.link.state = .attached) :
    Passes c s b (tickLane i u) := by
  unfold tickLane
  split
  · next parked => exact h.askLink i _ attached parked
  · exact h

end Sys2Proof.Machine
end

section
/-!
PROOFS. The meanings of the commands of the register window, the Link Engine, the Sense Front End, the Front Light and
the Power Controller: each answers a state that passes through the rules of `Passes`.
-/

namespace Sys2Proof.Machine

open Sys2Proof

variable {c : Instr} {s u : State} {b : Bool}

/-! ## What a meaning answers -/

/-- A command's answer: the state its meaning comes to, the port settled. -/
def Answers (c : Instr) (s : State) (r : Result) : Prop := ∃ u, r = commit s u ∧ Passes c s false u

theorem Passes.answers (h : Passes c s false u) : Answers c s (commit s u) := ⟨u, rfl, h⟩

theorem answers_same : Answers c s (commit s s) := Passes.start.answers

theorem onRecord_answers (k : Kind) (effect : RecordCopy → State → State)
    (h : ∀ r, canAccept k s = true → Passes c s false (acceptRecord k r s) →
      Passes c s false (effect r (acceptRecord k r s))) : Answers c s (onRecord k effect s) := by
  rcases onRecord_cases k effect s with ⟨-, e⟩ | ⟨r, ho, -, e⟩ | ⟨r, ho, hc, e⟩
  · exact e ▸ answers_same
  · exact e ▸ (Passes.start.hold k r ho).answers
  · exact e ▸ (h r hc (Passes.start.accept k r ho)).answers

theorem endAccess_popped {p : BusAccess → Bool} {t : State} {a : BusAccess} (h : endAccess p s = some (a, t)) :
    p a = true ∧ ∃ q, s.bus.queue = a :: q ∧ t = s.popped q := by
  obtain ⟨hp, hq, ht⟩ := endAccess_spec h
  exact ⟨hp, t.bus.queue, hq, ht⟩

theorem endTransfer_passes {p : BusAccess → Bool} {t : State} (h : endTransfer p s = some t) : Passes c s false t := by
  rw [(endTransfer_spec h).2]
  exact Passes.start.transferEnded fun l => l.filter fun a => !p a

/-! ## The Link Engine -/

@[simp] theorem attachSucceeds_state (bs : List Byte) (x : State) : (attachSucceeds bs x).link.state = .attached := by
  simp [attachSucceeds, latchAnchor]

theorem anchorRead_passes {addr : Word} {q : List BusAccess} (answer : BusRead)
    (h : s.bus.queue = .anchorRead addr :: q) : Passes c s false (anchorRead addr answer (s.popped q)) := by
  unfold anchorRead
  split
  · exact .anchorFailed addr q h
  · next bytes =>
    have passed : Passes c s false (attachSucceeds bytes (s.popped q)) := .anchorPassed addr bytes q h
    split
    · dsimp only
      split
      · exact passed
      · exact enterDetaching_passes passed (by simp)
    · exact .anchorFailed addr q h

theorem execAnchorBlockReadEnd_answers (a : BusRead) : Answers c s (execAnchorBlockReadEnd a s) := by
  unfold execAnchorBlockReadEnd
  split
  · next h =>
    obtain ⟨-, q, hq, rfl⟩ := endAccess_popped h
    exact (anchorRead_passes a hq).answers
  · exact answers_same

theorem execScanTick_answers : Answers c s (execScanTick s) := by
  unfold execScanTick
  split
  · next h =>
    have first := tickLane_passes (c := c) .display .start h.1
    have second := tickLane_passes .store first (by simpa using h.1)
    exact (tickLane_passes .control second (by simpa using h.1)).answers
  · exact answers_same

theorem execRecordReadEnd_answers (a : BusRead) : Answers c s (execRecordReadEnd a s) := by
  unfold execRecordReadEnd
  split
  · next i addr t h =>
    obtain ⟨-, q, hq, rfl⟩ := endAccess_popped h
    exact (Passes.recordRead i addr a q hq).answers
  · exact answers_same

theorem execLinkReadEnd_answers (v : Word) : Answers c s (execLinkReadEnd v s) := by
  unfold execLinkReadEnd
  split
  · next i addr why t h =>
    obtain ⟨-, q, hq, rfl⟩ := endAccess_popped h
    exact (Passes.linkRead i addr why v q hq).answers
  · exact answers_same

theorem execRecordHeaderWriteEnd_answers (e : Bool) :
    Answers (.recordHeaderWriteEnd e) s (execRecordHeaderWriteEnd e s) := by
  unfold execRecordHeaderWriteEnd
  split
  · next a t h =>
    obtain ⟨ha, q, hq, rfl⟩ := endAccess_popped h
    exact (Passes.headerWritten a e q hq ha rfl).answers
  · exact answers_same

theorem execDetachFinalPage_answers (e : Bool) : Answers (.detachFinalPage e) s (execDetachFinalPage e s) := by
  unfold execDetachFinalPage
  split
  · next a t h =>
    obtain ⟨ha, q, hq, rfl⟩ := endAccess_popped h
    obtain rfl : a = .finalPage := by simpa using ha
    exact (Passes.finalWritten e q hq rfl).answers
  · exact answers_same

theorem execStatusPageWriteEnd_answers (e : Bool) :
    Answers (.statusPageWriteEnd e) s (execStatusPageWriteEnd e s) := by
  unfold execStatusPageWriteEnd
  split
  · next a t h =>
    obtain ⟨ha, q, hq, rfl⟩ := endAccess_popped h
    obtain rfl : a = .statusPage := by simpa using ha
    exact (Passes.pageWritten e q hq rfl).answers
  · exact answers_same

/-! ## The Sense Front End -/

theorem clampInt_bounds {lo hi : Int} (i : Int) (h : lo ≤ hi) : lo ≤ clampInt lo hi i ∧ clampInt lo hi i ≤ hi := by
  unfold clampInt
  split
  · omega
  · split <;> omega

theorem ascending_iff {α : Type} (l : List (Nat × α)) : ascending l = true ↔ l.Pairwise fun p q => p.1 < q.1 := by
  induction l using ascending.induct with
  | case1 => simp [ascending]
  | case2 => simp [ascending]
  | case3 p q l ih =>
    simp only [ascending, Bool.and_eq_true, decide_eq_true_eq, ih, List.pairwise_cons, List.forall_mem_cons]
    refine ⟨fun ⟨h, k, l⟩ => ⟨⟨h, fun x hx => Nat.lt_trans h (k x hx)⟩, k, l⟩, fun ⟨⟨h, _⟩, k⟩ => ⟨h, k⟩⟩

theorem Channel.nextTrim_bounds {n : Channel} (h : n.InRange) (z : Nat) : -256 ≤ n.nextTrim z ∧ n.nextTrim z ≤ 255 := by
  unfold Channel.nextTrim
  split
  · exact ⟨h.trimLow, h.trimHigh⟩
  · exact clampInt_bounds _ (by decide)

theorem Channel.InRange.sample {n : Channel} (h : n.InRange) (z r : Nat) : (n.sample z r).InRange := by
  obtain ⟨low, high⟩ := Channel.nextTrim_bounds h z
  refine ⟨low, high, h.gainLow, h.gainHigh, h.k, ?_⟩
  cases seed : n.seed with
  | true => rw [Channel.sample_filtered_of_seed z r seed]; exact scaleSample_le _ _
  | false => rw [Channel.sample_filtered_of_not_seed z r seed]; exact filterStep_le _ h.filtered (scaleSample_le _ _)

theorem Sense.InRange.take {n : Sense} (h : n.InRange) (ch : ChannelId) (z r : Nat) : (n.take ch z r).InRange := by
  obtain ⟨h1, h2, h3, h4, h5, h6, h7⟩ := h
  cases ch with
  | batt => exact ⟨h1, h2, h3, h4, h5.sample z r, h6, h7⟩
  | amb => exact ⟨h1, h2, h3, h4, h5, h6, h7.sample z r⟩
  | therm =>
    simp only [Sense.take, Sense.takeTherm]
    split
    · exact ⟨h1, h2, h3, h4, h5, h6, h7⟩
    · exact ⟨h1, h2, h3, h4, h5, h6.sample z r, h7⟩

theorem Sense.InRange.startSweep {n : Sense} (h : n.InRange) (p : PowerState) : (n.startSweep p).InRange :=
  ⟨h.1, h.2, h.3, h.4, h.5, h.6, h.7⟩

theorem Sense.InRange.startOwed {n : Sense} (h : n.InRange) (p : PowerState) : (n.startOwed p).InRange := by
  unfold Sense.startOwed
  split
  · exact h.startSweep p
  · exact h

theorem Sense.InRange.expire {n : Sense} (h : n.InRange) (p : PowerState) : (n.expire p).InRange := by
  unfold Sense.expire
  split
  · exact ⟨h.1, h.2, h.3, h.4, h.5, h.6, h.7⟩
  · exact h.startSweep p

theorem Channel.InRange.applyGroup {n : Channel} (h : n.InRange) (bs : List Byte) (ch : ChannelId) :
    (n.applyGroup bs ch).InRange := by
  unfold Channel.applyGroup
  dsimp only
  split
  · have trim : -256 ≤ clampInt (-256) 255 (halfSigned bs (groupBase ch + 4))
        ∧ clampInt (-256) 255 (halfSigned bs (groupBase ch + 4)) ≤ 255 := clampInt_bounds _ (by decide)
    refine ⟨?_, ?_, Nat.le_max_left .., by dsimp only; omega, Nat.min_le_right .., h.filtered⟩
    · dsimp only; split
      · exact trim.1
      · exact h.trimLow
    · dsimp only; split
      · exact trim.2
      · exact h.trimHigh
  · exact h

theorem setupCurve_inRange {bs : List Byte} (asc : ascending (setupCurve bs) = true)
    (all : ((setupCurve bs).all fun p => p.1 ≤ 4095 && -400 ≤ p.2 && p.2 ≤ 1250) = true) :
    (setupCurve bs).length = 9 ∧ (setupCurve bs).Pairwise (fun p q => p.1 < q.1)
      ∧ ∀ p ∈ setupCurve bs, p.1 ≤ 4095 ∧ -400 ≤ p.2 ∧ p.2 ≤ 1250 := by
  refine ⟨by simp [setupCurve], (ascending_iff _).mp asc, fun p hp => ?_⟩
  simpa [and_assoc] using List.all_eq_true.mp all p hp

/-- What the checks of a SENSE_SETUP say of the groups present (02 R36). -/
theorem senseSetupOk_groups {bs : List Byte} (h : senseSetupOk bs = true) :
    (bitAt bs 32 3 = true → ascending (setupCurve bs) = true
      ∧ ((setupCurve bs).all fun p => p.1 ≤ 4095 && -400 ≤ p.2 && p.2 ≤ 1250) = true)
    ∧ (bitAt bs 32 4 = true → (50 ≤ half bs 96 ∧ half bs 96 ≤ 5000) ∧ (250 ≤ half bs 98 ∧ half bs 98 ≤ 10000)
      ∧ 10 ≤ half bs 100 ∧ half bs 100 ≤ 600) := by
  unfold senseSetupOk at h
  simp only [Bool.and_eq_true, Bool.or_eq_true, Bool.not_eq_true', decide_eq_true_eq] at h
  obtain ⟨⟨curve, periods⟩, -⟩ := h
  refine ⟨fun e => curve.resolve_left (by simp [e]), fun e => ?_⟩
  obtain ⟨⟨⟨⟨⟨h1, h2⟩, h3⟩, h4⟩, h5⟩, h6⟩ := periods.resolve_left (by simp [e])
  exact ⟨⟨h1, h2⟩, ⟨h3, h4⟩, h5, h6⟩

theorem Sense.InRange.present {n : Sense} (h : n.InRange) : n.present.InRange :=
  ⟨h.1, h.2, h.3, h.4, h.5, h.6, h.7⟩

theorem Sense.InRange.of_setup {n m : Sense} (h : n.InRange) {bs : List Byte} (ok : senseSetupOk bs = true)
    (run : m.runPeriod = if bitAt bs 32 4 then half bs 96 else n.runPeriod)
    (doze : m.dozePeriod = if bitAt bs 32 4 then half bs 98 else n.dozePeriod)
    (deep : m.deepPeriod = if bitAt bs 32 4 then half bs 100 else n.deepPeriod)
    (points : m.curve = if bitAt bs 32 3 then some (setupCurve bs) else n.curve)
    (batt : m.batt = n.batt.applyGroup bs .batt) (therm : m.therm = n.therm.applyGroup bs .therm)
    (amb : m.amb = n.amb.applyGroup bs .amb) : m.InRange := by
  obtain ⟨curve, periods⟩ := senseSetupOk_groups ok
  refine ⟨?_, ?_, ?_, ?_, batt ▸ h.batt.applyGroup bs _, therm ▸ h.therm.applyGroup bs _, amb ▸ h.amb.applyGroup bs _⟩
  · rw [run]; split
    · next e => exact (periods e).1
    · exact h.runPeriod
  · rw [doze]; split
    · next e => exact (periods e).2.1
    · exact h.dozePeriod
  · rw [deep]; split
    · next e => exact (periods e).2.2
    · exact h.deepPeriod
  · rw [points]; split
    · next e =>
      rintro l ⟨⟩
      exact setupCurve_inRange (curve e).1 (curve e).2
    · exact h.curve

theorem Sense.InRange.applySetup {n : Sense} (h : n.InRange) (p : PowerState) {bs : List Byte}
    (ok : senseSetupOk bs = true) : (n.applySetup p bs).InRange := by
  refine Sense.InRange.present (iteInduction (motive := Sense.InRange) (fun _ => ?_) fun _ => ?_) <;>
    exact h.of_setup ok rfl rfl rfl rfl rfl rfl rfl

theorem execPwmPeriodStart_answers : Answers c s (execPwmPeriodStart s) :=
  ((Passes.start.light Light.latch fun h => ⟨h.1, h.2, h.3, h.4, h.5, h.6, h.6⟩).sense _
    fun h => ⟨h.1, h.2, h.3, h.4, h.5, h.6, h.7⟩).answers

theorem execSweepTimerExpiry_answers : Answers c s (execSweepTimerExpiry s) := by
  unfold execSweepTimerExpiry
  split
  · exact (Passes.start.sense _ fun h => h.expire _).answers
  · exact answers_same

/-! ## The light -/

theorem warmShare_le {o w : Nat} (hw : w ≤ 100) : warmShare o w ≤ o := by
  have : o * w ≤ o * 100 := Nat.mul_le_mul_left o hw
  unfold warmShare
  omega

theorem dutyOf_add_le {a b : Nat} (h : a + b ≤ 1000) : dutyOf a + dutyOf b ≤ 3968 := by
  unfold dutyOf
  omega

theorem LightBounded.mix {l : Light} {cls : SupplyClass} (manual : l.manual ≤ 1000) (warmth : l.warmth ≤ 100)
    (level : l.level ≤ 1000) (target : l.target ≤ lightCeiling cls) (output : l.output ≤ lightCeiling cls)
    (latched : l.latchedWarm + l.latchedCool ≤ 3968) : LightBounded l.mix cls := by
  have share := warmShare_le (o := l.output) warmth
  have ceiling : lightCeiling cls ≤ 1000 := by cases cls <;> decide
  refine ⟨manual, warmth, level, target, output, ?_, latched⟩
  refine (?_ : dutyOf (warmShare l.output l.warmth) + dutyOf (l.output - warmShare l.output l.warmth) ≤ 3968)
  exact dutyOf_add_le (by omega)

theorem Light.formLevel_le {l : Light} (h : l.manual ≤ 1000) : l.formLevel ≤ 1000 := by
  unfold Light.formLevel
  split
  · exact Nat.zero_le _
  · exact h
  · split
    · exact Nat.zero_le _
    · split
      · exact Nat.zero_le _
      · next a _ _ =>
        have := clampInt_bounds (lo := 0) (hi := 1000)
          (curveAt a (l.curve.map fun p => (p.1, (p.2 : Int))) + l.bias) (by decide)
        omega

theorem LightBounded.relevel {l : Light} {cls : SupplyClass} (h : LightBounded l cls) : LightBounded (l.relevel cls) cls :=
  ⟨h.manual, h.warmth, Light.formLevel_le h.manual, Nat.min_le_right _ _, h.output, h.duties, h.latched⟩

theorem LightBounded.takeAmbient {l : Light} {cls : SupplyClass} (h : LightBounded l cls) (a : Nat) :
    LightBounded (l.takeAmbient cls a) cls := by
  have held : LightBounded { l with held := some a } cls := ⟨h.1, h.2, h.3, h.4, h.5, h.6, h.7⟩
  unfold Light.takeAmbient
  dsimp only
  split
  · exact held.relevel
  · exact held

theorem LightBounded.applyCurve {l : Light} {cls : SupplyClass} (h : LightBounded l cls) (ps : List (Nat × Nat)) :
    LightBounded (l.applyCurve cls ps) cls := by
  have held : LightBounded { l with curve := ps } cls := ⟨h.1, h.2, h.3, h.4, h.5, h.6, h.7⟩
  unfold Light.applyCurve
  dsimp only
  split
  · exact held.relevel
  · exact held

theorem LightBounded.applySet {l : Light} {cls : SupplyClass} (h : LightBounded l cls) (bs : List Byte) (m : LightMode) :
    LightBounded (l.applySet cls bs m) cls := by
  have manual : (if bitAt bs 32 1 then min (half bs 36) 1000 else l.manual) ≤ 1000 := by
    split
    · exact Nat.min_le_right _ _
    · exact h.manual
  have warmth : (if bitAt bs 32 3 then min (byteAt bs 34) 100 else l.warmth) ≤ 100 := by
    split
    · exact Nat.min_le_right _ _
    · exact h.warmth
  exact .mix manual warmth (Light.formLevel_le manual) (Nat.min_le_right _ _) h.output h.latched

theorem stepToward_le {goal step o m : Nat} (hg : goal ≤ m) (ho : o ≤ m) : stepToward goal step o ≤ m := by
  unfold stepToward
  split <;> split <;> omega

theorem LightBounded.tick {l : Light} {cls : SupplyClass} (h : LightBounded l cls) : LightBounded l.tick cls := by
  have goal : l.goal ≤ lightCeiling cls := by
    unfold Light.goal
    split
    · exact Nat.zero_le _
    · exact h.target
  exact .mix h.manual h.warmth h.level h.target (stepToward_le goal h.output) h.latched

theorem LightBounded.takeClass {l : Light} {old : SupplyClass} (h : LightBounded l old) (cls : SupplyClass) :
    LightBounded (l.takeClass cls) cls :=
  .mix h.manual h.warmth h.level (Nat.min_le_right _ _) (Nat.min_le_right _ _) h.latched

theorem execLightSet_answers : Answers c s (execLightSet s) := by
  refine onRecord_answers _ _ fun r _ h => ?_
  split
  · exact completeRecord_passes _ _ _ _ _ h
  · exact completeRecord_passes _ _ _ _ _ (h.light _ fun k => k.applySet _ _)

theorem execLightCurve_answers : Answers c s (execLightCurve s) := by
  refine onRecord_answers _ _ fun r _ h => ?_
  split
  · exact completeRecord_passes _ _ _ _ _ (h.light _ fun k => k.applyCurve _)
  · exact completeRecord_passes _ _ _ _ _ h

theorem execRampTick_answers : Answers c s (execRampTick s) := (Passes.start.light _ fun k => k.tick).answers

/-! ## Sweeps -/

theorem sweepEvents_passes (full : Bool) (h : Passes c s false u) (same : u.panel = s.panel)
    (event : ∃ raw w, c = .conversionEnd raw ∧ s.sense.sweep = some w ∧ w.stage = .signal ∧ w.nextChannel = none) :
    Passes c s false (sweepEvents full u) := by
  have ranged : Passes c s false (if full && u.power.vddMain then rangeEvent u else u) := by
    split
    · exact rangeEvent_passes h
    · exact h
  have unmoved : (if full && u.power.vddMain then rangeEvent u else u).panel = s.panel := by
    split <;> simpa using same
  have classified := batteryEvent_passes ranged unmoved event
  unfold sweepEvents
  dsimp only
  generalize batteryEvent _ = v at classified ⊢
  have considered : Passes c s false (if v.power.cls = u.power.cls then v else considerHead v) := by
    split
    · exact classified
    · exact considerHead_passes classified
  split
  · exact considered.light _ fun k => k.takeAmbient _
  · exact considered

theorem endSweep_passes (full : Bool) (h : Passes c s false u) (same : u.panel = s.panel)
    (event : ∃ raw w, c = .conversionEnd raw ∧ s.sense.sweep = some w ∧ w.stage = .signal ∧ w.nextChannel = none) :
    Passes c s false (endSweep full u) := by
  have presented := h.sense (fun n => { n with sweep := none }.present)
    fun k => Sense.InRange.present (n := { u.sense with sweep := none }) ⟨k.1, k.2, k.3, k.4, k.5, k.6, k.7⟩
  exact (requestPage_passes (sweepEvents_passes full presented same event)).sense _ fun k => k.startOwed _

theorem execConversionEnd_answers (raw : BitVec 12) : Answers (.conversionEnd raw) s (execConversionEnd raw s) := by
  unfold execConversionEnd
  split
  · exact answers_same
  · next w sweep =>
    split
    · exact (Passes.start.sense _ fun k => ⟨k.1, k.2, k.3, k.4, k.5, k.6, k.7⟩).answers
    · exact answers_same
    · next signal =>
      have taken : Passes (.conversionEnd raw) s false (s.modSense fun n => n.take w.chan w.zero raw.toNat) :=
        Passes.start.sense _ fun k => k.take _ _ _
      unfold signalTaken
      dsimp only
      split
      · exact (taken.sense _ fun k => ⟨k.1, k.2, k.3, k.4, k.5, k.6, k.7⟩).answers
      · next last => exact (endSweep_passes _ taken rfl ⟨raw, w, rfl, sweep, signal, last⟩).answers

theorem execSenseSetup_answers : Answers c s (execSenseSetup s) :=
  onRecord_answers _ _ fun _ _ h => h.sense _ fun k => ⟨k.1, k.2, k.3, k.4, k.5, k.6, k.7⟩

theorem applySetup_passes (r : RecordCopy) : Passes c s false (applySetup r s) := by
  have taken : Passes c s false (s.modSense fun n => { n with setup := none }) :=
    Passes.start.sense _ fun k => ⟨k.1, k.2, k.3, k.4, k.5, k.6, k.7⟩
  unfold applySetup
  dsimp only
  split
  · next ok => exact completeRecord_passes _ _ _ _ _ (taken.sense _ fun k => k.applySetup _ ok)
  · exact completeRecord_passes _ _ _ _ _ taken

theorem execSenseSetupApply_answers : Answers c s (execSenseSetupApply s) := by
  unfold execSenseSetupApply
  split
  · exact answers_same
  · split
    · exact answers_same
    · exact ((applySetup_passes _).sense _ fun k => k.startOwed _).answers

/-! ## POWER_SETUP and POWER_SLEEP -/

/-- What the checks of a POWER_SETUP say of the groups present (03 R44). -/
theorem powerSetupOk_groups {bs : List Byte} (h : powerSetupOk bs = true) :
    (bitAt bs 32 0 = true → thresholdsOk bs = true) ∧ (bitAt bs 32 1 = true → timesOk bs = true) := by
  simp only [powerSetupOk, Bool.and_eq_true, Bool.or_eq_true, Bool.not_eq_true'] at h
  exact ⟨fun e => h.1.1.resolve_left (by simp [e]), fun e => h.1.2.resolve_left (by simp [e])⟩

theorem Power.InRange.thresholdsSet {p : Power} (h : p.InRange) {bs : List Byte} (ok : thresholdsOk bs = true) :
    Power.InRange
      { p with
          eReduced := half bs 34, xReduced := half bs 36, eCritical := half bs 38, xCritical := half bs 40,
          eExhausted := half bs 42, xExhausted := half bs 44 } := by
  simp only [thresholdsOk, thresholdOk, Bool.and_eq_true, decide_eq_true_eq] at ok
  refine ⟨?_, ?_, ?_, ?_, ?_, ?_, h.grace, h.doze, h.storeIdle⟩ <;> dsimp only
  case refine_1 =>
    simp only [List.mem_cons, List.not_mem_nil, or_false]
    rintro v (rfl | rfl | rfl | rfl | rfl | rfl) <;> omega
  all_goals omega

theorem Power.InRange.timesSet {p : Power} (h : p.InRange) {bs : List Byte} (ok : timesOk bs = true) :
    Power.InRange { p with graceTime := half bs 46, dozeTimeout := half bs 48, storeIdle := half bs 50 } := by
  simp only [timesOk, Bool.and_eq_true, decide_eq_true_eq] at ok
  obtain ⟨⟨⟨⟨⟨g1, g2⟩, d1⟩, d2⟩, i1⟩, i2⟩ := ok
  exact ⟨h.1, h.2, h.3, h.4, h.5, h.6, ⟨g1, g2⟩, ⟨d1, d2⟩, i1, i2⟩

theorem Power.InRange.applySetup {p : Power} (h : p.InRange) {bs : List Byte} (ok : powerSetupOk bs = true) :
    (p.applySetup bs).InRange := by
  obtain ⟨thresholds, times⟩ := powerSetupOk_groups ok
  have first : Power.InRange (if bitAt bs 32 0 then
      { p with eReduced := half bs 34, xReduced := half bs 36, eCritical := half bs 38, xCritical := half bs 40,
               eExhausted := half bs 42, xExhausted := half bs 44 } else p) := by
    split
    · next e => exact h.thresholdsSet (thresholds e)
    · exact h
  unfold Power.applySetup
  dsimp only
  generalize (if bitAt bs 32 0 then _ else p : Power) = q at first ⊢
  have second : Power.InRange (if bitAt bs 32 1 then
      { q with graceTime := half bs 46, dozeTimeout := half bs 48, storeIdle := half bs 50 } else q) := by
    split
    · next e => exact first.timesSet (times e)
    · exact first
  generalize (if bitAt bs 32 1 then _ else q : Power) = m at second ⊢
  split
  · exact second.congr rfl
  · exact second

theorem Power.applySetup_keeps (bs : List Byte) (p : Power) :
    (p.applySetup bs).state = p.state ∧ (p.applySetup bs).cls = p.cls ∧ (p.applySetup bs).seen = p.seen
    ∧ (p.applySetup bs).wakeReason = p.wakeReason ∧ (p.applySetup bs).forced = p.forced
    ∧ (p.applySetup bs).vddMain = p.vddMain ∧ (p.applySetup bs).descentPending = p.descentPending
    ∧ (p.applySetup bs).graceTimer = p.graceTimer ∧ (p.applySetup bs).dozeTimer = p.dozeTimer
    ∧ (p.applySetup bs).wakeTimer = p.wakeTimer ∧ (p.applySetup bs).drainAsked = p.drainAsked
    ∧ (p.applySetup bs).remembered = p.remembered ∧ (p.applySetup bs).resetPending = p.resetPending := by
  unfold Power.applySetup
  dsimp only
  cases bitAt bs 32 0 <;> cases bitAt bs 32 1 <;> cases bitAt bs 32 2 <;> simp

theorem Power.applySetup_calm {bs : List Byte} (ok : powerSetupOk bs = true) (p : Power) :
    PowerCalm p (p.applySetup bs) := by
  obtain ⟨h1, h2, h3, h4, h5, h6, h7, h8, h9, h10, h11, h12, h13⟩ := p.applySetup_keeps bs
  exact ⟨h1, h2, fun k => h3 ▸ k, fun k => k.applySetup ok, h4, h5, h6, h7, fun k => h8 ▸ k, fun k => h9 ▸ k,
    fun k => h10 ▸ k, fun k => h11 ▸ k, fun k => h12 ▸ k, fun k => h13 ▸ k⟩

theorem execPowerSetup_answers : Answers c s (execPowerSetup s) := by
  refine onRecord_answers _ _ fun r _ h => ?_
  dsimp only
  split
  · next ok =>
    exact completeRecord_passes _ _ _ _ _ ((h.power _ (Power.applySetup_calm ok _)).store _ (.of_same rfl rfl rfl rfl rfl))
  · exact completeRecord_passes _ _ _ _ _ h

theorem acceptSleep_passes (r : RecordCopy) (d : SleepDepth) (h : Passes c s false u) (run : u.power.state = .run)
    (cls : u.power.cls ≠ .exhausted) : Passes c s false (acceptSleep r d u) := by
  have latched := h.power (fun p => { p with depth := d, wakeSetting := half r.bytes 34 })
    { PowerCalm.refl u.power with settings := fun k => k.congr rfl }
  have detached := detachIfAttached_passes latched
  unfold acceptSleep
  dsimp only
  refine completeRecord_passes _ _ _ _ _ ?_
  cases d with
  | doze => exact applyHoldCut_passes (detached.dozeEntry (by simpa using run) (by simpa using cls))
  | deep => exact enterDeepEntry_passes detached (.inr ⟨fun _ => by simp [run],
      fun _ => .inr (.inl (by simpa using cls))⟩)

theorem sleepChecks_passes (r : RecordCopy) (h : Passes c s false u) : Passes c s false (sleepChecks r u) := by
  unfold sleepChecks
  split
  · exact completeRecord_passes _ _ _ _ _ h
  · split
    · exact completeRecord_passes _ _ _ _ _ h
    · split
      · exact completeRecord_passes _ _ _ _ _ h
      · next run =>
        split
        · exact completeRecord_passes _ _ _ _ _ h
        · split
          · exact completeRecord_passes _ _ _ _ _ h
          · next cls => exact acceptSleep_passes r _ h (Decidable.of_not_not run) cls

theorem execPowerSleep_answers : Answers c s (execPowerSleep s) :=
  onRecord_answers _ _ fun r _ h => settleAll_passes (sleepChecks_passes r h)

/-! ## Timers and drains -/

theorem execGraceTimerExpiry_answers : Answers c s (execGraceTimerExpiry s) := by
  unfold execGraceTimerExpiry
  split
  · next runs =>
    have stopped : Passes c s false (s.modPower fun p => { p with graceTimer := none }) :=
      Passes.start.power _ { PowerCalm.refl s.power with
        settings := fun k => k.congr rfl, grace := fun e => absurd rfl e }
    refine (settleAll_passes (beginForcedDescent_passes stopped (.inr ⟨fun k => ?_, fun _ => .inl rfl⟩))).answers
    rw [State.modPower_power, (k.grace (by rw [← Option.isSome_iff_ne_none]; exact runs)).1]
    decide
  · exact answers_same

theorem execDozeTimerExpiry_answers : Answers c s (execDozeTimerExpiry s) := by
  unfold execDozeTimerExpiry
  split
  · next runs =>
    have runs : s.power.dozeTimer ≠ none := by rw [← Option.isSome_iff_ne_none]; exact runs
    dsimp only
    split
    · exact (Passes.start.power _ { PowerCalm.refl s.power with
        settings := fun k => k.congr rfl, doze := fun e => absurd rfl e }).answers
    · have same : enterDeepEntry (s.modPower fun p => { p with dozeTimer := none }) = enterDeepEntry s := rfl
      rw [same]
      refine (settleAll_passes (enterDeepEntry_passes .start (.inr ⟨fun k => ?_, fun _ => .inr (.inr runs)⟩))).answers
      rcases k.doze runs with e | e <;> simp [e]
  · exact answers_same

theorem execWakeTimerExpiry_answers : Answers .wakeTimerExpiry s (execWakeTimerExpiry s) := by
  unfold execWakeTimerExpiry
  split
  · refine (wakeEvent_passes _ (Passes.start.power _ { PowerCalm.refl s.power with
      settings := fun k => k.congr rfl, wake := fun e => absurd rfl e }) fun _ => ⟨.of_store rfl, fun _ => ?_⟩).answers
    simp [ResetsMain]
  · exact answers_same

theorem execDozeDrainComplete_answers : Answers c s (execDozeDrainComplete s) := by
  unfold execDozeDrainComplete
  split
  · next h =>
    simp only [dozeDrained, turnQuiet, Bool.and_eq_true, Bool.or_eq_true, beq_iff_eq, Bool.not_eq_true',
      List.isEmpty_iff] at h
    obtain ⟨⟨⟨⟨-, idle, empty⟩, -⟩, state⟩, -⟩ := h
    have asked : Passes c s false (s.modPower fun p => { p with drainAsked := true }) := by
      refine Passes.start.drain ?_ ?_ idle empty
      · exact state.elim (fun e => .inr e.1) fun e => .inl e.1.1
      · exact state.elim (fun e => .inl e.2) fun e => .inr e.1.1
    exact (powerOffArray_passes asked.askSelfRefresh).dozeQuiet.answers
  · exact answers_same

/-- What an entry to DEEP leaves of the targets, where the drain of DEEP_ENTRY is complete (03 R58). -/
theorem sameTargets_enterDeep (h : deepDrained s = true) (f : Power → Power) :
    SameTargets s (enterDeep (s.modPower f)) := by
  simp only [deepDrained, arrayQuiet, Bool.and_eq_true, Option.isNone_iff_eq_none] at h
  obtain ⟨⟨-, ⟨op, erase⟩, -⟩, -⟩ := h
  refine ⟨.inr rfl, .inr rfl, ?_⟩
  simp [enterDeep, resetMain, powerOffArray, wmUnpower, setPower, Store.abandoned, Store.abandonedOp, op, erase,
    Store.resetFrom]

theorem execDeepEntryComplete_answers : Answers .deepEntryComplete s (execDeepEntryComplete s) := by
  unfold execDeepEntryComplete
  split
  · next drained =>
    have state : s.power.state = .deepEntry := by
      simp only [deepDrained, Bool.and_eq_true, beq_iff_eq] at drained
      exact drained.1.1.1.1.1.1
    unfold takeRemembered
    split
    · next e => exact (Passes.start.enterDeep state e (.of_store rfl) rfl).answers
    · next r e =>
      have forgotten : Passes .deepEntryComplete s false (s.modPower fun p => { p with remembered := none }) :=
        Passes.start.power _ { PowerCalm.refl s.power with
          settings := fun k => k.congr rfl, remember := fun e => absurd rfl e }
      have same : (enterDeep s).modPower (fun p => { p with remembered := none })
          = enterDeep (s.modPower fun p => { p with remembered := none }) := rfl
      rw [same]
      refine (wakeEvent_passes r (forgotten.enterDeep state rfl (.of_store rfl) rfl)
        fun _ => ⟨sameTargets_enterDeep drained _, fun _ => ?_⟩).answers
      simp [ResetsMain]
  · exact answers_same

theorem reachRun_passes (waking : s.power.state = .waking) (reset : s.power.resetPending = false) :
    Passes c s false (reachRun s) := by
  have running := (Passes.start.run (c := c) waking waking reset).light (fun l => { l with fade := false }) (·.fade false)
  have graced : Passes c s false (if (setPower .run s).power.cls = .exhausted
      then startGrace ((setPower .run s).modLight fun l => { l with fade := false })
      else (setPower .run s).modLight fun l => { l with fade := false }) := by
    split
    · next e => exact startGrace_passes running (by simp [setPower]) e
    · exact running
  exact iteInduction (motive := Passes c s false) (fun waits => graced.startAttach (.inr waits)) fun _ => graced

theorem execWakingComplete_answers : Answers c s (execWakingComplete s) := by
  unfold execWakingComplete
  split
  · next h => exact (reachRun_passes h.1 h.2.2).answers
  · exact answers_same

/-! ## Inputs -/

theorem pressFound_passes (i : InputId) (h : Passes c s false u) : Passes c s false (pressFound i u) := by
  have counted : Passes c s false (restartDoze (u.modKeys fun k => k.count i)) := by
    refine (h.keys _).power _ ?_
    split
    · next runs => exact { PowerCalm.refl _ with
        settings := fun k => k.congr rfl, doze := fun _ => by rw [← Option.isSome_iff_ne_none]; exact runs }
    · exact .refl _
  unfold pressFound
  dsimp only
  split
  · exact setCause_passes _ counted
  · exact counted

theorem routeTurn_passes (k : TurnKey) (r : WakeReason) (h : Passes c s false u) (hr : r ≠ .engineReset)
    (hd : r.reachesDeep = false) : Passes c s false (routeTurn k r u) := by
  have joined : Passes c s false (if u.turn.armed then joinQueue k u else u) := by
    split
    · exact joinQueue_passes k h
    · exact h
  have woken : Passes c s false (if u.turn.armed then joinQueue k u else wakeEvent r u) := by
    split
    · exact joinQueue_passes k h
    · exact wakeEvent_soft_passes r h hr hd
  unfold routeTurn
  split
  · exact joined
  · exact joined
  · exact woken
  · exact woken
  · exact woken
  · exact h
  · exact h

theorem coverClosed_passes (h : Passes c s false u) : Passes c s false (coverClosed u) := by
  unfold coverClosed
  split
  · next closes =>
    simp only [Bool.and_eq_true] at closes
    refine enterDeepEntry_passes h (.of_state ?_ ?_ ?_) <;> intro e <;> rw [e] at closes <;> exact nomatch closes.1.1
  · exact h

theorem inputFound_passes (i : InputId) (level : Bool) (h : Passes c s false u)
    (hr : SameTargets s u ∧ (c.wellFormed = true → ResetsMain c)) :
    Passes c s false (inputFound i level u) := by
  have targets (v : State) (e : v.store = u.store) : SameTargets s v :=
    ⟨by rw [e]; exact hr.1.op, by rw [e]; exact hr.1.erase, by rw [e]; exact hr.1.array⟩
  have pressed (j : InputId) : (pressFound j u).store = u.store := by
    unfold pressFound; dsimp only; split <;> simp [restartDoze]
  have covered : (if u.power.state = .run then setCause coverCause u else u).store = u.store := by split <;> rfl
  cases i with
  | fwd =>
    unfold inputFound; dsimp only; split
    · exact routeTurn_passes _ _ (pressFound_passes _ h) (by decide) rfl
    · exact h
  | back =>
    unfold inputFound; dsimp only; split
    · exact routeTurn_passes _ _ (pressFound_passes _ h) (by decide) rfl
    · exact h
  | menu =>
    unfold inputFound; dsimp only; split
    · exact wakeEvent_passes _ (pressFound_passes _ h) fun _ => ⟨targets _ (pressed _), hr.2⟩
    · exact h
  | power =>
    unfold inputFound; dsimp only; split
    · exact wakeEvent_passes _ (pressFound_passes _ h) fun _ => ⟨targets _ (pressed _), hr.2⟩
    · exact h
  | charger =>
    unfold inputFound; dsimp only; split
    · exact wakeEvent_passes _ h fun _ => ⟨targets _ rfl, hr.2⟩
    · exact h
  | cover =>
    have caused : Passes c s false (if u.power.state = .run then setCause coverCause u else u) := by
      split
      · exact setCause_passes _ h
      · exact h
    unfold inputFound coverFound
    dsimp only
    split
    · exact coverClosed_passes caused
    · exact wakeEvent_passes _ caused fun _ => ⟨targets _ covered, hr.2⟩

theorem execInputChange_answers (i : InputId) (level : Bool) : Answers c s (execInputChange i level s) :=
  (Passes.start.keys _).answers

theorem execDebounceEnd_answers (i : InputId) : Answers (.debounceEnd i) s (execDebounceEnd i s) := by
  unfold execDebounceEnd
  dsimp only
  split
  · exact answers_same
  · split
    · refine (settleAll_passes (inputFound_passes i _ (Passes.start.keys _) ⟨.of_store rfl, fun _ => ?_⟩)).answers
      simp [ResetsMain]
    · exact (Passes.start.keys _).answers

/-! ## The register window -/

theorem execAttach_answers : Answers .attach s (execAttach s) :=
  (controlWrite_passes .attach (writeAnswered_passes .start) rfl (.inr fun _ => by simp [ResetsMain])).answers

theorem execDetach_answers : Answers .detach s (execDetach s) :=
  (settleAll_passes (controlWrite_passes .detach (writeAnswered_passes .start) rfl (.inl rfl))).answers

theorem execEngineReset_answers : Answers .engineReset s (execEngineReset s) :=
  (controlWrite_passes .engineReset (writeAnswered_passes .start) rfl (.inr fun _ => by simp [ResetsMain])).answers

theorem execWaitingCommandTaken_answers : Answers .waitingCommandTaken s (execWaitingCommandTaken s) := by
  unfold execWaitingCommandTaken
  split
  · exact answers_same
  · split
    · exact answers_same
    · next free =>
      refine (settleAll_passes (takeCommand_passes _ (Passes.start.regs _ ⟨fun _ => id, id⟩) (by simpa using free) rfl
        (.inr fun _ => ?_))).answers
      simp [ResetsMain]

theorem clearCauses_passes (v : Word) (h : Passes c s b u) (hc : c.wellFormed = true → ∃ w, c = .causeClear w) :
    Passes c s b (clearCauses v u) := h.causeCleared v hc

theorem wordWrite_passes (o w : Nat) (v : Word) (h : Passes (.registerWriteOther o w v) s false u)
    (word : w = 4 ∧ o % 4 = 0) (hs : u.store = s.store) :
    Passes (.registerWriteOther o w v) s false (wordWrite o v u) := by
  unfold wordWrite
  split
  · exact writeAnchor_passes _ h
  · split
    · next x hx =>
      refine settleAll_passes (controlWrite_passes x h hs (.inr fun wf => ?_))
      simp [Instr.wellFormed, otherRegisterWrite, word.1] at wf
      unfold commandOf at hx
      split at hx <;> simp_all
    · exact h
  · exact writeNudge_passes _ h
  · exact h.causeCleared v fun wf => by simp [Instr.wellFormed, otherRegisterWrite, word.1] at wf
  · exact writeCausemask_passes _ h
  · exact h

theorem execRegisterWriteOther_answers (o w : Nat) (v : Word) :
    Answers (.registerWriteOther o w v) s (execRegisterWriteOther o w v s) := by
  unfold execRegisterWriteOther
  split
  · next word => exact (wordWrite_passes o w v (writeAnswered_passes .start) word rfl).answers
  · exact (writeRefused_passes .start).answers

end Sys2Proof.Machine
end

section
/-!
PROOFS. The meanings of the commands of the memories, the panel, the Turn-Ahead Unit, the Store Controller and the
executor; and with them every command's: each answers a state that passes through the rules of `Passes`.
-/

namespace Sys2Proof.Machine

open Sys2Proof

variable {c : Instr} {s u : State} {b : Bool}

/-! ## Working memory -/

theorem WorkMem.refreshDue_calm (w : WorkMem) : MemoryCalm w w.refreshDue :=
  MemoryCalm.trans (x := { w with debt := min Config.forcedDebt (w.debt + 1) })
    ⟨rfl, rfl, rfl, fun _ => Nat.min_le_left _ _⟩ (WorkMem.decide_calm _)

theorem execRefreshDue_answers : Answers c s (execRefreshDue s) := by
  unfold execRefreshDue
  split
  · exact (Passes.start.memory _ (WorkMem.refreshDue_calm _)).answers
  · exact answers_same

theorem execBurstEnd_answers (l : List WmClient) : Answers c s (execBurstEnd l s) := by
  unfold execBurstEnd
  split
  · exact (wmGoOn_passes _ .start).answers
  · exact answers_same

theorem execRefreshEnd_answers (l : List WmClient) : Answers c s (execRefreshEnd l s) := by
  unfold execRefreshEnd
  split
  · exact (wmGoOn_passes _ .start).answers
  · exact answers_same

theorem execSelfRefreshEntry_answers : Answers c s (execSelfRefreshEntry s) := by
  unfold execSelfRefreshEntry
  split
  · next ready =>
    simp only [WorkMem.entryReady, Bool.and_eq_true, beq_iff_eq] at ready
    exact (Passes.selfRefreshed ready.1.1.1).dozeQuiet.answers
  · exact answers_same

theorem execMemoryLeaveEnd_answers : Answers .memoryLeaveEnd s (execMemoryLeaveEnd s) := by
  unfold execMemoryLeaveEnd
  dsimp only
  split
  · split
    · next _ pending =>
      have same : engineReset (s.modWm WorkMem.activate) = engineReset s := by
        simp [engineReset, resetMain, wmInitialise, State.modWm, State.modPower, WorkMem.activate]
      rw [same]
      have reset : Passes .memoryLeaveEnd s false (engineReset s) :=
        Passes.start.engineReset (.inr fun k => ⟨(k.reset pending).1, (k.reset pending).1⟩) (.of_store rfl)
          fun _ => by simp [ResetsMain]
      exact reset.answers
    · next still => exact (Passes.activated (.inl (by simpa using still))).answers
  · exact answers_same

theorem execInitialisingEnd_answers : Answers c s (execInitialisingEnd s) := by
  unfold execInitialisingEnd
  split
  · next e =>
    have activated : Passes c s false (s.modWm WorkMem.activate) := .activated (.inr (by simp [e]))
    have same : (turnLost (waveLost (panelLost s))).modWm WorkMem.activate
        = turnLost (waveLost (panelLost (s.modWm WorkMem.activate))) := rfl
    rw [same]
    exact ((panelLost_passes activated).wave _).turnLost.answers
  · exact answers_same

/-! ## The Waveform Unit -/

theorem requestLoadPage_passes (l : Load) (h : Passes c s b u) : Passes c s b (requestLoadPage l u) :=
  serveStore_passes (h.store _ (.of_same rfl rfl rfl rfl rfl))

theorem loadChecks_passes (r : RecordCopy) (h : Passes c s b u) : Passes c s b (loadChecks r u) := by
  unfold loadChecks
  split
  · exact completeRecord_passes _ _ _ _ _ h
  · split
    · exact completeRecord_passes _ _ _ _ _ h
    · split
      · exact completeRecord_passes _ _ _ _ _ h
      · exact h.wave _

theorem execWaveformLoad_answers : Answers c s (execWaveformLoad s) :=
  onRecord_answers _ _ fun r _ h => loadChecks_passes r h

theorem execWaveformListEmpty_answers : Answers c s (execWaveformListEmpty s) := by
  unfold execWaveformListEmpty
  split
  · exact (Passes.start.wave _).answers
  · exact answers_same

theorem execWaveformBankFree_answers : Answers c s (execWaveformBankFree s) := by
  unfold execWaveformBankFree
  split
  · exact answers_same
  · split
    · exact (requestLoadPage_passes _ (Passes.start.wave _)).answers
    · exact answers_same

theorem pageLoaded_passes (h : Passes c s b u) : Passes c s b (pageLoaded u) := by
  unfold pageLoaded
  split
  · exact h
  · dsimp only
    split
    · exact endLoad_passes _ h
    · exact iteInduction (motive := Passes c s b) (fun _ => requestLoadPage_passes _ (h.wave _))
        fun _ => wmRequest_passes _ ((h.wave _).wave _)

theorem execWaveformPageWritten_answers : Answers c s (execWaveformPageWritten s) := by
  unfold execWaveformPageWritten
  split
  · exact answers_same
  · next l _ =>
    split
    · exact answers_same
    · next data _ =>
      split
      · have written : Passes c s false
            (s.modWm fun w => w.writeBank s.wave.active.other (l.progress * 4096) data) := by
          refine Passes.start.memory _ ?_
          cases s.wave.active <;> exact ⟨rfl, rfl, rfl, id⟩
        exact (pageLoaded_passes ((wmDrop_passes _ written).wave _)).answers
      · exact answers_same

theorem execWaveformCrcCheckEnd_answers : Answers c s (execWaveformCrcCheckEnd s) := by
  unfold execWaveformCrcCheckEnd
  split
  · have dropped : Passes c s false (wmDrop .waveformLoader s) := wmDrop_passes _ .start
    dsimp only
    split
    · exact (endLoad_passes _ (dropped.wave _)).answers
    · exact (endLoad_passes _ dropped).answers
  · exact answers_same

/-! ## The Panel Update Engine -/

theorem Rect.clip_onPanel {r : Rect} (h : r.isEmpty = false) : r.clip.onPanel := by
  simp only [Rect.isEmpty, Bool.or_eq_false_iff, decide_eq_false_iff_not] at h
  obtain ⟨⟨⟨hx, hy⟩, -⟩, -⟩ := h
  simp only [Rect.onPanel, Rect.clip]
  omega

theorem updateCheck_onPanel {bs : List Byte} {m : Mode} (h : updateCheck bs u = .inl m) :
    (rawRect bs).clip.onPanel := by
  refine Rect.clip_onPanel (Bool.eq_false_iff.mpr fun empty => ?_)
  unfold updateCheck at h
  split at h
  · cases h
  · simp only [empty, if_true] at h
    split at h
    · cases h
    · split at h <;> cases h

theorem takeUpdate_passes (r : RecordCopy) (h : Passes c s false u) (room : u.panel.pending.length < 16) :
    Passes c s false (takeUpdate r u) := by
  unfold takeUpdate
  split
  · exact completeRecord_passes _ _ _ _ _ h
  · next ok => exact settleAll_passes (joinList_passes _ h (updateCheck_onPanel ok) room)

theorem execPanelUpdate_answers : Answers c s (execPanelUpdate s) := by
  refine onRecord_answers _ _ fun r accepts h => takeUpdate_passes r h ?_
  simp only [canAccept, Kind.lane, Bool.and_eq_true, Bool.or_eq_true, Config.pendingCapacity] at accepts
  exact of_decide_eq_true (accepts.2.resolve_left (by decide))

theorem copyingSlot_spec {n : Nat} {sl : Slot} (h : copyingSlot s = some (n, sl)) : (n, sl) ∈ s.panel.slots := by
  unfold copyingSlot at h
  split at h
  · cases h
  · obtain ⟨x, hx, e⟩ := Option.map_eq_some_iff.mp h
    cases e
    exact mem_of_sparseGet hx

theorem passSlot_spec {n : Nat} {sl : Slot} (h : passSlot s = some (n, sl)) : (n, sl) ∈ s.panel.slots := by
  unfold passSlot at h
  split at h
  · cases h
  · obtain ⟨x, hx, e⟩ := Option.map_eq_some_iff.mp h
    cases e
    exact mem_of_sparseGet hx

theorem rowsRead_passes {n : Nat} {sl : Slot} {t : State} (h : rowsRead n sl s = some t) :
    Passes c s false t ∧ t.panel = s.panel := by
  unfold rowsRead at h
  split at h
  · refine ⟨endTransfer_passes h, ?_⟩
    rw [(endTransfer_spec h).2]
  · cases h
    exact ⟨.start, rfl⟩

theorem copyEnded_passes (n : Nat) (sl : Slot) (h : Passes c s false u) : Passes c s false (copyEnded n sl u) := by
  have ready : Passes c s false
      ((modSlot n (fun x => { x with state := .ready }) u).modPanel
        fun p => { p with copyQueue := p.copyQueue.tail }) := by
    refine (h.panel _ (PanelCalm.map_slots _ _ fun m x => ?_)).panel _ (.of_same rfl rfl rfl rfl)
    split <;> rfl
  unfold copyEnded
  dsimp only
  split
  · exact copyOn_passes (markRunning_passes _ _ ready)
  · exact considerHead_passes (reportCopied_passes _ (copyOn_passes ready))

theorem execImageCopyEnd_answers (image : List Byte) : Answers c s (execImageCopyEnd image s) := by
  unfold execImageCopyEnd
  split
  · exact answers_same
  · next n sl copying =>
    split
    · exact answers_same
    · next t rows =>
      obtain ⟨passes, same⟩ := rowsRead_passes (c := c) rows
      split
      · exact (copyEnded_passes n sl (passes.copied n sl image (same ▸ copyingSlot_spec copying))).answers
      · exact answers_same

theorem execImageCopyBusError_answers : Answers c s (execImageCopyBusError s) := by
  unfold execImageCopyBusError
  split
  · exact answers_same
  · split
    · exact answers_same
    · next ended => exact (abortSlot_passes _ _ (endTransfer_passes ended)).answers

theorem startFrame_passes (h : Passes c s b u) : Passes c s b (startFrame u) := by
  have run : Passes c s b (u.modPanel fun p => { p with slots := sparseMap (fun _ sl => sl.run) p.slots }) := by
    refine h.panel _ (PanelCalm.map_slots _ _ fun _ sl => ?_)
    unfold Slot.run
    split <;> rfl
  unfold startFrame
  dsimp only
  split
  · exact wmRequest_passes _ (run.panel _ (.of_same rfl rfl rfl rfl))
  · exact run

theorem execFrameTick_answers : Answers c s (execFrameTick s) := by
  unfold execFrameTick
  split
  · refine (startFrame_passes ?_).answers
    unfold tickStops
    split
    · exact settleAll_passes (effectStops_passes .start)
    · exact .start
  · exact answers_same

theorem scanEnded_passes (h : Passes c s b u) : Passes c s b (scanEnded u) := by
  have advanced (out : List Nat) : Passes c s b ((wmDrop .frameScan u).modPanel fun p =>
      { p with scan := false, slots := sparseMap (fun _ sl => sl.advance) p.slots,
               passQueue := p.passQueue ++ out }) := by
    refine (wmDrop_passes _ h).panel _ ((PanelCalm.map_slots _ (fun _ sl => sl.advance) fun _ sl => ?_).trans
      (.of_same rfl rfl rfl rfl))
    unfold Slot.advance
    split <;> rfl
  unfold scanEnded
  dsimp only
  split
  · exact advanced _
  · exact wmRequest_passes _ (advanced _)

theorem execFrameScanEnd_answers : Answers c s (execFrameScanEnd s) := by
  unfold execFrameScanEnd
  split
  · exact (scanEnded_passes .start).answers
  · exact answers_same

theorem execRetirePassEnd_answers : Answers c s (execRetirePassEnd s) := by
  unfold execRetirePassEnd
  split
  · exact answers_same
  · next n sl serves =>
    split
    · have passed : Passes c s false ((passOver n sl true s).modPanel fun p => p.cleared sl) :=
        (Passes.start.passed n sl true (passSlot_spec serves)).panel _ (Panel.cleared_calm _ sl)
      exact (settleAll_passes (freeSlot_passes _ _ (completeSlot_passes _ passed))).answers
    · exact answers_same

theorem clearingEnded_passes (n : Nat) (sl : Slot) (h : Passes c s false (passOver n sl false u)) :
    Passes c s false (clearingEnded n sl u) := by
  unfold clearingEnded
  refine settleAll_passes (freeSlot_passes _ _ ?_)
  split
  · exact completeRecord_passes _ _ _ _ _ h
  · exact h

theorem execClearingPassEnd_answers : Answers c s (execClearingPassEnd s) := by
  unfold execClearingPassEnd
  split
  · exact answers_same
  · next n sl serves =>
    split
    · exact (clearingEnded_passes n sl (Passes.start.passed n sl false (passSlot_spec serves))).answers
    · exact answers_same

theorem execRailGoodAssert_answers : Answers c s (execRailGoodAssert s) := by
  unfold execRailGoodAssert
  dsimp only
  split
  · exact (considerHead_passes (leaveDriving_passes ((Passes.start.railGood true).panel _
      (.of_same rfl rfl rfl rfl)))).answers
  · exact (Passes.start.railGood true).answers

theorem execRailGoodDeassert_answers : Answers c s (execRailGoodDeassert s) := by
  unfold execRailGoodDeassert
  dsimp only
  split
  · exact (settleAll_passes (railFault_passes (Passes.start.railGood false))).answers
  · exact (Passes.start.railGood false).answers

theorem execRisingTimerExpiry_answers : Answers c s (execRisingTimerExpiry s) := by
  unfold execRisingTimerExpiry
  split
  · exact (settleAll_passes (railFault_passes .start)).answers
  · exact answers_same

theorem execHoldTimerExpiry_answers : Answers c s (execHoldTimerExpiry s) := by
  unfold execHoldTimerExpiry
  split
  · exact (Passes.start.panel _ (.of_same rfl rfl rfl rfl)).answers
  · exact answers_same

theorem execFallingTimerExpiry_answers : Answers c s (execFallingTimerExpiry s) := by
  unfold execFallingTimerExpiry
  split
  · exact (settleAll_passes (Passes.start.panel _ (.of_same rfl rfl rfl rfl))).answers
  · exact answers_same

theorem takeStop_passes (r : RecordCopy) (h : Passes c s false u) : Passes c s false (takeStop r u) := by
  have joined : Passes c s false (u.modPanel fun p => { p with stops := p.stops ++ [stopOf r p] }) :=
    h.panel _ (.of_same rfl rfl rfl rfl)
  unfold takeStop
  split
  · exact completeRecord_passes _ _ _ _ _ h
  · dsimp only
    split
    · exact joined
    · exact settleAll_passes (effectStops_passes joined)

theorem execPanelStop_answers : Answers c s (execPanelStop s) :=
  onRecord_answers _ _ fun r _ h => takeStop_passes r h

theorem execPanelResume_answers : Answers c s (execPanelResume s) := by
  refine onRecord_answers _ _ fun r _ h => ?_
  split
  · exact h.panel _ (.of_same rfl rfl rfl rfl)
  · exact completeRecord_passes _ _ _ _ _ h

theorem resumeEngine_passes : Passes c s false (resumeEngine s) :=
  settleAll_passes (foldl_complete_passes (fun a v => completeRecord .display a .ok 0#32 0 v)
    (fun _ _ h => completeRecord_passes _ _ _ _ _ h) _ (Passes.start.panel _ (.of_same rfl rfl rfl rfl)))

theorem execPanelResumeComplete_answers : Answers c s (execPanelResumeComplete s) := by
  unfold execPanelResumeComplete
  split
  · exact resumeEngine_passes.answers
  · exact answers_same

theorem execPanelSetup_answers : Answers c s (execPanelSetup s) :=
  onRecord_answers _ _ fun _ _ h => completeRecord_passes _ _ _ _ _ (h.panel _
    ⟨List.Sublist.refl _, fun e he => ⟨e, he, rfl, rfl⟩, id, fun _ => Nat.le_refl _, id, fun _ => Nat.min_le_right _ _⟩)

/-! ## The Turn-Ahead Unit -/

/-- A unit under way: what it goes on to is not bound to be quiet. -/
theorem TurnCalm.of_busy {t t' : Turn} (busy : t.state ≠ .idle) (he : t'.entries = t.entries) (hq : t'.queue = t.queue)
    (hi : t'.interval = t.interval) (hl : t'.load = t.load) : TurnCalm t t' :=
  ⟨fun h _ => absurd h busy, hq ▸ Nat.le_refl _, he ▸ Nat.le_refl _, fun n => by simp [Turn.names, he], hi,
    fun l h _ => .inl (hl ▸ h)⟩

theorem execTurnLoad_answers : Answers c s (execTurnLoad s) := by
  refine onRecord_answers _ _ fun r _ h => h.turn _ ⟨fun e _ => e, Nat.le_refl _, Nat.le_refl _, fun _ => id, rfl, ?_⟩
  rintro l ⟨⟩ reading
  cases reading

theorem checkTurnLoad_passes (l : TurnLoad) : Passes c s false (checkTurnLoad l s) := by
  unfold checkTurnLoad
  split
  · next ok =>
    split
    · exact takeEntries_passes _ _ (markRunning_passes _ _ .start) (fun _ => ok) (by simp)
    · refine Passes.ask _ (Passes.start.turn _ ?_) rfl
      refine ⟨fun e _ => e, Nat.le_refl _, Nat.le_refl _, fun _ => id, rfl, ?_⟩
      rintro m ⟨⟩ -
      exact .inr ok
  · exact endTurnLoad_passes _ _ .start

theorem execTurnLoadCheck_answers : Answers c s (execTurnLoadCheck s) := by
  unfold execTurnLoadCheck
  split
  · exact answers_same
  · split
    · exact answers_same
    · exact (checkTurnLoad_passes _).answers

theorem BusAccess.eq_buffer_of_isEntryArray {a : BusAccess} (h : a.isEntryArray = true) :
    ∃ use addr n, a = .buffer use addr n := by
  unfold BusAccess.isEntryArray at h
  split at h
  · exact ⟨_, _, _, rfl⟩
  · cases h

theorem BusAccess.eq_buffer_of_isBuffer {a : BusAccess} {use : BufferUse} (h : a.isBuffer use = true) :
    ∃ use addr n, a = .buffer use addr n := by
  unfold BusAccess.isBuffer at h
  split at h
  · exact ⟨_, _, _, rfl⟩
  · cases h

/-- A buffer access has ended: the state without it. -/
theorem buffer_passes {p : BusAccess → Bool} {t : State} {a : BusAccess} (h : endAccess p s = some (a, t))
    (hp : p a = true → ∃ use addr n, a = .buffer use addr n) :
    Passes c s false t ∧ t.store = s.store ∧ t.executor = s.executor := by
  obtain ⟨ha, q, hq, rfl⟩ := endAccess_popped h
  obtain ⟨use, addr, n, rfl⟩ := hp ha
  exact ⟨.bufferEnded use addr n q hq, rfl, rfl⟩

theorem execTurnLoadArrayReadEnd_answers (a : BusRead) : Answers c s (execTurnLoadArrayReadEnd a s) := by
  unfold execTurnLoadArrayReadEnd
  split
  · next l _ t load ended =>
    obtain ⟨passes, store, -⟩ := buffer_passes (c := c) ended BusAccess.eq_buffer_of_isEntryArray
    split
    · next reading =>
      split
      · exact (endTurnLoad_passes _ _ passes).answers
      · exact (takeEntries_passes _ _ (markRunning_passes _ _ passes) (fun k => k.load l load reading)
          (by simpa using store)).answers
    · exact answers_same
  · exact answers_same

theorem takeArm_passes (r : RecordCopy) (h : Passes c s b u) : Passes c s b (takeArm r u) := by
  unfold takeArm
  split
  · exact completeRecord_passes _ _ _ _ _ (h.turn _ (.of_same rfl rfl rfl rfl rfl))
  · split
    · exact h.turn _ ⟨fun e _ => e, Nat.zero_le _, Nat.le_refl _, fun _ => id, rfl, fun _ hl _ => .inl hl⟩
    · exact completeRecord_passes _ _ _ _ _ h

theorem execTurnArm_answers : Answers c s (execTurnArm s) :=
  onRecord_answers _ _ fun r _ h => takeArm_passes r h

theorem execTurnArmComplete_answers : Answers c s (execTurnArmComplete s) := by
  unfold execTurnArmComplete
  split
  · exact answers_same
  · split
    · exact (considerHead_passes (completeRecord_passes _ _ _ _ _
        (Passes.start.turn _ (.of_same rfl rfl rfl rfl rfl)))).answers
    · exact answers_same

theorem pageBuffered_passes (data : List Byte) (reading : s.turn.state = .reading) :
    Passes c s false (pageBuffered data s) := by
  have buffered : Passes c s false
      ((s.modWm fun w => { w with decode := overlay w.decode (s.turn.written * 4096) data }).modTurn fun x =>
        { x with written := x.written + 1, arrived := x.arrived.tail }) :=
    (Passes.start.memory _ ⟨rfl, rfl, rfl, id⟩).turn _ (.of_same rfl rfl rfl rfl rfl)
  have goesOn {v : State} (hv : Passes c s false v) (busy : v.turn.state = .reading) : Passes c s false
      (if v.turn.written < v.turn.extentCount then v
       else wmRequest .decoder (v.modTurn fun x => { x with state := .checking })) := by
    split
    · exact hv
    · exact wmRequest_passes _ (hv.turn _ (.of_busy (by simp [busy]) rfl rfl rfl rfl))
  unfold pageBuffered
  dsimp only
  refine goesOn (iteInduction (motive := Passes c s false) (fun _ => wmDrop_passes _ buffered)
    fun _ => wmRequest_passes _ buffered) ?_
  split <;> simpa using reading

theorem execTurnPageReadEnd_answers : Answers c s (execTurnPageReadEnd s) := by
  unfold execTurnPageReadEnd
  split
  · next reading =>
    split
    · exact answers_same
    · split
      · exact (pageBuffered_passes _ reading).answers
      · exact answers_same
    · exact (settleAll_passes (failTurn_passes (wmDrop_passes _ .start))).answers
  · exact answers_same

theorem execTurnImageCheckEnd_answers : Answers c s (execTurnImageCheckEnd s) := by
  unfold execTurnImageCheckEnd
  split
  · next h =>
    split
    · exact (wmRequest_passes _ (Passes.start.turn _ (.of_busy (by simp [h.1]) rfl rfl rfl rfl))).answers
    · exact (settleAll_passes (failTurn_passes (wmDrop_passes _ .start))).answers
  · exact answers_same

theorem execDecodeEnd_answers : Answers c s (execDecodeEnd s) := by
  unfold execDecodeEnd
  split
  · next h =>
    have decoded : Passes c s false (wmDrop .decoder (writeDecoded s)) := wmDrop_passes _ (writeDecoded_passes .start)
    dsimp only
    split
    · exact (settleAll_passes (beginOffer_passes decoded (by simp [writeDecoded, h.1]))).answers
    · exact (settleAll_passes (failTurn_passes decoded)).answers
  · exact answers_same

/-! ## The Store Controller -/

theorem execArrayPowerUpEnd_answers : Answers c s (execArrayPowerUpEnd s) := by
  unfold execArrayPowerUpEnd
  split
  · exact (serveStore_passes (Passes.start.store _ (.of_same rfl rfl rfl rfl rfl))).answers
  · exact answers_same

theorem execArrayIdleTimerExpiry_answers : Answers c s (execArrayIdleTimerExpiry s) := by
  unfold execArrayIdleTimerExpiry
  split
  · exact (powerOffArray_passes .start).answers
  · exact answers_same

theorem execPageReadEnd_answers (page : RawPage) : Answers c s (execPageReadEnd page s) := by
  unfold execPageReadEnd
  split
  · next ho =>
    split
    · exact (finishRead_passes _ _ _ _ _ ho).answers
    · exact (finishRead_passes _ _ _ _ _ ho).answers
    · exact (readMismatch_passes _ _ _ ho).answers
  · exact answers_same

theorem execRawReadEnd_answers (page : RawPage) : Answers (.rawReadEnd page) s (execRawReadEnd page s) := by
  unfold execRawReadEnd
  split
  · next ho => exact (serveStore_passes (surveyPage_passes page ho)).answers
  · exact answers_same

theorem execPageProgramEnd_answers (ok : Bool) : Answers (.pageProgramEnd ok) s (execPageProgramEnd ok s) := by
  unfold execPageProgramEnd
  split
  · next ho =>
    refine (serveStore_passes ?_).answers
    cases ok with
    | true => exact programSucceeded_passes ho
    | false => exact programFailed_passes ⟨false, .inl rfl⟩ ho
  · exact answers_same

theorem execEraseEnd_answers (ok : Bool) : Answers (.eraseEnd ok) s (execEraseEnd ok s) := by
  unfold execEraseEnd
  split
  · next running =>
    refine (serveStore_passes ?_).answers
    cases ok with
    | true => exact eraseSucceeded_passes running
    | false => exact eraseFailed_passes ⟨false, .inl rfl⟩ running
  · exact answers_same

theorem execEraseSuspended_answers : Answers c s (execEraseSuspended s) := by
  unfold execEraseSuspended
  split
  · next e erase =>
    split
    · refine (serveStore_passes (Passes.start.store _ ⟨rfl, rfl, .inl rfl, ?_, .refl _⟩)).answers
      simp [erase]
    · exact answers_same
  · exact answers_same

theorem execMarkWriteEnd_answers (ok : Bool) : Answers (.markWriteEnd ok) s (execMarkWriteEnd ok s) := by
  unfold execMarkWriteEnd
  split
  · next ho => exact (serveStore_passes (markEnded_passes ok ⟨ok, .inl rfl⟩ ho)).answers
  · exact answers_same

theorem execBusyLimitExpiry_answers : Answers .busyLimitExpiry s (execBusyLimitExpiry s) := by
  unfold execBusyLimitExpiry
  split
  · next ho => exact (readMismatch_passes _ _ _ ho).answers
  · next p why second ho =>
    split
    · exact (serveStore_passes (surveyFailed_passes _ (endOp_passes .start) (unasked_endOp ho trivial))).answers
    · exact (Passes.start.store _ ⟨rfl, rfl, .inl rfl, rfl,
        .inr (.inr (.inr (.inr ⟨p, why, second, ho, rfl⟩)))⟩).answers
  · next ho => exact (serveStore_passes (programFailed_passes ⟨false, .inr rfl⟩ ho)).answers
  · next ho => exact (serveStore_passes (markEnded_passes _ ⟨false, .inr rfl⟩ ho)).answers
  · split
    · next running => exact (serveStore_passes (eraseFailed_passes ⟨false, .inr rfl⟩ running)).answers
    · exact answers_same

theorem execGuardChange_answers (x : Bool) : Answers (.guardChange x) s (execGuardChange x s) := by
  unfold execGuardChange
  dsimp only
  split
  · exact (Passes.guardChanged x rfl).answers
  · next kept => exact (Passes.guardKept x (by simpa using kept)).answers

/-! ## The executor -/

/-- An executor that is idle has asked for nothing. -/
theorem unasked_of_idle (h : s.executor.phase = .idle) (hs : u.store = s.store) : Unasked s u :=
  fun k asked => (k.phase (hs ▸ asked)).1 h

theorem canAccept_store {k : Kind} (h : canAccept k s = true) (hk : k.lane = .store) : s.executor.phase = .idle := by
  simp only [canAccept, hk, Bool.and_eq_true, beq_iff_eq] at h
  exact h.2

theorem unasked_begin {k : Kind} {r : RecordCopy} (h : canAccept k s = true) (hk : k.lane = .store) (f : Kind) :
    Unasked s (acceptRecord k r s) ∧ Unasked s (beginExecutor f r (acceptRecord k r s)) :=
  ⟨unasked_of_idle (canAccept_store h hk) (by simp), unasked_of_idle (canAccept_store h hk) (by simp)⟩

theorem execStoreIngest_answers : Answers c s (execStoreIngest s) := by
  refine onRecord_answers _ _ fun r accepts h => ?_
  obtain ⟨free, begun⟩ := unasked_begin accepts rfl .storeIngest
  exact serveStore_passes (ingestChecks_passes (beginExecutor_passes _ _ h free) begun rfl)

theorem execStoreRead_answers : Answers c s (execStoreRead s) := by
  refine onRecord_answers _ _ fun r accepts h => ?_
  obtain ⟨free, begun⟩ := unasked_begin accepts rfl .storeRead
  exact serveStore_passes (readChecks_passes (beginExecutor_passes _ _ h free) begun rfl)

theorem execStoreErase_answers : Answers c s (execStoreErase s) := by
  refine onRecord_answers _ _ fun r accepts h => ?_
  obtain ⟨free, begun⟩ := unasked_begin accepts rfl .storeErase
  exact serveStore_passes (eraseChecks_passes (beginExecutor_passes _ _ h free) begun)

theorem execStoreProtect_answers : Answers .storeProtect s (execStoreProtect s) := by
  refine onRecord_answers _ _ fun r accepts h => ?_
  obtain ⟨free, begun⟩ := unasked_begin accepts rfl .storeProtect
  exact protectChecks_passes (executor_passes _ (beginExecutor_passes _ _ h free) begun)
    (begun.of_store rfl) (by simp)

theorem execStoreSurvey_answers : Answers c s (execStoreSurvey s) := by
  refine onRecord_answers _ _ fun r accepts h => ?_
  obtain ⟨free, begun⟩ := unasked_begin accepts rfl .storeSurvey
  exact serveStore_passes (surveyChecks_passes (beginExecutor_passes _ _ h free) begun)

/-- An executor in a phase that waits for the port has asked the Store Controller for nothing. -/
theorem unasked_of_phase (hs : u.store = s.store)
    (h : s.executor.phase = .verifying ∨ s.executor.phase = .reporting
      ∨ (s.executor.phase = .programming ∧ s.executor.buf = []) ∨ (s.executor.phase = .reading ∧ s.executor.buf ≠ [])) :
    Unasked s u := by
  intro k asked
  obtain ⟨-, verifying, reporting, programming, reading⟩ := k.phase (hs ▸ asked)
  rcases h with h | h | ⟨hp, hb⟩ | ⟨hp, hb⟩
  · exact verifying h
  · exact reporting h
  · exact programming hp hb
  · exact hb (reading hp)

theorem execIngestVerifyEnd_answers (a : BusRead) : Answers c s (execIngestVerifyEnd a s) := by
  unfold execIngestVerifyEnd
  split
  · exact answers_same
  · next t ended =>
    have passes : Passes c s false t := endTransfer_passes ended
    split
    · next phase =>
      have free : Unasked s t := unasked_of_phase (by rw [(endTransfer_spec ended).2]) (.inl phase)
      split
      · exact (finishExecutor_passes _ _ _ passes free).answers
      · exact (ingestVerified_passes _ passes free).answers
    · exact answers_same

theorem execIngestPageDataRead_answers (a : BusRead) : Answers c s (execIngestPageDataRead a s) := by
  unfold execIngestPageDataRead
  split
  · exact answers_same
  · next t ended =>
    obtain ⟨passes, store, executor⟩ := buffer_passes (c := c) ended BusAccess.eq_buffer_of_isBuffer
    split
    · next phase =>
      have free : Unasked s t := unasked_of_phase store (.inr (.inr (.inl phase)))
      split
      · exact (finishExecutor_passes _ _ _ passes free).answers
      · exact (serveStore_passes (ingestPageRead_passes _ passes free (executor ▸ phase.1))).answers
    · exact answers_same

theorem execStoreReadDestWriteEnd_answers (e : Bool) :
    Answers (.storeReadDestWriteEnd e) s (execStoreReadDestWriteEnd e s) := by
  unfold execStoreReadDestWriteEnd
  split
  · exact answers_same
  · next t ended =>
    obtain ⟨passes, store, executor⟩ :=
      buffer_passes (c := .storeReadDestWriteEnd e) ended BusAccess.eq_buffer_of_isBuffer
    split
    · next phase =>
      have free : Unasked s t := unasked_of_phase store (.inr (.inr (.inr phase)))
      split
      · exact (finishExecutor_passes _ _ _ passes free).answers
      · exact (serveStore_passes (readPageWritten_passes passes free (executor ▸ phase.1))).answers
    · exact answers_same

theorem execSurveyReportWriteEnd_answers (e : Bool) :
    Answers (.surveyReportWriteEnd e) s (execSurveyReportWriteEnd e s) := by
  unfold execSurveyReportWriteEnd
  split
  · exact answers_same
  · next t ended =>
    obtain ⟨passes, store, -⟩ :=
      buffer_passes (c := .surveyReportWriteEnd e) ended BusAccess.eq_buffer_of_isBuffer
    split
    · next phase =>
      have free : Unasked s t := unasked_of_phase store (.inr (.inl phase))
      split
      · exact (finishExecutor_passes _ _ _ passes free).answers
      · exact (reportDone_passes passes free).answers
    · exact answers_same

/-! ## Every command -/

/-- Every command answers a next state, which its meaning comes to by the rules. -/
theorem exec_answers (c : Instr) (s : State) : Answers c s (exec c s) := by
  cases c with
  | attach => exact execAttach_answers
  | detach => exact execDetach_answers
  | engineReset => exact execEngineReset_answers
  | waitingCommandTaken => exact execWaitingCommandTaken_answers
  | anchorWrite v => exact (writeAnchor_passes v (writeAnswered_passes .start)).answers
  | nudge v => exact (writeNudge_passes v (writeAnswered_passes .start)).answers
  | causeClear v => exact (clearCauses_passes v (writeAnswered_passes .start) fun _ => ⟨v, rfl⟩).answers
  | causemaskWrite v => exact (writeCausemask_passes v (writeAnswered_passes .start)).answers
  | registerWriteOther o w v => exact execRegisterWriteOther_answers o w v
  | fullReset => exact (Passes.fullReset rfl).answers
  | anchorBlockReadEnd a => exact execAnchorBlockReadEnd_answers a
  | scanTick => exact execScanTick_answers
  | recordReadEnd a => exact execRecordReadEnd_answers a
  | heldRelease i => exact (Passes.start.released i).answers
  | linkReadEnd v => exact execLinkReadEnd_answers v
  | recordHeaderWriteEnd e => exact execRecordHeaderWriteEnd_answers e
  | detachFinalPage e => exact execDetachFinalPage_answers e
  | statusPageWriteEnd e => exact execStatusPageWriteEnd_answers e
  | pwmPeriodStart => exact execPwmPeriodStart_answers
  | sweepTimerExpiry => exact execSweepTimerExpiry_answers
  | conversionEnd raw => exact execConversionEnd_answers raw
  | senseSetup => exact execSenseSetup_answers
  | senseSetupApply => exact execSenseSetupApply_answers
  | powerSetup => exact execPowerSetup_answers
  | powerSleep => exact execPowerSleep_answers
  | graceTimerExpiry => exact execGraceTimerExpiry_answers
  | dozeTimerExpiry => exact execDozeTimerExpiry_answers
  | wakeTimerExpiry => exact execWakeTimerExpiry_answers
  | dozeDrainComplete => exact execDozeDrainComplete_answers
  | deepEntryComplete => exact execDeepEntryComplete_answers
  | wakingComplete => exact execWakingComplete_answers
  | inputChange i x => exact execInputChange_answers i x
  | debounceEnd i => exact execDebounceEnd_answers i
  | refreshDue => exact execRefreshDue_answers
  | burstEnd l => exact execBurstEnd_answers l
  | refreshEnd l => exact execRefreshEnd_answers l
  | selfRefreshEntry => exact execSelfRefreshEntry_answers
  | memoryLeaveEnd => exact execMemoryLeaveEnd_answers
  | initialisingEnd => exact execInitialisingEnd_answers
  | waveformLoad => exact execWaveformLoad_answers
  | waveformListEmpty => exact execWaveformListEmpty_answers
  | waveformBankFree => exact execWaveformBankFree_answers
  | waveformPageWritten => exact execWaveformPageWritten_answers
  | waveformCrcCheckEnd => exact execWaveformCrcCheckEnd_answers
  | panelUpdate => exact execPanelUpdate_answers
  | imageCopyEnd image => exact execImageCopyEnd_answers image
  | imageCopyBusError => exact execImageCopyBusError_answers
  | frameTick => exact execFrameTick_answers
  | frameScanEnd => exact execFrameScanEnd_answers
  | retirePassEnd => exact execRetirePassEnd_answers
  | clearingPassEnd => exact execClearingPassEnd_answers
  | railGoodAssert => exact execRailGoodAssert_answers
  | railGoodDeassert => exact execRailGoodDeassert_answers
  | risingTimerExpiry => exact execRisingTimerExpiry_answers
  | holdTimerExpiry => exact execHoldTimerExpiry_answers
  | fallingTimerExpiry => exact execFallingTimerExpiry_answers
  | panelStop => exact execPanelStop_answers
  | panelResume => exact execPanelResume_answers
  | panelResumeComplete => exact execPanelResumeComplete_answers
  | panelSetup => exact execPanelSetup_answers
  | turnLoad => exact execTurnLoad_answers
  | turnLoadCheck => exact execTurnLoadCheck_answers
  | turnLoadArrayReadEnd a => exact execTurnLoadArrayReadEnd_answers a
  | turnArm => exact execTurnArm_answers
  | turnArmComplete => exact execTurnArmComplete_answers
  | turnPageReadEnd => exact execTurnPageReadEnd_answers
  | turnImageCheckEnd => exact execTurnImageCheckEnd_answers
  | decodeEnd => exact execDecodeEnd_answers
  | lightSet => exact execLightSet_answers
  | lightCurve => exact execLightCurve_answers
  | rampTick => exact execRampTick_answers
  | arrayPowerUpEnd => exact execArrayPowerUpEnd_answers
  | arrayIdleTimerExpiry => exact execArrayIdleTimerExpiry_answers
  | pageReadEnd page => exact execPageReadEnd_answers page
  | rawReadEnd page => exact execRawReadEnd_answers page
  | pageProgramEnd ok => exact execPageProgramEnd_answers ok
  | eraseEnd ok => exact execEraseEnd_answers ok
  | eraseSuspended => exact execEraseSuspended_answers
  | markWriteEnd ok => exact execMarkWriteEnd_answers ok
  | busyLimitExpiry => exact execBusyLimitExpiry_answers
  | guardChange x => exact execGuardChange_answers x
  | storeIngest => exact execStoreIngest_answers
  | ingestVerifyEnd a => exact execIngestVerifyEnd_answers a
  | ingestPageDataRead a => exact execIngestPageDataRead_answers a
  | storeRead => exact execStoreRead_answers
  | storeReadDestWriteEnd e => exact execStoreReadDestWriteEnd_answers e
  | storeErase => exact execStoreErase_answers
  | storeProtect => exact execStoreProtect_answers
  | storeSurvey => exact execStoreSurvey_answers
  | surveyReportWriteEnd e => exact execSurveyReportWriteEnd_answers e

end Sys2Proof.Machine
end

section
/-!
PROOFS. What each composite rule of `Passes` leaves alone, the values that a reset of the main domain leaves, and the
first invariants: the queue, Full Reset's values, the canonical lists, the light.
-/

namespace Sys2Proof.Machine

open Sys2Proof

variable {c : Instr} {s u : State} {b : Bool}

/-! ## The composite rules -/

@[simp] theorem State.popped_keeps (s : State) (q : List BusAccess) :
    (s.popped q).regs = s.regs ∧ (s.popped q).link = s.link ∧ (s.popped q).bus.queue = q
    ∧ (s.popped q).bus.snapshot = none ∧ (s.popped q).sense = s.sense ∧ (s.popped q).power = s.power
    ∧ (s.popped q).wm = s.wm ∧ (s.popped q).wave = s.wave ∧ (s.popped q).panel = s.panel ∧ (s.popped q).pins = s.pins
    ∧ (s.popped q).turn = s.turn ∧ (s.popped q).light = s.light ∧ (s.popped q).store = s.store
    ∧ (s.popped q).executor = s.executor ∧ (s.popped q).shared = s.shared ∧ (s.popped q).pending = s.pending := by
  simp [State.popped]

@[simp] theorem State.withClass_keeps (cl : SupplyClass) (s : State) :
    (s.withClass cl).regs = s.regs ∧ (s.withClass cl).link = s.link ∧ (s.withClass cl).bus = s.bus
    ∧ (s.withClass cl).sense = s.sense ∧ (s.withClass cl).wm = s.wm ∧ (s.withClass cl).panel = s.panel
    ∧ (s.withClass cl).pins = s.pins ∧ (s.withClass cl).turn = s.turn ∧ (s.withClass cl).store = s.store
    ∧ (s.withClass cl).executor = s.executor ∧ (s.withClass cl).shared = s.shared
    ∧ (s.withClass cl).pending = s.pending ∧ (s.withClass cl).light = s.light.takeClass cl
    ∧ (s.withClass cl).power
      = { s.power with cls := cl, graceTimer := if cl = .exhausted then s.power.graceTimer else none } := by
  simp [State.withClass]

@[simp] theorem State.forcing_keeps (s : State) :
    s.forcing.regs = s.regs ∧ s.forcing.link = s.link ∧ s.forcing.bus = s.bus ∧ s.forcing.sense = s.sense
    ∧ s.forcing.wm = s.wm ∧ s.forcing.panel = s.panel ∧ s.forcing.pins = s.pins ∧ s.forcing.turn = s.turn
    ∧ s.forcing.light = s.light ∧ s.forcing.store = s.store ∧ s.forcing.executor = s.executor
    ∧ s.forcing.shared = s.shared ∧ s.forcing.pending = s.pending
    ∧ s.forcing.power = { s.power with forced := true, wakeSetting := 0, wakeTimer := none } := by
  simp [State.forcing]

@[simp] theorem State.toDeepEntry_keeps (s : State) :
    s.toDeepEntry.regs = s.regs ∧ s.toDeepEntry.link = s.link ∧ s.toDeepEntry.bus = s.bus
    ∧ s.toDeepEntry.wm = s.wm ∧ s.toDeepEntry.panel = s.panel ∧ s.toDeepEntry.pins = s.pins
    ∧ s.toDeepEntry.turn = s.turn ∧ s.toDeepEntry.light = s.light ∧ s.toDeepEntry.store = s.store
    ∧ s.toDeepEntry.executor = s.executor ∧ s.toDeepEntry.shared = s.shared ∧ s.toDeepEntry.pending = s.pending
    ∧ s.toDeepEntry.power
      = { s.power with dozeTimer := none, drainAsked := false, descentPending := false, state := .deepEntry } := by
  simp [State.toDeepEntry, setPower]

@[simp] theorem wakingFromDoze_keeps (r : WakeReason) (s : State) :
    (wakingFromDoze r s).link = s.link ∧ (wakingFromDoze r s).bus = s.bus
    ∧ (wakingFromDoze r s).panel = { s.panel with flushed := false } ∧ (wakingFromDoze r s).pins = s.pins
    ∧ (wakingFromDoze r s).turn = s.turn ∧ (wakingFromDoze r s).light = s.light
    ∧ (wakingFromDoze r s).store = s.store ∧ (wakingFromDoze r s).executor = s.executor
    ∧ (wakingFromDoze r s).shared = s.shared ∧ (wakingFromDoze r s).pending = s.pending
    ∧ (wakingFromDoze r s).power.cls = s.power.cls ∧ (wakingFromDoze r s).power.seen = s.power.seen := by
  simp [wakingFromDoze, leaveSelfRefresh, setPower, recordWake]
  split <;> simp

/-! ## The values a reset of the main domain leaves -/

/-- The main domain as a reset leaves it, the Store Controller's array and idle time apart. -/
structure MainReset (s t : State) : Prop where
  link     : t.link = .reset
  bus      : t.bus = .reset
  panel    : t.panel = .resetFrom s.panel.nextId
  turn     : t.turn = .reset
  store    : t.store = .resetFrom s.power.storeIdle s.store.abandoned
  executor : t.executor = .reset

theorem engineReset_main (s : State) : MainReset s (engineReset s) := ⟨rfl, rfl, rfl, rfl, rfl, rfl⟩

theorem resetFromDoze_main (s : State) : MainReset s (engineReset (wakingFromDoze .engineReset s)) :=
  ⟨rfl, rfl, rfl, rfl, rfl, rfl⟩

theorem wakeFromDeep_main (r : WakeReason) (s : State) : MainReset s (wakeFromDeep r s) := by
  unfold wakeFromDeep recordWake
  split <;> exact ⟨rfl, rfl, rfl, rfl, rfl, rfl⟩

theorem enterDeep_main (s : State) :
    (enterDeep s).link = .reset ∧ (enterDeep s).bus = .reset ∧ (enterDeep s).panel = .resetFrom s.panel.nextId
    ∧ (enterDeep s).turn = .reset ∧ (enterDeep s).store = .resetFrom s.power.storeIdle s.store.abandoned
    ∧ (enterDeep s).executor = .reset :=
  ⟨rfl, rfl, rfl, rfl, rfl, rfl⟩

theorem fullReset_main (s : State) :
    (fullReset s).link = .reset ∧ (fullReset s).bus = .reset ∧ (fullReset s).panel = .resetFrom s.panel.nextId
    ∧ (fullReset s).turn = .reset ∧ (fullReset s).store = .resetFrom 200 s.store.abandoned
    ∧ (fullReset s).executor = .reset ∧ (fullReset s).light = .reset ∧ (fullReset s).power = .reset
    ∧ (fullReset s).sense = .reset :=
  ⟨rfl, rfl, rfl, rfl, rfl, rfl, rfl, rfl, rfl⟩

/-! ## The queue of commands -/

theorem Passes.pending (h : Passes c s b u) : u.pending = s.pending := by
  induction h with
  | _ => simp [*]

/-! ## Sparse lists -/

theorem sparseFrom_iff {β : Type} {lo : Nat} {m : List (Nat × β)} :
    sparseFrom lo m = true ↔ (∀ e ∈ m, lo ≤ e.1) ∧ m.Pairwise fun d e => d.1 < e.1 := by
  induction m generalizing lo with
  | nil => simp [sparseFrom]
  | cons e m ih =>
    simp only [sparseFrom, Bool.and_eq_true, decide_eq_true_eq, ih, List.forall_mem_cons, List.pairwise_cons]
    constructor
    · rintro ⟨first, above, rising⟩
      exact ⟨⟨first, fun x hx => Nat.le_trans first (Nat.le_of_lt (above x hx))⟩, above, rising⟩
    · rintro ⟨⟨first, -⟩, above, rising⟩
      exact ⟨first, above, rising⟩

theorem mem_sparseWeave {β τ : Type} (f : Nat → τ → Option β → β) (n : Nat) {new : List (Nat × τ)}
    {old : List (Nat × β)} {e : Nat × β} (h : e ∈ sparseWeave f n new old) :
    e ∈ old ∨ ∃ t o, (e.1, t) ∈ new ∧ e.2 = f e.1 t o := by
  induction n generalizing new old with
  | zero => exact .inl h
  | succ n ih =>
    match new, old with
    | [], old => exact .inl (by simpa [sparseWeave] using h)
    | (k, t) :: new, [] =>
      rcases List.mem_cons.mp h with rfl | h
      · exact .inr ⟨t, none, List.mem_cons_self, rfl⟩
      · obtain h | ⟨x, o, hx, he⟩ := ih h
        · exact .inl h
        · exact .inr ⟨x, o, List.mem_cons_of_mem _ hx, he⟩
    | (k, t) :: new, (j, w) :: old =>
      simp only [sparseWeave] at h
      split at h
      · rcases List.mem_cons.mp h with rfl | h
        · exact .inl List.mem_cons_self
        · exact (ih h).imp (List.mem_cons_of_mem _) id
      · split at h
        · rcases List.mem_cons.mp h with rfl | h
          · exact .inr ⟨t, some w, List.mem_cons_self, rfl⟩
          · obtain h | ⟨x, o, hx, he⟩ := ih h
            · exact .inl (List.mem_cons_of_mem _ h)
            · exact .inr ⟨x, o, List.mem_cons_of_mem _ hx, he⟩
        · rcases List.mem_cons.mp h with rfl | h
          · exact .inr ⟨t, none, List.mem_cons_self, rfl⟩
          · obtain h | ⟨x, o, hx, he⟩ := ih h
            · exact .inl h
            · exact .inr ⟨x, o, List.mem_cons_of_mem _ hx, he⟩

theorem mem_consecutive {τ : Type} {k first : Nat} {t : τ} {l : List τ} (h : (k, t) ∈ consecutive first l) : t ∈ l := by
  induction l generalizing first with
  | nil => cases h
  | cons x l ih =>
    rcases List.mem_cons.mp h with e | h
    · cases e; exact List.mem_cons_self
    · exact List.mem_cons_of_mem _ (ih h)

/-- The pixels of a rectangle on the panel rise strictly. -/
theorem Rect.pixels_rising {r : Rect} (h : r.onPanel) : r.pixels.Pairwise (· < ·) := by
  unfold Rect.pixels
  refine List.pairwise_flatMap.mpr ⟨fun row _ => ?_, ?_⟩
  · exact List.pairwise_map.mpr (List.Pairwise.imp (by omega) List.pairwise_lt_range)
  · refine List.Pairwise.imp (fun {a d} lt x hx y hy => ?_) List.pairwise_lt_range
    obtain ⟨i, hi, rfl⟩ := List.mem_map.mp hx
    obtain ⟨j, -, rfl⟩ := List.mem_map.mp hy
    have hi := List.mem_range.mp hi
    have := h.1
    omega

theorem pixelRun_wf {τ : Type} {r : Rect} (h : r.onPanel) (f : Nat → τ) :
    sparseWf (r.pixels.map fun p => (p, f p)) = true :=
  sparseFrom_iff.mpr ⟨fun _ _ => Nat.zero_le _, List.pairwise_map.mpr (Rect.pixels_rising h)⟩

/-! ## The lists of the panel -/

/-- The slots are in canonical form, and every rectangle of the slots and of the list lies on the panel. -/
structure Panel.Canonical (p : Panel) : Prop where
  slots : sparseWf p.slots = true
  rects : ∀ e ∈ p.slots, e.2.eff.onPanel
  wants : ∀ e ∈ p.pending, e.rect.onPanel

theorem Panel.Canonical.resetFrom (n : Nat) : (Panel.resetFrom n).Canonical :=
  ⟨rfl, fun _ h => (nomatch h), fun _ h => nomatch h⟩

theorem Panel.Canonical.calm {p p' : Panel} (h : p.Canonical) (k : PanelCalm p p') : p'.Canonical := by
  refine ⟨k.canonical h.slots, fun e he => ?_, fun e he => h.wants e (k.pending.subset he)⟩
  obtain ⟨d, hd, -, same⟩ := k.slots e he
  exact same ▸ h.rects d hd

theorem findStart_mem {p : Panel} {older : List Rect} {l : List Entry} {e : Entry} (h : findStart p older l = some e) : e ∈ l := by
  induction l generalizing older with
  | nil => cases h
  | cons x l ih =>
    simp only [findStart] at h
    split at h
    · cases h; exact List.mem_cons_self
    · exact List.mem_cons_of_mem _ (ih h)

theorem effective_rect (p : Panel) (e : Entry) : (effective p e).1 = fullPanel ∨ (effective p e).1 = e.rect := by
  unfold effective
  split
  · exact .inl rfl
  · split <;> exact .inr rfl

theorem Panel.startEngine_keeps (p : Panel) :
    p.startEngine.slots = p.slots ∧ p.startEngine.uncertain = p.uncertain ∧ p.startEngine.holdTime = p.holdTime := by
  unfold Panel.startEngine
  split <;> simp

theorem Panel.Canonical.started {p : Panel} (h : p.Canonical) {e : Entry} (he : e ∈ p.pending) (l : Latch) (n : Nat) :
    (p.started e l n).Canonical := by
  refine ⟨sparsePut_wf _ (Nat.zero_le _) h.slots, fun d hd => ?_, fun x hx => h.wants x (List.mem_filter.mp hx).1⟩
  rcases mem_sparsePut hd with rfl | hd
  · refine (?_ : (effective p e).1.onPanel)
    rcases effective_rect p e with k | k <;> rw [k]
    · exact fullPanel_onPanel
    · exact h.wants e he
  · exact h.rects d hd

theorem Passes.panelCanonical (h : Passes c s b u) (hs : s.panel.Canonical) : u.panel.Canonical := by
  induction h with
  | panel f _ calm ih => exact ih.calm calm
  | join e _ onPanel _ ih =>
    refine ⟨ih.slots, ih.rects, fun x hx => ?_⟩
    rcases List.mem_append.mp hx with hx | hx
    · exact ih.wants x hx
    · rw [List.mem_singleton.mp hx]; exact onPanel
  | starts e l n _ _ found _ ih => exact ih.started (findStart_mem found) l n
  | wakingFromDoze r _ _ _ _ ih =>
    rw [(wakingFromDoze_keeps r _).2.2.1]
    exact ⟨ih.slots, ih.rects, ih.wants⟩
  | enterDeep => exact .resetFrom _
  | resetFromDoze => exact .resetFrom _
  | wakeFromDeep r => rw [(wakeFromDeep_main r _).panel]; exact .resetFrom _
  | engineReset => exact .resetFrom _
  | fullReset => exact .resetFrom _
  | _ => simp [*]

/-! ## Panel state and shared memory -/

theorem Passes.pixels (h : Passes c s b u) (panel : s.panel.Canonical) (hs : sparseWf s.wm.panel = true) :
    sparseWf u.wm.panel = true := by
  induction h with
  | memory f _ calm ih => rw [State.modWm_wm, calm.panel]; exact ih
  | copied n sl image k slot ih =>
    exact sparseWrite_wf _ (pixelRun_wf ((k.panelCanonical panel).rects _ slot) _) ih
  | passed n sl retires k slot ih =>
    exact sparseWrite_wf _ (pixelRun_wf ((k.panelCanonical panel).rects _ slot) _) ih
  | enterDeep => rfl
  | resetFromDoze => rfl
  | wakeFromDeep r => rfl
  | engineReset => rfl
  | fullReset => rfl
  | _ => simp [*]

theorem pageWritten_wf (e : Bool) (page : Option (List Byte)) (h : sparseWf u.shared = true) :
    sparseWf (pageWritten e page u).shared = true := by
  unfold pageWritten
  split
  · split
    · exact h
    · exact writeShared_wf _ _ h
  · exact h

theorem headerWritten_wf (a : BusAccess) (e : Bool) (h : sparseWf u.shared = true) :
    sparseWf (headerWritten a e u).shared = true := by
  unfold headerWritten
  split
  · split
    · simpa using h
    · exact writeShared_wf _ _ h
  · split
    · simpa using h
    · dsimp only
      split
      · simpa using writeShared_wf _ _ h
      · exact writeShared_wf _ _ h
  · exact h

theorem Passes.sharedCanonical (h : Passes c s b u) (hs : sparseWf s.shared = true) : sparseWf u.shared = true := by
  induction h with
  | shared f _ _ keep ih => exact keep ih
  | headerWritten a e q => exact headerWritten_wf _ _ (by simpa using hs)
  | pageWritten e q => exact pageWritten_wf _ _ (by simpa using hs)
  | finalWritten e q => simpa using pageWritten_wf _ _ (by simpa using hs)
  | _ => simp [*]

/-! ## The block table and the array -/

/-- No listed page of the array is the one an unlisted page is. -/
def NoneFound (m : List (Nat × ArrayPage)) : Prop := ∀ e ∈ m, e.2 ≠ ArrayPage.found

theorem NoneFound.put {m : List (Nat × ArrayPage)} (h : NoneFound m) (k : Nat) {x : ArrayPage} (hx : x ≠ .found) :
    NoneFound (sparsePut k x m) := by
  intro e he
  rcases mem_sparsePut he with rfl | he
  · exact hx
  · exact h e he

theorem NoneFound.fill {m : List (Nat × ArrayPage)} (h : NoneFound m) (n : Nat) {x : ArrayPage} (hx : x ≠ .found) :
    NoneFound (fillBlock n x m) := by
  intro e he
  rcases mem_sparseWeave _ _ he with he | ⟨y, o, hy, same⟩
  · exact h e he
  · rw [same, List.eq_of_mem_replicate (mem_consecutive hy)]
    exact hx

theorem NoneFound.setField {st : Store} (h : NoneFound st.array) (n : Nat) {f : RetireField} (hf : f ≠ .found) :
    NoneFound (st.setField n f) := by
  refine h.put _ fun e => hf ?_
  exact congrArg ArrayPage.field e

theorem NoneFound.abandonedOp {st : Store} (h : NoneFound st.array) : NoneFound st.abandonedOp := by
  unfold Store.abandonedOp
  split
  · exact h.put _ (by decide)
  · exact h.setField _ (by decide)
  all_goals exact h

theorem NoneFound.abandoned {st : Store} (h : NoneFound st.array) : NoneFound st.abandoned := by
  unfold Store.abandoned
  split
  · exact h.abandonedOp.fill _ (by decide)
  · exact h.abandonedOp

/-- The block table and the array are in canonical form. -/
structure Store.Canonical (st : Store) : Prop where
  blocks : blocksWf st.blocks = true
  array  : sparseWf st.array = true
  found  : NoneFound st.array

theorem Store.Canonical.resetFrom {st : Store} (h : st.Canonical) (n : Nat) : (Store.resetFrom n st.abandoned).Canonical :=
  ⟨rfl, Store.abandoned_wf h.array, h.found.abandoned⟩

theorem Passes.storeCanonical (h : Passes c s b u) (hs : s.store.Canonical) : u.store.Canonical := by
  induction h with
  | guardChanged x => exact ⟨Store.takeGuard_blocksWf x hs.blocks, hs.array, hs.found⟩
  | enterDeep _ _ _ _ _ ih => exact ih.resetFrom _
  | resetFromDoze _ _ _ _ _ ih => exact ih.resetFrom _
  | wakeFromDeep r _ _ _ _ _ _ ih => rw [(wakeFromDeep_main r _).store]; exact ih.resetFrom _
  | engineReset _ _ _ _ ih => exact ih.resetFrom _
  | fullReset => exact hs.resetFrom _
  | store f _ calm ih =>
    rw [State.modStore_store]
    exact ⟨calm.blocks ▸ ih.blocks, calm.array ▸ ih.array, calm.array ▸ ih.found⟩
  | grant r o _ _ _ _ _ ih =>
    rw [State.modStore_store]
    exact ⟨by simpa using ih.blocks, by simpa using ih.array, by simpa using ih.found⟩
  | eraseStarts n z _ _ _ _ _ ih => exact ⟨ih.blocks, ih.array, ih.found⟩
  | post r _ _ ih => exact ⟨ih.blocks, ih.array, ih.found⟩
  | surveyed page p why z f =>
    exact ⟨Store.setFill_blocksWf (st := (endOp s).store) (by simpa using hs.blocks) _ _, by simpa using hs.array, by simpa using hs.found⟩
  | programmed p d =>
    refine ⟨Store.setFill_blocksWf (st := (endOp s).store) (by simpa using hs.blocks) (p / 64) (.mark (p % 64 + 1)),
      sparsePut_wf _ (Nat.zero_le _) (by simpa using hs.array), NoneFound.put (by simpa using hs.found) _ fun e => nomatch congrArg ArrayPage.data e⟩
  | programFailed p d =>
    exact ⟨by simpa using hs.blocks, sparsePut_wf _ (Nat.zero_le _) (by simpa using hs.array),
      NoneFound.put (by simpa using hs.found) _ (by decide)⟩
  | erased e =>
    exact ⟨Store.setFill_blocksWf (st := s.store) hs.blocks e.block (.mark 0), fillBlock_wf _ _ hs.array, hs.found.fill _ (by decide)⟩
  | eraseFailed e => exact ⟨hs.blocks, fillBlock_wf _ _ hs.array, hs.found.fill _ (by decide)⟩
  | marked n x =>
    refine ⟨Store.setFill_blocksWf (st := (endOp s).store) (by simpa using hs.blocks) n .retired,
      Store.setField_wf (by simpa using hs.array) _ _, NoneFound.setField (by simpa using hs.found) _ ?_⟩
    cases x <;> decide
  | protect cmd first n _ _ _ _ ih =>
    exact ⟨protectRange_blocksWf _ _ _ _ ih.blocks, by simpa using ih.array, by simpa using ih.found⟩
  | _ => simp [*]

theorem Canonical.of_parts {t : State} (panel : t.panel.Canonical) (store : t.store.Canonical)
    (pixels : sparseWf t.wm.panel = true) (shared : sparseWf t.shared = true) : Canonical t := by
  have blocks := store.blocks
  simp only [blocksWf, Bool.and_eq_true, List.all_eq_true, bne_iff_ne] at blocks
  exact ⟨shared, pixels, panel.slots, blocks.1, blocks.2, store.array, store.found, panel.rects, panel.wants⟩

theorem Canonical.parts {t : State} (h : Canonical t) : t.panel.Canonical ∧ t.store.Canonical := by
  refine ⟨⟨h.slots, h.rects, h.wants⟩, ?_, h.array, h.found⟩
  simp only [blocksWf, Bool.and_eq_true, List.all_eq_true, bne_iff_ne]
  exact ⟨h.blocks, h.blank⟩

end Sys2Proof.Machine
end

section
/-!
PROOFS. The items of the Power Controller stay in agreement with its state, through every rule of `Passes`.
-/

namespace Sys2Proof.Machine

open Sys2Proof

variable {c : Instr} {s u v : State} {b : Bool}

/-- The agreement of the Power Controller's items in the middle of a step: the forced-descent flag may already stand
while DEEP_ENTRY is about to be entered (03 R62). -/
structure PowerSettled (b : Bool) (u : State) : Prop where
  grace    : u.power.graceTimer ≠ none → u.power.state = .run ∧ u.power.cls = .exhausted
  doze     : u.power.dozeTimer ≠ none → u.power.state = .dozeQuiet ∨ u.power.state = .dozeTurning
  wake     : u.power.wakeTimer ≠ none → u.power.state = .dozeQuiet ∨ u.power.state = .dozeTurning
    ∨ u.power.state = .deepEntry ∨ u.power.state = .deep
  drain    : u.power.drainAsked = true → (u.power.state = .dozeEntry ∨ u.power.state = .dozeTurning)
    ∧ u.turn.state = .idle ∧ u.turn.queue = []
  descent  : u.power.descentPending = true → u.power.state = .dozeTurning ∧ u.power.drainAsked = false
    ∧ u.turn.queue = []
  forced   : u.power.forced = true → u.power.state = .deepEntry ∨ b = true
  remember : u.power.remembered ≠ none → u.power.state = .deepEntry ∨ u.power.descentPending = true
  reset    : u.power.resetPending = true → u.power.state = .waking ∧ u.wm.state = .leaving
  vddMain  : u.power.vddMain = false ↔ u.power.state = .deep

theorem PowerConsistent.settled (h : PowerConsistent s) : PowerSettled b s :=
  ⟨h.grace, h.doze, h.wake, h.drain, h.descent, fun k => .inl (h.forced k), h.remember, h.reset, h.vddMain⟩

theorem PowerSettled.consistent (h : PowerSettled false u) : PowerConsistent u :=
  ⟨h.grace, h.doze, h.wake, h.drain, h.descent, fun k => (h.forced k).resolve_right (by decide), h.remember, h.reset,
    h.vddMain⟩

theorem PowerSettled.congr (h : PowerSettled b u) (power : v.power = u.power) (turn : v.turn = u.turn)
    (memory : v.wm.state = u.wm.state) : PowerSettled b v := by
  obtain ⟨h1, h2, h3, h4, h5, h6, h7, h8, h9⟩ := h
  constructor <;> simpa only [power, turn, memory]

/-- A change of the turn, or of the memory, that keeps what the Power Controller's items rest on. -/
theorem PowerSettled.calm (h : PowerSettled b u) (power : v.power = u.power)
    (idle : u.turn.state = .idle → u.turn.queue = [] → v.turn.state = .idle)
    (empty : u.turn.queue = [] → v.turn.queue = [])
    (leaving : u.power.resetPending = true → u.wm.state = .leaving → v.wm.state = .leaving) : PowerSettled b v := by
  obtain ⟨h1, h2, h3, h4, h5, h6, h7, h8, h9⟩ := h
  constructor <;> rw [power]
  · exact h1
  · exact h2
  · exact h3
  · intro k
    obtain ⟨state, quiet, none⟩ := h4 k
    exact ⟨state, idle quiet none, empty none⟩
  · intro k
    obtain ⟨state, drain, none⟩ := h5 k
    exact ⟨state, drain, empty none⟩
  · exact h6
  · exact h7
  · intro k
    obtain ⟨state, memory⟩ := h8 k
    exact ⟨state, leaving k memory⟩
  · exact h9

theorem PowerSettled.power (h : PowerSettled b u) {f : Power → Power} (k : PowerCalm u.power (f u.power)) :
    PowerSettled b (u.modPower f) := by
  obtain ⟨h1, h2, h3, h4, h5, h6, h7, h8, h9⟩ := h
  constructor <;> rw [State.modPower_power]
  · rw [k.state, k.cls]; exact fun e => h1 (k.grace e)
  · rw [k.state]; exact fun e => h2 (k.doze e)
  · rw [k.state]; exact fun e => h3 (k.wake e)
  · rw [k.state]; exact fun e => h4 (k.drain e)
  · rw [k.state, k.descent]
    intro e
    obtain ⟨state, drain, empty⟩ := h5 e
    exact ⟨state, Bool.eq_false_iff.mpr fun x => Bool.eq_false_iff.mp drain (k.drain x), empty⟩
  · rw [k.state, k.forced]; exact h6
  · rw [k.state, k.descent]; exact fun e => h7 (k.remember e)
  · rw [k.state]; exact fun e => h8 (k.reset e)
  · rw [k.state, k.vddMain]; exact h9

theorem WorkMem.askSelfRefresh_leaving {w : WorkMem} (h : w.state = .leaving) : w.askSelfRefresh.state = .leaving := by
  simp [WorkMem.askSelfRefresh, h]

/-- In a power state that the items named do not use, none of them stands. -/
theorem PowerSettled.idle_items (h : PowerSettled false u) :
    (u.power.state ≠ .run → u.power.graceTimer = none) ∧ (u.power.state ≠ .deepEntry → u.power.forced = false)
    ∧ (u.power.state ≠ .waking → u.power.resetPending = false)
    ∧ (u.power.state ≠ .dozeTurning → u.power.descentPending = false) := by
  refine ⟨fun e => Decidable.byContradiction fun k => e (h.grace k).1, fun e => Bool.eq_false_iff.mpr fun k => ?_,
    fun e => Bool.eq_false_iff.mpr fun k => e (h.reset k).1,
    fun e => Bool.eq_false_iff.mpr fun k => e (h.descent k).1⟩
  exact e ((h.forced k).resolve_right (by decide))

theorem PowerSettled.dozeQuiet (h : PowerSettled false u) : PowerSettled false (reachDozeQuiet u) := by
  unfold reachDozeQuiet
  split
  · next reached =>
    simp only [Bool.and_eq_true] at reached
    obtain ⟨doze, -, -⟩ := h.drain reached.1.1
    obtain ⟨grace, forced, reset, -⟩ := h.idle_items
    have descent : u.power.descentPending = false :=
      Bool.eq_false_iff.mpr fun k => Bool.eq_false_iff.mp (h.descent k).2.1 reached.1.1
    have remembered : u.power.remembered = none := Decidable.byContradiction fun k =>
      (h.remember k).elim (fun e => by rw [e] at doze; exact doze.elim nofun nofun) fun e => by rw [descent] at e; cases e
    have on : u.power.vddMain = true := by
      refine Bool.of_not_eq_false fun k => ?_
      rw [h.vddMain.mp k] at doze
      exact doze.elim nofun nofun
    have grace := grace (by rintro e; rw [e] at doze; exact doze.elim nofun nofun)
    have forced := forced (by rintro e; rw [e] at doze; exact doze.elim nofun nofun)
    have reset := reset (by rintro e; rw [e] at doze; exact doze.elim nofun nofun)
    constructor <;> simp only [setPower, State.modPower_power, State.modSense_power] <;> split <;>
      simp [grace, forced, reset, descent, remembered, on]
  · exact h

theorem PowerSettled.ne_deep (h : PowerSettled b u) (e : u.power.state ≠ .deep) : u.power.vddMain = true :=
  Bool.of_not_eq_false fun k => e (h.vddMain.mp k)

theorem PowerSettled.toDeepEntry (h : PowerSettled b u) (consistent : PowerConsistent s)
    (may : MayDescend s u.power) : PowerSettled false u.toDeepEntry := by
  have down : u.power.state ≠ .deep ∧ u.power.state ≠ .waking ∧ u.power.graceTimer = none := by
    rcases may with k | ⟨apart, run⟩
    · obtain ⟨state, -, -⟩ := h.descent k
      exact ⟨by simp [state], by simp [state], Decidable.byContradiction fun e => by simp [(h.grace e).1] at state⟩
    · refine ⟨(apart consistent).1, (apart consistent).2, Decidable.byContradiction fun e => ?_⟩
      obtain ⟨state, cls⟩ := h.grace e
      rcases run state with k | k | k
      · exact e k
      · exact k cls
      · rcases h.doze k with k | k <;> simp [k] at state
  obtain ⟨deep, waking, grace⟩ := down
  have reset : u.power.resetPending = false := Bool.eq_false_iff.mpr fun k => waking (h.reset k).1
  constructor <;> simp [grace, reset, h.ne_deep deep]

theorem PowerSettled.enterDeep (h : PowerSettled false u) (state : u.power.state = .deepEntry)
    (remembered : u.power.remembered = none) : PowerSettled false (enterDeep u) := by
  obtain ⟨grace, -, reset, descent⟩ := h.idle_items
  have doze : u.power.dozeTimer = none := Decidable.byContradiction fun k => by
    rcases h.doze k with k | k <;> simp [k] at state
  constructor <;> simp [Machine.enterDeep, wmUnpower, resetMain, setPower, powerOffArray, state, remembered,
    grace (by simp [state]), reset (by simp [state]), descent (by simp [state]), doze]

theorem PowerSettled.wakingFromDoze (h : PowerSettled false u) (r : WakeReason) (doze : InDoze u)
    (calm : u.power.descentPending = false)
    (memory : r = .engineReset → u.wm.state = .selfRefresh ∨ u.wm.state = .leaving) :
    PowerSettled false (wakingFromDoze r u) := by
  obtain ⟨grace, forced, -, -⟩ := h.idle_items
  have apart : u.power.state ≠ .run ∧ u.power.state ≠ .deepEntry ∧ u.power.state ≠ .deep := by
    rcases doze with e | e | e <;> simp [e]
  have remembered : u.power.remembered = none := Decidable.byContradiction fun k =>
    (h.remember k).elim apart.2.1 fun e => by rw [calm] at e; cases e
  have power : (Machine.wakingFromDoze r u).power = { u.power with
      wakeReason := r, dozeTimer := none, wakeTimer := none, drainAsked := false,
      resetPending := r == .engineReset, state := .waking } := by
    simp only [Machine.wakingFromDoze, leaveSelfRefresh, setPower, recordWake]
    split <;> rfl
  constructor <;> simp only [power]
  case reset =>
    intro e
    exact ⟨trivial, by rw [wakingFromDoze_wm]; exact WorkMem.leave_leaving.mpr (memory (by simpa using e))⟩
  all_goals simp [grace apart.1, forced apart.2.1, remembered, calm, h.ne_deep apart.2.2]

theorem PowerSettled.resetFromDoze (h : PowerSettled false u) (doze : InDoze u) :
    PowerSettled false (engineReset (Machine.wakingFromDoze .engineReset u)) := by
  obtain ⟨grace, -, -, -⟩ := h.idle_items
  have apart : u.power.state ≠ .run ∧ u.power.state ≠ .deep := by rcases doze with e | e | e <;> simp [e]
  have power : (engineReset (Machine.wakingFromDoze .engineReset u)).power = { u.power.engineReset with
      wakeReason := .engineReset, state := .waking } := rfl
  constructor <;> simp [power, Power.engineReset, grace apart.1, h.ne_deep apart.2]

theorem wakeFromDeep_power (r : WakeReason) (x : State) : (wakeFromDeep r x).power = { x.power with
    wakeReason := r, wakeTimer := none, remembered := none, vddMain := true, state := .waking } := by
  unfold wakeFromDeep recordWake
  split <;> rfl

theorem PowerSettled.wakeFromDeep (h : PowerSettled false u) (r : WakeReason) (deep : u.power.state = .deep) :
    PowerSettled false (wakeFromDeep r u) := by
  obtain ⟨grace, forced, reset, descent⟩ := h.idle_items
  have doze : u.power.dozeTimer = none := Decidable.byContradiction fun k => by
    rcases h.doze k with k | k <;> simp [k] at deep
  have drain : u.power.drainAsked = false := Bool.eq_false_iff.mpr fun k => by
    rcases (h.drain k).1 with k | k <;> simp [k] at deep
  constructor <;> rw [wakeFromDeep_power] <;> simp [grace (by simp [deep]), forced (by simp [deep]),
    reset (by simp [deep]), descent (by simp [deep]), doze, drain]

theorem PowerSettled.engineReset (h : PowerSettled false u)
    (on : u.power.state = .run ∨ u.power.state = .waking) : PowerSettled false (engineReset u) := by
  have power : (Machine.engineReset u).power = u.power.engineReset := rfl
  have deep : u.power.state ≠ .deep := by rcases on with e | e <;> simp [e]
  constructor <;> rw [power] <;> simp [Power.engineReset, h.ne_deep deep, deep]
  exact h.grace

/-- A change of power state between two that use none of the items that stand. -/
theorem PowerSettled.setPower (h : PowerSettled false u) {q : PowerState} (old : u.power.state ≠ .deep)
    (new : q ≠ .deep) (grace : u.power.graceTimer = none)
    (doze : u.power.dozeTimer ≠ none → q = .dozeQuiet ∨ q = .dozeTurning)
    (wake : u.power.wakeTimer ≠ none → q = .dozeQuiet ∨ q = .dozeTurning ∨ q = .deepEntry)
    (drain : u.power.drainAsked = false) (descent : u.power.descentPending = false)
    (forced : u.power.forced = false) (remembered : u.power.remembered = none)
    (reset : u.power.resetPending = false) : PowerSettled false (setPower q u) := by
  constructor <;> simp only [Machine.setPower, State.modPower_power, State.modSense_power]
  · simp [grace]
  · exact doze
  · exact fun e => (wake e).imp id (·.imp id .inl)
  all_goals simp [drain, descent, forced, remembered, reset, h.ne_deep old, new]

/-- In RUN, WAKING and DOZE_QUIET no drain, no descent, no wake remembered and no forced descent stands. -/
theorem PowerSettled.none_asked (h : PowerSettled false u)
    (on : u.power.state = .run ∨ u.power.state = .waking ∨ u.power.state = .dozeQuiet) :
    u.power.drainAsked = false ∧ u.power.descentPending = false ∧ u.power.forced = false
      ∧ u.power.remembered = none := by
  obtain ⟨-, forced, -, descent⟩ := h.idle_items
  have apart : u.power.state ≠ .dozeTurning ∧ u.power.state ≠ .deepEntry ∧ u.power.state ≠ .dozeEntry := by
    rcases on with e | e | e <;> simp [e]
  have descent := descent apart.1
  refine ⟨Bool.eq_false_iff.mpr fun k => (h.drain k).1.elim apart.2.2 apart.1, descent, forced apart.2.1,
    Decidable.byContradiction fun k => ?_⟩
  exact (h.remember k).elim apart.2.1 fun e => by rw [descent] at e; cases e

theorem Passes.powerSettled (h : Passes c s b u) (hs : PowerConsistent s) : PowerSettled b u := by
  have start : PowerSettled false s := hs.settled
  induction h with
  | start => exact start
  | memory f _ calm ih => exact ih.congr rfl rfl calm.state
  | askSelfRefresh _ ih => exact ih.calm rfl (fun e _ => e) id fun _ => WorkMem.askSelfRefresh_leaving
  | leaveSelfRefresh _ ih =>
    exact ih.calm rfl (fun e _ => e) id fun _ e => WorkMem.leave_leaving.mpr (.inr e)
  | activated still =>
    refine hs.settled.calm rfl (fun e _ => e) id fun pending leaving => ?_
    rcases still with e | e
    · rw [pending] at e; cases e
    · exact absurd leaving e
  | selfRefreshed entering =>
    refine hs.settled.calm rfl (fun e _ => e) id fun _ leaving => ?_
    rw [entering] at leaving; cases leaving
  | turn f _ calm ih =>
    exact ih.calm rfl calm.quiet
      (fun e => List.eq_nil_of_length_eq_zero (Nat.le_zero.mp (by simpa [e] using calm.queue))) fun _ => id
  | joinKey k _ _ descent drain ih =>
    obtain ⟨h1, h2, h3, h4, h5, h6, h7, h8, h9⟩ := ih
    exact ⟨h1, h2, h3, fun e => by simp [drain] at e, fun e => by simp [descent] at e, h6, h7, h8, h9⟩
  | relist f _ _ empty idle _ _ _ ih => exact ih.calm rfl (fun e _ => idle e) (fun _ => empty) fun _ => id
  | turnLost _ ih => exact ih.calm rfl (fun e _ => e) id fun _ => id
  | cls cl _ _ _ _ ih =>
    obtain ⟨h1, h2, h3, h4, h5, h6, h7, h8, h9⟩ := ih
    refine ⟨?_, h2, h3, h4, h5, h6, h7, h8, h9⟩
    simp only [(State.withClass_keeps cl _).2.2.2.2.2.2.2.2.2.2.2.2.2]
    split
    · next e => exact fun k => ⟨(h1 k).1, e⟩
    · exact fun k => absurd rfl k
  | power f _ calm ih => exact ih.power calm
  | remember r _ may ih =>
    obtain ⟨h1, h2, h3, h4, h5, h6, h7, h8, h9⟩ := ih
    exact ⟨h1, h2, h3, h4, h5, h6, fun _ => may, h8, h9⟩
  | grace _ run cls ih =>
    obtain ⟨h1, h2, h3, h4, h5, h6, h7, h8, h9⟩ := ih
    exact ⟨fun _ => ⟨run, cls⟩, h2, h3, h4, h5, h6, h7, h8, h9⟩
  | drain _ state apart idle empty ih =>
    obtain ⟨h1, h2, h3, h4, h5, h6, h7, h8, h9⟩ := ih
    refine ⟨h1, h2, h3, fun _ => ⟨state, idle, empty⟩, fun k => ?_, h6, h7, h8, h9⟩
    have k : _ = true := k
    rcases apart with e | e
    · rw [State.modPower_power, e] at k; cases k
    · have := (h5 k).1; rw [e] at this; cases this
  | descentWaits _ state empty decoding ih =>
    obtain ⟨h1, h2, h3, h4, h5, h6, h7, h8, h9⟩ := ih
    refine ⟨h1, h2, h3, h4, fun _ => ⟨state, Bool.eq_false_iff.mpr fun k => ?_, empty⟩, h6, fun _ => .inr rfl, h8, h9⟩
    simp [Turn.decoding, (h4 k).2.1] at decoding
  | dozeQuiet _ ih => exact ih.dozeQuiet
  | dozeTurning _ state ih =>
    obtain ⟨grace, -, reset, -⟩ := ih.idle_items
    obtain ⟨drain, descent, forced, remembered⟩ := ih.none_asked (.inr (.inr state))
    exact ih.setPower (by simp [state]) (by decide) (grace (by simp [state])) (fun _ => .inr rfl)
      (fun _ => .inr (.inl rfl)) drain descent forced remembered (reset (by simp [state]))
  | dozeEntry _ state cls ih =>
    obtain ⟨-, -, reset, -⟩ := ih.idle_items
    obtain ⟨drain, descent, forced, remembered⟩ := ih.none_asked (.inl state)
    refine ih.setPower (by simp [state]) (by decide) (Decidable.byContradiction fun k => cls (ih.grace k).2)
      (fun k => ?_) (fun k => ?_) drain descent forced remembered (reset (by simp [state]))
    · rcases ih.doze k with e | e <;> simp [e] at state
    · rcases ih.wake k with e | e | e | e <;> simp [e] at state
  | force d _ may ih =>
    obtain ⟨h1, h2, h3, h4, h5, h6, h7, h8, h9⟩ := ih
    exact ⟨h1, h2, fun k => absurd rfl k, h4, h5, fun _ => may.symm, h7, h8, h9⟩
  | deepEntry _ may ih => exact ih.toDeepEntry hs may
  | enterDeep _ state remembered _ _ ih => exact ih.enterDeep state remembered
  | run _ _ state reset ih =>
    obtain ⟨grace, -, -, -⟩ := ih.idle_items
    obtain ⟨drain, descent, forced, remembered⟩ := ih.none_asked (.inr (.inl state))
    refine ih.setPower (by simp [state]) (by decide) (grace (by simp [state])) (fun k => ?_) (fun k => ?_)
      drain descent forced remembered reset
    · rcases ih.doze k with e | e <;> simp [e] at state
    · rcases ih.wake k with e | e | e | e <;> simp [e] at state
  | wakingFromDoze r _ doze calm memory ih => exact ih.wakingFromDoze r doze calm memory
  | resetFromDoze _ doze _ _ _ ih => exact ih.resetFromDoze doze
  | wakeFromDeep r _ deep _ _ _ _ ih => exact ih.wakeFromDeep r deep
  | engineReset _ on _ _ ih => exact ih.engineReset (on.imp id fun k => (k hs).2)
  | fullReset => exact ⟨fun k => absurd rfl k, fun k => absurd rfl k, fun k => absurd rfl k, nofun, nofun, nofun,
      fun k => absurd rfl k, nofun, (by decide : Power.reset.vddMain = false ↔ Power.reset.state = .deep)⟩
  | copied n sl image _ _ ih => exact ih.congr rfl rfl rfl
  | passed n sl x _ _ ih => exact ih.congr rfl rfl rfl
  | _ => exact PowerSettled.congr (by assumption) (by simp) (by simp) (by simp)

end Sys2Proof.Machine
end

section
/-!
PROOFS. The rules of the whole part that speak of the queue, the canonical lists, the light, the Power Controller, the
supply class and DEEP.
-/

namespace Sys2Proof.Machine

open Sys2Proof

variable {c : Instr} {s t u : State} {b : Bool}

/-! ## From a step to the rules -/

/-- What a command answers: a state that its meaning comes to by the rules, the port settled. -/
theorem exec_passes (h : exec c s = .next t) : ∃ u, Passes c s false u ∧ t = settlePort s u := by
  obtain ⟨u, e, passes⟩ := exec_answers c s
  rw [e] at h
  cases h
  exact ⟨u, passes, rfl⟩

/-- A step idles, or is the command at the front of the queue, run on the queue's rest. -/
theorem step_passes (h : step s = .next t) : t = s ∨ ∃ c u, Passes c s.rest false u ∧ t = settlePort s.rest u := by
  unfold step at h
  split at h
  · cases h; exact .inl rfl
  · next c l _ =>
    obtain ⟨u, passes, e⟩ := exec_passes h
    exact .inr ⟨c, u, passes, e⟩

/-- Settles O1. -/
theorem stepTakesFront : Obligations.StepTakesFront := by
  refine ⟨fun s => ⟨fun c l h => ?_, fun h => ?_⟩, fun c s => ?_⟩
  · simp [step, h, State.rest]
  · simp [step, h]
  · obtain ⟨u, e, passes⟩ := exec_answers c s
    obtain ⟨t, -, next, same, -⟩ := commit_spec s u
    refine ⟨t, e.trans next, ?_⟩
    rw [same]
    exact passes.pending

/-! ## Full Reset's values -/

theorem lightBounded_reset : LightBounded Light.reset .normal := by constructor <;> decide

/-- Settles O52, invariant by invariant. -/
theorem resetMeetsInvariants : Obligations.ResetMeetsInvariants := by
  have link : LinkAgrees State.reset := by
    refine ⟨fun i => ?_, nofun, Nat.le_refl _, fun _ i => rfl, nofun⟩
    cases i <;> exact ⟨Nat.zero_le _, Nat.zero_le _, nofun, nofun, nofun, nofun, fun _ => .inl rfl⟩
  have settings : SettingsInRange State.reset := by
    constructor
    case curve => exact nofun
    case batt | therm | amb => constructor <;> decide
    all_goals decide
  have store : State.reset.store.Canonical := ⟨rfl, rfl, fun _ h => nomatch h⟩
  refine ⟨.of_parts (.resetFrom 0) store rfl rfl, lightBounded_reset, ?_, settings, fun _ _ h => (nomatch h), link, ?_,
    fun h => absurd rfl h, ?_⟩
  · exact ⟨by decide, by decide, fun _ h => (nomatch h), by decide, by decide, by decide, by decide, by decide,
      fun _ h => (nomatch h), fun _ _ h => (nomatch h)⟩
  · exact ⟨fun k => absurd rfl k, fun k => absurd rfl k, fun k => absurd rfl k, fun h => (nomatch h), fun h => (nomatch h),
      fun h => (nomatch h), fun k => absurd rfl k, fun h => (nomatch h),
      (by decide : Power.reset.vddMain = false ↔ Power.reset.state = .deep)⟩
  · refine ⟨rfl, fun _ h => (nomatch h), fun h => absurd rfl h, ?_, fun _ _ h => (nomatch h), fun _ _ h => (nomatch h),
      fun _ _ h => (nomatch h), fun _ _ h => (nomatch h), fun _ _ _ h => (nomatch h)⟩
    rintro (k | k | ⟨o, k, -⟩)
    · exact absurd rfl k
    · exact absurd rfl k
    · cases k

/-! ## The canonical lists and the light -/

/-- Settles O53: the lists of the panel, the store, panel state and shared memory, each by the rules. -/
theorem stepKeepsCanonical : Obligations.StepKeepsCanonical := by
  intro s t hs h
  rcases step_passes h with rfl | ⟨c, u, passes, rfl⟩
  · exact hs
  · have panel : s.rest.panel.Canonical := hs.parts.1
    have store : s.rest.store.Canonical := hs.parts.2
    exact .of_parts (by simpa using passes.panelCanonical panel) (by simpa using passes.storeCanonical store)
      (by simpa using passes.pixels panel hs.pixels) (by simpa using passes.sharedCanonical hs.shared)

theorem Passes.lightBounded (h : Passes c s b u) (hs : LightBounded s.light s.power.cls) :
    LightBounded u.light u.power.cls := by
  induction h with
  | light f _ keep ih => exact keep ih
  | cls cl _ _ _ _ ih => simpa using ih.takeClass cl
  | power f _ calm ih => simpa [calm.cls] using ih
  | fullReset => exact lightBounded_reset
  | grace _ _ _ ih => exact ih
  | _ => simp [*]

/-- Settles O54: every rule that changes the light or the class keeps the light under the ceiling. -/
theorem stepKeepsLightBounded : Obligations.StepKeepsLightBounded := by
  intro s t hs h
  rcases step_passes h with rfl | ⟨c, u, passes, rfl⟩
  · exact hs
  · simpa using passes.lightBounded hs

/-! ## The Power Controller -/

/-- Settles O56: the agreement holds in the middle of a step, and with it at its end. -/
theorem stepKeepsPowerConsistent : Obligations.StepKeepsPowerConsistent := by
  intro s t hs h
  rcases step_passes h with rfl | ⟨c, u, passes, rfl⟩
  · exact hs
  · have hs : PowerConsistent s.rest := ⟨hs.1, hs.2, hs.3, hs.4, hs.5, hs.6, hs.7, hs.8, hs.9⟩
    exact ((passes.powerSettled hs).congr (by simp) (by simp) (by simp)).consistent

/-! ## The supply class and DEEP -/

/-- The end of a sweep that a conversion brings. -/
def EndsSweep (c : Instr) (s : State) : Prop :=
  ∃ raw w, c = .conversionEnd raw ∧ s.sense.sweep = some w ∧ w.stage = .signal ∧ w.nextChannel = none

theorem Passes.cls_kept (h : Passes c s b u) (hc : c ≠ .fullReset) :
    u.power.cls = s.power.cls ∨ (u.power.seen = true ∧ EndsSweep c s) := by
  induction h with
  | start => exact .inl rfl
  | protect _ _ _ _ _ _ _ ih => exact ih
  | cls cl _ _ seen event => exact .inr ⟨by simpa using seen, event⟩
  | power f _ calm ih => exact ih.imp calm.cls.trans fun k => ⟨calm.seen k.1, k.2⟩
  | fullReset e => exact absurd e hc
  | wakeFromDeep r _ _ _ _ _ _ ih => rw [wakeFromDeep_power]; exact ih
  | resetFromDoze _ _ _ _ _ ih => exact ih
  | enterDeep _ _ _ _ _ ih => exact ih
  | engineReset _ _ _ _ ih => exact ih
  | remember r _ _ ih => exact ih
  | grace _ _ _ ih => exact ih
  | drain _ _ _ _ _ ih => exact ih
  | descentWaits _ _ _ _ ih => exact ih
  | dozeEntry _ _ _ ih => exact ih
  | dozeTurning _ _ ih => exact ih
  | run _ _ _ _ ih => exact ih
  | @dozeQuiet u _ ih =>
    have seen : (reachDozeQuiet u).power.seen = u.power.seen := by
      unfold reachDozeQuiet
      split
      · simp only [setPower, State.modPower_power, State.modSense_power]
        split <;> rfl
      · rfl
    simpa [seen] using ih
  | _ => simp [*]

/-- The part has left DEEP by a wake: WAKING, VDD_MAIN on, working memory brought up anew (03 R59, R60). -/
structure Woken (s u : State) : Prop where
  state     : u.power.state = .waking
  vddMain   : u.power.vddMain = true
  memory    : u.wm.state = .initialising
  epoch     : u.wm.epoch = s.wm.epoch + 1
  reason    : u.power.wakeReason = .power ∨ u.power.wakeReason = .coverOpen ∨ u.power.wakeReason = .charger
    ∨ u.power.wakeReason = .timer ∨ u.power.wakeReason = .attach
  exhausted : s.power.cls = .exhausted → u.power.wakeReason = .charger

/-- What a step from DEEP comes to: DEEP still, the contents named as before, or a wake. -/
def DeepOrWoken (s u : State) : Prop := (u.power.state = .deep ∧ u.wm.epoch = s.wm.epoch) ∨ Woken s u

theorem DeepOrWoken.congr {v : State} (h : DeepOrWoken s u) (state : v.power.state = u.power.state)
    (vddMain : v.power.vddMain = u.power.vddMain) (reason : v.power.wakeReason = u.power.wakeReason)
    (memory : u.wm.state = .initialising → v.wm.state = .initialising) (epoch : v.wm.epoch = u.wm.epoch) :
    DeepOrWoken s v := by
  refine h.imp (fun ⟨deep, same⟩ => ⟨state.trans deep, epoch.trans same⟩) fun k => ?_
  exact ⟨state.trans k.state, vddMain.trans k.vddMain, memory k.memory, epoch.trans k.epoch, reason ▸ k.reason,
    reason ▸ k.exhausted⟩

theorem DeepOrWoken.states (h : DeepOrWoken s u) : u.power.state = .deep ∨ u.power.state = .waking :=
  h.imp And.left Woken.state

theorem WakeReason.of_reachesDeep {r : WakeReason} (h : r.reachesDeep = true) :
    r = .power ∨ r = .coverOpen ∨ r = .charger ∨ r = .timer ∨ r = .attach := by
  cases r <;> simp_all [WakeReason.reachesDeep]

theorem reachDozeQuiet_of_not_drain {x : State} (h : x.power.drainAsked = false) : reachDozeQuiet x = x := by
  simp [reachDozeQuiet, h]

theorem EndsSweep.not_resetsMain (h : EndsSweep c s) : c.wellFormed = true ∧ ¬ ResetsMain c := by
  obtain ⟨raw, w, rfl, -⟩ := h
  exact ⟨rfl, by simp [ResetsMain]⟩

theorem Passes.deepOrWoken (h : Passes c s b u) (hc : c ≠ .fullReset) (consistent : PowerConsistent s)
    (deep : s.power.state = .deep) : DeepOrWoken s u := by
  have start : DeepOrWoken s s := .inl ⟨deep, rfl⟩
  have apart {x : State} (k : DeepOrWoken s x) {q : PowerState} (hq : x.power.state = q) (hd : q ≠ .deep)
      (hw : q ≠ .waking) : False :=
    k.states.elim (fun e => hd (hq.symm.trans e)) fun e => hw (hq.symm.trans e)
  induction h with
  | start => exact start
  | fullReset e => exact absurd e hc
  | memory f _ calm ih => exact ih.congr rfl rfl rfl (fun e => calm.state.trans e) calm.epoch
  | askSelfRefresh _ ih =>
    refine ih.congr rfl rfl rfl (fun e => ?_) ?_ <;>
      simp only [Machine.askSelfRefresh, State.modWm_wm, WorkMem.askSelfRefresh]
    · rw [e]
    · split <;> rfl
  | leaveSelfRefresh _ ih =>
    refine ih.congr rfl rfl rfl (fun e => ?_) ?_ <;> simp only [Machine.leaveSelfRefresh, State.modWm_wm, WorkMem.leave]
    · rw [e]
    · split <;> rfl
  | activated => exact .inl ⟨deep, by simp [WorkMem.activate]⟩
  | selfRefreshed => exact .inl ⟨deep, rfl⟩
  | copied n sl image _ _ ih => exact ih.congr rfl rfl rfl id rfl
  | passed n sl x _ _ ih => exact ih.congr rfl rfl rfl id rfl
  | power f _ calm ih => exact ih.congr calm.state calm.vddMain calm.reason id rfl
  | cls cl _ _ _ _ ih => exact ih.congr rfl rfl rfl id rfl
  | dozeQuiet k ih =>
    rw [reachDozeQuiet_of_not_drain]
    · exact ih
    · refine Bool.eq_false_iff.mpr fun e => ?_
      rcases ((k.powerSettled consistent).drain e).1 with q | q <;> exact apart ih q (by decide) (by decide)
  | dozeTurning _ state ih => exact (apart ih state (by decide) (by decide)).elim
  | dozeEntry _ state _ ih => exact (apart ih state (by decide) (by decide)).elim
  | remember r _ _ ih => exact ih.congr rfl rfl rfl id rfl
  | grace _ state _ ih => exact (apart ih state (by decide) (by decide)).elim
  | drain _ _ _ _ _ ih => exact ih.congr rfl rfl rfl id rfl
  | descentWaits _ state _ _ ih => exact (apart ih state (by decide) (by decide)).elim
  | force d _ _ ih => exact ih.congr rfl rfl rfl id rfl
  | deepEntry k may ih =>
    rcases may with e | ⟨e, -⟩
    · exact (apart ih ((k.powerSettled consistent).descent e).1 (by decide) (by decide)).elim
    · exact (ih.states.elim (e consistent).1 (e consistent).2).elim
  | enterDeep _ state _ _ _ ih => exact (apart ih state (by decide) (by decide)).elim
  | run _ e => rw [deep] at e; cases e
  | wakingFromDoze r _ doze _ _ ih =>
    rcases doze with q | q | q <;> exact (apart ih q (by decide) (by decide)).elim
  | resetFromDoze _ doze _ _ _ ih =>
    rcases doze with q | q | q <;> exact (apart ih q (by decide) (by decide)).elim
  | engineReset _ on _ _ ih =>
    rcases on with q | q
    · exact (apart ih q (by decide) (by decide)).elim
    · rw [deep] at q; exact nomatch (q consistent).1
  | wakeFromDeep r k state reaches exhausted _ resets ih =>
    have epoch := (ih.resolve_right fun woken => by rw [woken.state] at state; cases state).2
    have same := (k.cls_kept hc).resolve_right fun e => by
      obtain ⟨wf, not⟩ := e.2.not_resetsMain
      exact not (resets wf)
    refine .inr ⟨?_, ?_, rfl, ?_, ?_, fun e => ?_⟩
    · rw [wakeFromDeep_power]
    · rw [wakeFromDeep_power]
    · rw [← epoch]
      unfold Machine.wakeFromDeep recordWake
      split <;> rfl
    · rw [wakeFromDeep_power]; exact WakeReason.of_reachesDeep reaches
    · rw [wakeFromDeep_power]; exact exhausted (same.trans e)
  | _ => exact DeepOrWoken.congr (by assumption) (by simp) (by simp) (by simp) (by simp) (by simp)

/-- Settles O60: the class by the one rule that changes it, DEEP by the rules that leave it. -/
theorem classAndDeepRules : Obligations.ClassAndDeepRules := by
  intro c s t h hc
  obtain ⟨u, passes, rfl⟩ := exec_passes h
  obtain ⟨-, -, -, power, memory, -⟩ := settlePort_keeps s u
  rw [power, memory]
  refine ⟨(passes.cls_kept hc).resolve_left, fun consistent deep left => ?_⟩
  have woken := (passes.deepOrWoken hc consistent deep).resolve_left fun k => left k.1
  exact ⟨woken.state, woken.vddMain, woken.memory, woken.epoch, woken.reason, woken.exhausted⟩

end Sys2Proof.Machine
end

section
/-!
PROOFS. The store and the turn-ahead list: `StoreAgrees` does not say for what a waiting raw read is made, and so a step
does not keep it. A state in which a mark check waits although the executor is not ERASING agrees, and once the array is
up the check is in flight outside ERASING.
-/

namespace Sys2Proof.Machine

open Sys2Proof

/-- The array powers up for a mark check, while the executor is CHECKING. -/
def strayMarkCheck : State :=
  { State.reset with
      store := { Store.resetFrom 200 [] with power := .poweringUp, ex := some (.raw 0 .erase) },
      executor := { Executor.reset with phase := .checking } }

theorem strayMarkCheck_agrees : StoreAgrees strayMarkCheck where
  blocks := rfl
  flight := fun _ h => nomatch h
  erase := fun h => absurd rfl h
  phase := fun _ => ⟨by decide, by decide, by decide, by decide, by decide⟩
  request := fun _ _ h => nomatch h
  check := fun _ _ h => nomatch h
  program := fun _ _ h => nomatch h
  asked := by
    rintro p why h
    cases h
    rfl
  raw := fun _ _ _ h => nomatch h

/-- Refutes O59: a mark check that waits while the executor is CHECKING is granted when the array is up, and a mark
check in flight belongs to an ERASING record. -/
theorem not_erasesSpareTheList : ¬ Obligations.ErasesSpareTheList := by
  intro claim
  obtain ⟨agrees, -⟩ := claim .arrayPowerUpEnd strayMarkCheck
    (settlePort strayMarkCheck (serveStore (strayMarkCheck.modStore fun st => { st with power := .on })))
    strayMarkCheck_agrees rfl
  have phase := (agrees.check 0 false (by simp; rfl)).1
  simp at phase
  exact nomatch phase

end Sys2Proof.Machine
end

section
/-!
PROOFS. The array, the block table, shared memory and the causes change only by the rules that write them.
-/

namespace Sys2Proof.Machine

open Sys2Proof

variable {c : Instr} {s t u : State} {b : Bool}

/-! ## The array (09 R164, R176 to R178, R182) -/

/-- A page of an array, by its number. -/
def pageIn (m : List (Nat × ArrayPage)) (x : Nat) : ArrayPage := (sparseGet x m).getD .found

theorem Store.page_eq (st : Store) (x : Nat) : st.page x = pageIn st.array x := rfl

theorem pageIn_put (m : List (Nat × ArrayPage)) (p x : Nat) (y : ArrayPage) :
    pageIn (sparsePut p y m) x = if x = p then y else pageIn m x := by
  unfold pageIn
  split
  · next e => subst e; simp
  · next e => rw [sparseGet_put_other e]

theorem pageIn_fill {m : List (Nat × ArrayPage)} (wf : sparseWf m = true) (n x : Nat) (y : ArrayPage) :
    pageIn (fillBlock n y m) x = if x / 64 = n then y else pageIn m x := by
  unfold pageIn
  rw [sparseGet_fillBlock n x y wf]
  split <;> rfl

/-- The page is a target of what the Store Controller has in flight, the mark write's in its retirement field alone. -/
def Targeted (st : Store) (x : Nat) (y : ArrayPage) : Prop :=
  (∃ d, st.op = some (.program x d)) ∨ (∃ n, st.op = some (.mark n) ∧ x = n * 64 ∧ y.data = (st.page x).data)
    ∨ ∃ e, st.erase = some e ∧ x / 64 = e.block

/-- An array that differs from a store's at the targets alone. -/
def OnlyTargets (st : Store) (m : List (Nat × ArrayPage)) : Prop :=
  ∀ x, pageIn m x ≠ st.page x → Targeted st x (pageIn m x)

theorem OnlyTargets.same (st : Store) : OnlyTargets st st.array := fun _ h => absurd rfl h

theorem OnlyTargets.program {st : Store} {p : Nat} {d : List Byte} (h : st.op = some (.program p d)) (y : ArrayPage) :
    OnlyTargets st (sparsePut p y st.array) := by
  intro x changed
  rw [pageIn_put] at changed ⊢
  split at changed
  · next e => subst e; exact .inl ⟨d, h⟩
  · exact absurd rfl changed

theorem OnlyTargets.mark {st : Store} {n : Nat} (h : st.op = some (.mark n)) (f : RetireField) :
    OnlyTargets st (st.setField n f) := by
  intro x changed
  unfold Store.setField at changed ⊢
  rw [pageIn_put] at changed ⊢
  split at changed
  · next e => subst e; exact .inr (.inl ⟨n, h, rfl, by simp⟩)
  · exact absurd rfl changed

theorem OnlyTargets.fill {st : Store} {e : Erase} {m : List (Nat × ArrayPage)} (h : st.erase = some e)
    (wf : sparseWf m = true) (k : OnlyTargets st m) (y : ArrayPage) : OnlyTargets st (fillBlock e.block y m) := by
  intro x changed
  rw [pageIn_fill wf] at changed ⊢
  split
  · next at_block => exact .inr (.inr ⟨e, h, at_block⟩)
  · next apart =>
    rw [if_neg apart] at changed
    exact k x changed

theorem OnlyTargets.abandonedOp (st : Store) : OnlyTargets st st.abandonedOp := by
  unfold Store.abandonedOp
  split
  · next h => exact .program h _
  · next h => exact .mark h _
  all_goals exact .same st

theorem OnlyTargets.abandoned {st : Store} (wf : sparseWf st.array = true) : OnlyTargets st st.abandoned := by
  unfold Store.abandoned
  split
  · next h => exact .fill h (Store.abandonedOp_wf wf) (.abandonedOp st) _
  · exact .abandonedOp st

/-- What is abandoned while the operations in flight are those the step found, or none. -/
theorem SameTargets.abandoned (h : SameTargets s u) (wf : sparseWf s.store.array = true) :
    OnlyTargets s.store u.store.abandoned := by
  intro x changed
  have target := OnlyTargets.abandoned (st := u.store) (by rw [h.array]; exact wf) x
    (by rw [Store.page_eq, h.array, ← Store.page_eq]; exact changed)
  rcases target with ⟨d, op⟩ | ⟨n, op, at_zero, data⟩ | ⟨e, erase, at_block⟩
  · rcases h.op with k | k <;> rw [k] at op
    · exact .inl ⟨d, op⟩
    · cases op
  · rcases h.op with k | k <;> rw [k] at op
    · exact .inr (.inl ⟨n, op, at_zero, by rw [data, Store.page_eq, h.array, ← Store.page_eq]⟩)
    · cases op
  · rcases h.erase with k | k <;> rw [k] at erase
    · exact .inr (.inr ⟨e, erase, at_block⟩)
    · cases erase

theorem runningErase_some {st : Store} {e : Erase} (h : runningErase st = some e) :
    st.erase = some e ∧ st.op = none := by
  unfold runningErase at h
  obtain ⟨erase, running⟩ := Option.filter_eq_some_iff.mp h
  simp only [Bool.and_eq_true, Option.isNone_iff_eq_none] at running
  exact ⟨erase, running.1⟩

theorem Passes.onlyTargets (h : Passes c s b u) (wf : sparseWf s.store.array = true) :
    OnlyTargets s.store u.store.array := by
  have start := OnlyTargets.same s.store
  induction h with
  | store f _ calm ih => rw [State.modStore_store, calm.array]; exact ih
  | grant r o _ _ _ _ _ ih => simpa using ih
  | eraseStarts n z _ _ _ _ _ ih => exact ih
  | post r _ _ ih => exact ih
  | programmed p d _ op => exact .program op _
  | programFailed p d _ op => exact .program op _
  | erased e _ running => exact .fill (runningErase_some running).1 wf start _
  | eraseFailed e _ running => exact .fill (runningErase_some running).1 wf start _
  | marked n x _ op => exact .mark op _
  | enterDeep _ _ _ targets _ ih => exact targets.abandoned wf
  | resetFromDoze _ _ _ targets _ ih => exact targets.abandoned wf
  | wakeFromDeep r _ _ _ _ targets => rw [(wakeFromDeep_main r _).store]; exact targets.abandoned wf
  | engineReset _ _ targets _ ih => exact targets.abandoned wf
  | fullReset => exact OnlyTargets.abandoned wf
  | _ => simp [*]

/-- What an operation of the array can be ended or abandoned by (09 R164). -/
def ArrayWritten (c : Instr) (s u : State) : Prop :=
  (∃ ok p d, s.store.op = some (.program p d) ∧ (c = .pageProgramEnd ok ∨ c = .busyLimitExpiry))
    ∨ (∃ ok n, s.store.op = some (.mark n) ∧ (c = .markWriteEnd ok ∨ c = .busyLimitExpiry))
    ∨ (∃ ok, s.store.erase ≠ none ∧ (c = .eraseEnd ok ∨ c = .busyLimitExpiry))
    ∨ (u.store.blocks = [] ∧ ResetsMain c)

theorem ArrayWritten.congr {v : State} (h : ArrayWritten c s u) (blocks : v.store.blocks = u.store.blocks) :
    ArrayWritten c s v := by
  unfold ArrayWritten
  rw [blocks]
  exact h

theorem Passes.arrayWritten (h : Passes c s b u) (wf : c.wellFormed = true) :
    u.store.array = s.store.array ∨ ArrayWritten c s u := by
  induction h with
  | store f _ calm ih => exact ih.imp calm.array.trans fun k => k.congr calm.blocks
  | grant r o _ _ _ _ _ ih => exact ih.imp (by simpa using ·) fun k => k.congr (by simp)
  | eraseStarts n z _ _ _ _ _ ih => exact ih.imp id fun k => k.congr rfl
  | post r _ _ ih => exact ih.imp id fun k => k.congr rfl
  | protect cmd first n _ _ same _ ih => exact .inl (by simp [same])
  | programmed p d hc op => exact .inr (.inl ⟨true, p, d, op, .inl hc⟩)
  | programFailed p d hc op => obtain ⟨ok, hc⟩ := hc; exact .inr (.inl ⟨ok, p, d, op, hc⟩)
  | erased e hc running =>
    exact .inr (.inr (.inr (.inl ⟨true, by rw [(runningErase_some running).1]; nofun, .inl hc⟩)))
  | eraseFailed e hc running =>
    obtain ⟨ok, hc⟩ := hc
    exact .inr (.inr (.inr (.inl ⟨ok, by rw [(runningErase_some running).1]; nofun, hc⟩)))
  | marked n x hc op => obtain ⟨ok, hc⟩ := hc; exact .inr (.inr (.inl ⟨ok, n, op, hc⟩))
  | enterDeep _ _ _ _ hc => exact .inr (.inr (.inr (.inr ⟨rfl, by simp [ResetsMain, hc]⟩)))
  | resetFromDoze _ _ _ _ resets => exact .inr (.inr (.inr (.inr ⟨rfl, resets wf⟩)))
  | wakeFromDeep r _ _ _ _ _ resets => exact .inr (.inr (.inr (.inr ⟨rfl, resets wf⟩)))
  | engineReset _ _ _ resets => exact .inr (.inr (.inr (.inr ⟨rfl, resets wf⟩)))
  | fullReset hc => exact .inr (.inr (.inr (.inr ⟨rfl, .inl hc⟩)))
  | start => exact .inl rfl
  | _ => simp_all [ArrayWritten]

/-! ## The block table (09 R171, R173, R176 to R178, R182) -/

theorem Store.block_takeGuard (st : Store) (g : Bool) (n : Nat) :
    (st.takeGuard g).block n = { st.block n with prot := guardProtection g (st.block n).prot } := by
  unfold Store.block Store.takeGuard
  rw [sparseGet_map]
  cases sparseGet n st.blocks
  · cases g <;> rfl
  · rfl

theorem Store.block_protectBlock_fill {st : Store} (wf : sparseWf st.blocks = true) (g : Bool) (cmd : ProtectCommand)
    (m n : Nat) : ((protectBlock g cmd m st).block n).fill = (st.block n).fill
      ∧ sparseWf (protectBlock g cmd m st).blocks = true := by
  unfold protectBlock
  split
  · refine ⟨?_, Store.putBlock_sparseWf wf _ _⟩
    by_cases e : n = m
    · rw [e, Store.block_putBlock_same wf]
    · rw [Store.block_putBlock_other st e]
  · exact ⟨rfl, wf⟩
  · exact ⟨rfl, wf⟩

theorem Store.block_protectRange_fill {st : Store} (wf : sparseWf st.blocks = true) (g : Bool) (cmd : ProtectCommand)
    (first count n : Nat) : ((protectRange g cmd first count st).block n).fill = (st.block n).fill
      ∧ sparseWf (protectRange g cmd first count st).blocks = true := by
  induction count with
  | zero => exact ⟨rfl, wf⟩
  | succ count ih =>
    obtain ⟨fill, wf'⟩ := ih
    obtain ⟨fill', wf''⟩ := Store.block_protectBlock_fill wf' g cmd (first + count) n
    exact ⟨fill'.trans fill, wf''⟩

/-- What becomes of a block's fill mark in one step (09 R171, R176 to R178, R182). -/
def MarkMoves (c : Instr) (s u : State) (n m : Nat) : Prop :=
  (u.store.block n).fill = .mark m
    ∨ ((u.store.block n).fill = .mark (m + 1) ∧ c = .pageProgramEnd true
        ∧ ∃ d, s.store.op = some (.program (n * 64 + m) d))
    ∨ ((u.store.block n).fill = .mark 0 ∧ c = .eraseEnd true ∧ ∃ e, s.store.erase = some e ∧ e.block = n)
    ∨ ((u.store.block n).fill = .retired ∧ s.store.op = some (.mark n) ∧ ∃ ok, c = .markWriteEnd ok ∨ c = .busyLimitExpiry)
    ∨ (u.store.blocks = [] ∧ ResetsMain c)

theorem MarkMoves.congr {v : State} {n m : Nat} (h : MarkMoves c s u n m) (blocks : v.store.blocks = u.store.blocks) :
    MarkMoves c s v n m := by
  have same : v.store.block n = u.store.block n := by simp [Store.block, blocks]
  unfold MarkMoves
  rw [same, blocks]
  exact h

theorem Passes.markMoves (h : Passes c s b u) (wf : c.wellFormed = true) (agrees : StoreAgrees s) {n m : Nat}
    (marked : (s.store.block n).fill = .mark m) : MarkMoves c s u n m := by
  have start : MarkMoves c s s n m := .inl marked
  have other (st : Store) (k : Nat) (f : Fill) (e : n ≠ k) (same : st.blocks = s.store.blocks) :
      ((st.setFill k f).block n).fill = .mark m := by
    rw [Store.block_setFill_other st e]
    simpa [Store.block, same] using marked
  have at_block (st : Store) (f : Fill) (same : st.blocks = s.store.blocks) : ((st.setFill n f).block n).fill = f := by
    rw [Store.block_setFill_same (by rw [same]; exact agrees.blocks)]
  have reset {v : State} (k : ResetsMain c) (e : v.store.blocks = []) : MarkMoves c s v n m :=
    .inr (.inr (.inr (.inr ⟨e, k⟩)))
  induction h with
  | start => exact start
  | store f _ calm ih => exact ih.congr calm.blocks
  | grant r o _ _ _ _ _ ih => exact ih.congr (by simp)
  | guardChanged x =>
    refine .inl ?_
    rw [State.modStore_store, Store.block_takeGuard]
    exact marked
  | surveyed page p why z f _ op =>
    refine .inl (other (endOp s).store (p / 64) f (fun e => ?_) (by simp))
    rw [e, agrees.raw p why z op] at marked
    cases marked
  | programmed p d hc op =>
    by_cases e : n = p / 64
    · have mark := agrees.program p d op
      rw [← e, marked, Fill.mark.injEq] at mark
      refine .inr (.inl ⟨?_, hc, d, ?_⟩)
      · rw [mark]
        simp only [State.modStore_store, ← e]
        exact at_block (endOp s).store (.mark (p % 64 + 1)) (by simp)
      · rw [op, mark, e]
        congr 2
        omega
    · exact .inl (other (endOp s).store (p / 64) (.mark (p % 64 + 1)) e (by simp))
  | programFailed p d => exact start.congr (by simp)
  | erased e hc running =>
    by_cases k : n = e.block
    · subst k
      exact .inr (.inr (.inl ⟨at_block s.store (.mark 0) rfl, hc, e, (runningErase_some running).1, rfl⟩))
    · exact .inl (other s.store e.block (.mark 0) k rfl)
  | eraseFailed => exact start.congr rfl
  | marked k x hc op =>
    by_cases e : n = k
    · subst e
      exact .inr (.inr (.inr (.inl ⟨at_block (endOp s).store .retired (by simp), op, hc⟩)))
    · exact .inl (other (endOp s).store k .retired e (by simp))
  | protect cmd first count _ hc same _ ih =>
    refine .inl ?_
    rw [State.modStore_store, (Store.block_protectRange_fill (by rw [same]; exact agrees.blocks) _ _ _ _ _).1, same]
    exact marked
  | enterDeep _ _ _ _ hc => exact reset (by simp [ResetsMain, hc]) rfl
  | resetFromDoze _ _ _ _ resets => exact reset (resets wf) rfl
  | wakeFromDeep r _ _ _ _ _ resets => exact reset (resets wf) rfl
  | engineReset _ _ _ resets => exact reset (resets wf) rfl
  | fullReset hc => exact reset (.inl hc) rfl
  | _ => exact MarkMoves.congr (by assumption) (by simp)

/-! ## Programs and erases that start (09 R172, R176, R177) -/

theorem Store.block_congr {st st' : Store} (h : st'.blocks = st.blocks) (n : Nat) : st'.block n = st.block n := by
  simp [Store.block, h]

/-- A program newly in flight is on a block that can be written, at its fill mark. -/
theorem Passes.program_starts (h : Passes c s b u) {p : Nat} {d : List Byte}
    (now : u.store.op = some (.program p d)) (new : s.store.op ≠ some (.program p d)) :
    (u.store.block (p / 64)).prot.writable = true ∧ (u.store.block (p / 64)).fill = .mark (p % 64) := by
  induction h with
  | start => exact absurd now new
  | store f _ calm ih =>
    rw [State.modStore_store] at now ⊢
    rw [Store.block_congr calm.blocks]
    refine ih ?_
    rcases calm.op with e | e | ⟨cl, q, -, e⟩ | ⟨cl, q, z, -, e⟩ | ⟨q, w, z, -, e⟩ <;> rw [e] at now
    · exact now
    all_goals cases now
  | grant r o _ _ _ _ granted ih =>
    simp only [State.modStore_store, Store.launch_keeps, Option.some.injEq] at now
    subst now
    cases granted with
    | program _ _ writable fill => exact ⟨writable, fill⟩
  | protect cmd first n _ _ same _ ih => exact absurd (by simpa [same] using now) new
  | post r _ _ ih => exact ih now
  | surveyed => simp at now; cases now
  | programmed => cases now
  | programFailed => cases now
  | erased e _ running => exact absurd now new
  | eraseFailed => exact absurd now new
  | marked => cases now
  | guardChanged => exact absurd now new
  | enterDeep => exact nomatch now
  | resetFromDoze => exact nomatch now
  | wakeFromDeep r => rw [(wakeFromDeep_main r _).store] at now; exact nomatch now
  | engineReset => exact nomatch now
  | fullReset => exact nomatch now
  | _ => simp_all

theorem eraseCheck_passed {st : Store} {n : Nat} (h : eraseCheck st n = none) :
    (st.block n).prot.writable = true ∧ (st.block n).fill ≠ .retired := by
  unfold eraseCheck at h
  dsimp only at h
  split at h
  · cases h
  · next writable =>
    refine ⟨by simpa using writable, fun e => ?_⟩
    rw [e] at h
    cases h

/-- An erase newly under way is of a block that can be written and is not RETIRED. -/
theorem Passes.erase_starts (h : Passes c s b u) {e : Erase} (now : u.store.erase = some e)
    (new : ∀ d, s.store.erase = some d → d.block ≠ e.block) :
    (u.store.block e.block).prot.writable = true ∧ (u.store.block e.block).fill ≠ .retired := by
  induction h generalizing e with
  | start => exact absurd rfl (new e now)
  | store f _ calm ih =>
    rw [State.modStore_store] at now ⊢
    rw [Store.block_congr calm.blocks]
    have same := calm.erase
    rw [now, Option.map_some, eq_comm, Option.map_eq_some_iff] at same
    obtain ⟨d, before, block⟩ := same
    rw [← block]
    exact ih before fun x hx => by rw [block]; exact new x hx
  | grant r o _ _ _ none granted ih => simp [none] at now
  | eraseStarts n z _ _ _ _ check ih =>
    simp only [State.modStore_store, Option.some.injEq] at now
    subst now
    exact eraseCheck_passed check
  | protect cmd first n _ _ same _ ih => exact absurd rfl (new e (by simpa [same] using now))
  | post r _ _ ih => exact ih now new
  | surveyed => exact absurd rfl (new e now)
  | programmed => exact absurd rfl (new e now)
  | programFailed => exact absurd rfl (new e now)
  | erased => cases now
  | eraseFailed => cases now
  | marked => exact absurd rfl (new e now)
  | guardChanged => exact absurd rfl (new e now)
  | enterDeep => exact nomatch now
  | resetFromDoze => exact nomatch now
  | wakeFromDeep r => rw [(wakeFromDeep_main r _).store] at now; exact nomatch now
  | engineReset => exact nomatch now
  | fullReset => exact nomatch now
  | _ => simp_all

/-! ## Shared memory and the causes (01 R17, R18) -/

/-- The commands that end a write of the part into shared memory. -/
def WritesShared (c : Instr) : Prop :=
  ∃ ok, c = .recordHeaderWriteEnd ok ∨ c = .detachFinalPage ok ∨ c = .statusPageWriteEnd ok
    ∨ c = .storeReadDestWriteEnd ok ∨ c = .surveyReportWriteEnd ok

theorem Passes.shared_kept (h : Passes c s b u) : u.shared = s.shared ∨ WritesShared c := by
  induction h with
  | start => exact .inl rfl
  | shared f _ hc => obtain ⟨ok, hc⟩ := hc; exact .inr ⟨ok, .inr (.inr (.inr hc))⟩
  | headerWritten a e q _ _ hc => exact .inr ⟨e, .inl hc⟩
  | pageWritten e q _ hc => exact .inr ⟨e, .inr (.inr (.inl hc))⟩
  | finalWritten e q _ hc => exact .inr ⟨e, .inr (.inl hc)⟩
  | _ => simp_all

/-- Every cause that was pending is pending still. -/
def CausesKept (r r' : Regs) : Prop := ∀ k, r.cause.getLsbD k = true → r'.cause.getLsbD k = true

@[simp] theorem CausesKept.refl (r : Regs) : CausesKept r r := fun _ => id

section
variable {r : Regs} {x : State}

theorem CausesKept.setCause (h : CausesKept r x.regs) (k : Cause) : CausesKept r (setCause k x).regs := fun n e => by
  rw [setCause_cause, BitVec.getLsbD_or, h n e, Bool.true_or]

theorem CausesKept.stopLane (h : CausesKept r x.regs) (i : LaneId) (addr : Word) :
    CausesKept r (stopLane i addr x).regs := by
  unfold Machine.stopLane
  split
  · exact h
  · exact CausesKept.setCause (by simpa using h) _

theorem CausesKept.takeCursor (h : CausesKept r x.regs) (i : LaneId) : CausesKept r (takeCursor i x).regs := by
  unfold Machine.takeCursor
  dsimp only
  split
  · simpa using h
  · split
    · exact h.stopLane _ _
    · simpa using h

theorem CausesKept.retire (h : CausesKept r x.regs) (i : LaneId) : CausesKept r (retire i x).regs := by
  unfold Machine.retire
  dsimp only
  split
  · exact CausesKept.setCause (by simpa using h) _
  · simpa using h

theorem CausesKept.markDone (h : CausesKept r x.regs) (i : LaneId) (addr : Word) :
    CausesKept r (markDone i addr x).regs :=
  CausesKept.retire (by simpa using h) i

theorem CausesKept.startLane (h : CausesKept r x.regs) (i : LaneId) : CausesKept r (startLane i x).regs := by
  unfold Machine.startLane
  split
  · exact h.takeCursor i
  · exact h

theorem CausesKept.attachSucceeds (h : CausesKept r x.regs) (bs : List Byte) :
    CausesKept r (attachSucceeds bs x).regs := by
  have asked : CausesKept r (requestPage (latchAnchor bs x)).regs := by simpa using h
  exact ((asked.startLane _).startLane _).startLane _

theorem CausesKept.recordRead (h : CausesKept r x.regs) (i : LaneId) (addr : Word) (a : BusRead) :
    CausesKept r (recordRead i addr a x).regs := by
  unfold Machine.recordRead
  dsimp only
  split
  · exact h
  · split
    · exact CausesKept.stopLane (by simpa using h) _ _
    · split
      · unfold takeRecord
        split <;> simpa using h
      · exact h

theorem CausesKept.followLink (h : CausesKept r x.regs) (i : LaneId) (v : Word) :
    CausesKept r (followLink i v x).regs := by
  have retired (y : State) (k : CausesKept r y.regs) : CausesKept r (dropLinkReads i (Machine.retire i y)).regs := by
    simpa using k.retire i
  unfold Machine.followLink
  dsimp only
  split
  · exact (retired _ (by simpa using h)).takeCursor i
  · exact retired _ (by simpa using h)

theorem CausesKept.linkRead (h : CausesKept r x.regs) (i : LaneId) (v : Word) : CausesKept r (linkRead i v x).regs := by
  unfold Machine.linkRead
  dsimp only
  split
  · exact h
  · split
    · simpa using h
    · split
      · exact h.followLink i v
      · exact h.stopLane _ _

theorem CausesKept.headerWriteError (h : CausesKept r x.regs) (i : LaneId) (addr : Word) (done : Bool) :
    CausesKept r (headerWriteError i addr done x).regs := by
  have stopped (y : State) (k : CausesKept r y.regs) := k.stopLane i addr
  unfold Machine.headerWriteError
  dsimp only
  split
  · exact (stopped _ (by simpa using h)).markDone i addr
  · exact stopped _ (by simpa using h)

theorem CausesKept.headerWritten (h : CausesKept r x.regs) (a : BusAccess) (e : Bool) :
    CausesKept r (headerWritten a e x).regs := by
  unfold Machine.headerWritten
  split
  · split
    · exact h.headerWriteError _ _ _
    · exact h
  · split
    · exact h.headerWriteError _ _ _
    · dsimp only
      split
      · exact CausesKept.markDone (by simpa using h) _ _
      · exact h
  · exact h

theorem CausesKept.releaseHeld (h : CausesKept r x.regs) (i : LaneId) : CausesKept r (releaseHeld i x).regs := by
  unfold Machine.releaseHeld
  dsimp only
  split
  · exact h
  · split
    · split
      · exact h.takeCursor i
      · exact h
    · split
      · split
        · simpa using h
        · exact h
      · exact h

theorem CausesKept.recordWake (h : CausesKept r x.regs) (w : WakeReason) : CausesKept r (recordWake w x).regs := by
  have caused : CausesKept r (Machine.setCause wakeCause (x.modPower fun p => { p with wakeReason := w })).regs :=
    CausesKept.setCause (by simpa using h) _
  unfold Machine.recordWake
  dsimp only
  split
  · exact caused
  · exact caused

theorem CausesKept.wakingFromDoze (h : CausesKept r x.regs) (w : WakeReason) :
    CausesKept r (wakingFromDoze w x).regs := h.recordWake w

theorem CausesKept.wakeFromDeep (h : CausesKept r x.regs) (w : WakeReason) :
    CausesKept r (wakeFromDeep w x).regs := h.recordWake w

theorem CausesKept.startAttach (h : CausesKept r x.regs) : CausesKept r (startAttach x).regs := by
  unfold Machine.startAttach
  dsimp only
  split <;> exact h

end

theorem Passes.causesKept (h : Passes c s b u) (wf : c.wellFormed = true) (apart : c ≠ .fullReset)
    (clear : ∀ v, c ≠ .causeClear v) : CausesKept s.regs u.regs := by
  induction h with
  | start => exact .refl _
  | regs f _ calm ih => exact fun k e => calm.cause k (ih k e)
  | causeCleared v _ hc => obtain ⟨w, e⟩ := hc wf; exact absurd e (clear w)
  | attachToWait _ _ _ _ ih => exact ih
  | startAttach _ _ ih => exact ih.startAttach
  | anchorPassed _ bs q => exact CausesKept.attachSucceeds (by simp) bs
  | recordRead i addr a q => exact CausesKept.recordRead (by simp) i addr a
  | linkRead i addr why v q => exact CausesKept.linkRead (by simp) i v
  | headerWritten a e q => exact CausesKept.headerWritten (by simp) a e
  | released i _ ih => exact ih.releaseHeld i
  | wakingFromDoze r _ _ _ _ ih => exact ih.wakingFromDoze r
  | resetFromDoze _ _ _ _ _ ih => exact ih.wakingFromDoze _
  | wakeFromDeep r _ _ _ _ _ _ ih => exact ih.wakeFromDeep r
  | fullReset e => exact absurd e apart
  | _ => simp_all

/-- Settles O58, part by part: pages, the commands that write the array, fill marks, programs and erases that start,
shared memory, causes. -/
theorem memoriesChangeOnlyByWrites : Obligations.MemoriesChangeOnlyByWrites := by
  intro c s t h
  obtain ⟨u, passes, rfl⟩ := exec_passes h
  obtain ⟨regs, -, -, -, -, -, -, -, -, -, -, store, -, shared, -⟩ := settlePort_keeps s u
  rw [store, regs, shared]
  exact ⟨fun wf => passes.onlyTargets wf, fun wf => (passes.arrayWritten wf).resolve_left,
    fun wf agrees n m marked => passes.markMoves wf agrees marked, fun p d now new => passes.program_starts now new,
    fun e now new => passes.erase_starts now new, passes.shared_kept.resolve_left,
    fun wf apart clear => passes.causesKept wf apart clear⟩

end Sys2Proof.Machine
end

section
/-!
PROOFS. What a start evaluation may start, and the slots a step leaves (06 R101, R102, R118).
-/

namespace Sys2Proof.Machine

open Sys2Proof

variable {c : Instr} {s t u : State} {b : Bool}

/-- An entry that a stop awaiting its effect holds, or whose effective rectangle meets an active slot's or one of those
passed past. -/
def StartBarred (p : Panel) (past : List Rect) (e : Entry) : Prop :=
  p.stopHolds e.id = true ∨ (∃ sl, sl ∈ p.slots ∧ sl.2.eff.intersects (effective p e).1 = true)
    ∨ ∃ r ∈ past, r.intersects (effective p e).1 = true

/-- The search of the list goes past the entries that are barred. -/
theorem findStart_cons (p : Panel) (past : List Rect) (e : Entry) (l : List Entry) :
    (¬ StartBarred p past e ∧ findStart p past (e :: l) = some e)
      ∨ (StartBarred p past e ∧ findStart p past (e :: l) = findStart p ((effective p e).1 :: past) l) := by
  simp only [findStart]
  split
  · next free =>
    simp only [Bool.and_eq_true, Bool.not_eq_true', List.any_eq_false, Bool.not_eq_true] at free
    refine .inl ⟨?_, rfl⟩
    rintro (k | ⟨sl, hm, k⟩ | ⟨r, hm, k⟩)
    · simp [k] at free
    · exact Bool.eq_false_iff.mp (free.1.2 sl hm) k
    · exact Bool.eq_false_iff.mp (free.2 r hm) k
  · next barred =>
    refine .inr ⟨?_, rfl⟩
    by_cases held : p.stopHolds e.id = true
    · exact .inl held
    · by_cases met : (p.slots.any fun sl => sl.2.eff.intersects (effective p e).1) = true
      · exact .inr (.inl (List.any_eq_true.mp met))
      · refine .inr (.inr (List.any_eq_true.mp ?_))
        simpa [held, met] using barred

theorem findStart_some {p : Panel} {past : List Rect} {l : List Entry} {e : Entry} (h : findStart p past l = some e) :
    ∃ older newer, l = older ++ e :: newer ∧ ¬ StartBarred p past e
      ∧ ∀ o ∈ older, (effective p o).1.intersects (effective p e).1 = false := by
  induction l generalizing past with
  | nil => cases h
  | cons x l ih =>
    rcases findStart_cons p past x l with ⟨free, found⟩ | ⟨-, goesOn⟩
    · rw [found, Option.some.injEq] at h
      subst h
      exact ⟨[], l, rfl, free, nofun⟩
    · rw [goesOn] at h
      obtain ⟨older, newer, rfl, free, apart⟩ := ih h
      refine ⟨x :: older, newer, rfl, fun k => free (k.imp id (·.imp id fun ⟨r, hr, m⟩ =>
        ⟨r, List.mem_cons_of_mem _ hr, m⟩)), List.forall_mem_cons.mpr ⟨?_, apart⟩⟩
      exact Bool.eq_false_iff.mpr fun k => free (.inr (.inr ⟨_, List.mem_cons_self, k⟩))

theorem findStart_none {p : Panel} {past : List Rect} {older newer : List Entry} {e : Entry}
    (h : findStart p past (older ++ e :: newer) = none) :
    StartBarred p past e ∨ ∃ o ∈ older, (effective p o).1.intersects (effective p e).1 = true := by
  induction older generalizing past with
  | nil =>
    rcases findStart_cons p past e newer with ⟨-, found⟩ | ⟨barred, -⟩
    · rw [List.nil_append, found] at h; cases h
    · exact .inl barred
  | cons x older ih =>
    rcases findStart_cons p past x (older ++ e :: newer) with ⟨-, found⟩ | ⟨-, goesOn⟩
    · rw [List.cons_append, found] at h; cases h
    · rw [List.cons_append, goesOn] at h
      rcases ih h with (k | k | ⟨r, hr, k⟩) | ⟨o, ho, k⟩
      · exact .inl (.inl k)
      · exact .inl (.inr (.inl k))
      · rcases List.mem_cons.mp hr with rfl | hr
        · exact .inr ⟨x, List.mem_cons_self, k⟩
        · exact .inl (.inr (.inr ⟨r, hr, k⟩))
      · exact .inr ⟨o, List.mem_cons_of_mem _ ho, k⟩

/-! ## The slot limit -/

theorem Passes.slotsWf (h : Passes c s b u) (wf : sparseWf s.panel.slots = true) : sparseWf u.panel.slots = true := by
  induction h with
  | panel f _ calm ih => exact calm.canonical ih
  | starts e l n _ _ _ _ ih => exact sparsePut_wf _ (Nat.zero_le _) ih
  | wakeFromDeep r => rw [(wakeFromDeep_main r _).panel]; rfl
  | enterDeep => rfl
  | resetFromDoze => rfl
  | engineReset => rfl
  | fullReset => rfl
  | _ => simp [*]

/-- No more active slots than the step found, or no more than the class allows. -/
theorem Passes.slotsLimited (h : Passes c s b u) (wf : sparseWf s.panel.slots = true) :
    u.panel.slots.length ≤ s.panel.slots.length ∨ u.panel.slots.length ≤ slotLimit u.power.cls := by
  induction h with
  | start => exact .inl (Nat.le_refl _)
  | panel f k calm ih =>
    have := calm.length (k.slotsWf wf)
    exact ih.imp (Nat.le_trans this) (Nat.le_trans this)
  | starts e l n _ made _ _ ih =>
    refine .inr (Nat.le_trans (sparsePut_length_le _ _ _) ?_)
    simp only [startsMade, Bool.and_eq_true, decide_eq_true_eq] at made
    exact made.2
  | cls cl _ same => exact .inl (by simp [same])
  | power f _ calm ih => simpa [calm.cls] using ih
  | grace _ _ _ ih => exact ih
  | wakeFromDeep r => rw [(wakeFromDeep_main r _).panel]; exact .inl (Nat.zero_le _)
  | enterDeep => exact .inl (Nat.zero_le _)
  | resetFromDoze => exact .inl (Nat.zero_le _)
  | engineReset => exact .inl (Nat.zero_le _)
  | fullReset => exact .inl (Nat.zero_le _)
  | _ => simp [*]

/-- Settles O41: the search by induction on the list, the slot limit by the rules. -/
theorem startsRespectOrder : Obligations.StartsRespectOrder := by
  refine ⟨fun p => ⟨fun e found => ?_, fun none older e newer split => ?_, fun e => ?_⟩, fun c s t wf h => ?_⟩
  · obtain ⟨older, newer, split, free, apart⟩ := findStart_some found
    exact ⟨older, newer, split, Bool.eq_false_iff.mpr fun k => free (.inl k),
      fun sl hm => Bool.eq_false_iff.mpr fun k => free (.inr (.inl ⟨sl, hm, k⟩)), apart⟩
  · rw [split] at none
    rcases findStart_none none with (k | k | ⟨r, hr, -⟩) | k
    · exact .inl k
    · exact .inr (.inl k)
    · cases hr
    · exact .inr (.inr k)
  · simp only [effective, fullPanel, Bool.not_eq_true']
  · obtain ⟨u, passes, rfl⟩ := exec_passes h
    have limited := passes.slotsLimited wf
    obtain ⟨-, -, -, power, -, -, panel, -⟩ := settlePort_keeps s u
    rw [power, panel]
    refine limited.imp id fun k => Nat.le_trans k ?_
    cases u.power.cls <;> exact Nat.le_refl _

end Sys2Proof.Machine
end

section
/-!
PROOFS. Page writes (01 R17): a snapshot is held while its page write is made and no longer, and a change of a page field
leads to a page write.
-/

namespace Sys2Proof.Machine

open Sys2Proof

variable {c : Instr} {s t u : State} {b : Bool}

/-! ## The port through the rules -/

section
variable {x v : State}

theorem SnapshotInUse.congr (h : SnapshotInUse x) (bus : v.bus = x.bus) : SnapshotInUse v := by
  unfold SnapshotInUse
  rw [bus]
  exact h

/-- The port with fewer accesses, a page write at its head kept there. -/
theorem SnapshotInUse.fewer (h : SnapshotInUse x) (snapshot : v.bus.snapshot = x.bus.snapshot)
    (p : BusAccess → Bool) (queue : v.bus.queue = x.bus.queue.filter p) (status : p .statusPage = true)
    (final : p .finalPage = true) : SnapshotInUse v := by
  intro k
  obtain ⟨q, e | e⟩ := h (snapshot ▸ k)
  · exact ⟨q.filter p, .inl (by rw [queue, e, List.filter_cons_of_pos status])⟩
  · exact ⟨q.filter p, .inr (by rw [queue, e, List.filter_cons_of_pos final])⟩

theorem SnapshotInUse.enqueue (h : SnapshotInUse x) (a : BusAccess) : SnapshotInUse (enqueue a x) := by
  intro k
  obtain ⟨q, e | e⟩ := h k
  · exact ⟨q ++ [a], .inl (by simp [e])⟩
  · exact ⟨q ++ [a], .inr (by simp [e])⟩

theorem SnapshotInUse.noSnapshot (bus : v.bus.snapshot = none) : SnapshotInUse v := fun k => absurd bus k

theorem SnapshotInUse.popped (x : State) (q : List BusAccess) : SnapshotInUse (x.popped q) :=
  .noSnapshot (State.popped_keeps x q).2.2.2.1

theorem SnapshotInUse.requestLink (h : SnapshotInUse x) (i : LaneId) (why : LinkReadWhy) :
    SnapshotInUse (requestLink i why x) := h.enqueue _

theorem SnapshotInUse.stopLane (h : SnapshotInUse x) (i : LaneId) (addr : Word) : SnapshotInUse (stopLane i addr x) := by
  unfold Machine.stopLane
  split
  · exact h
  · exact h.fewer (by simp) (fun a => !a.readsFor i) (by simp) rfl rfl

theorem SnapshotInUse.markDone (h : SnapshotInUse x) (i : LaneId) (addr : Word) : SnapshotInUse (markDone i addr x) :=
  h.congr (by simp)

theorem SnapshotInUse.takeCursor (h : SnapshotInUse x) (i : LaneId) : SnapshotInUse (takeCursor i x) := by
  unfold Machine.takeCursor
  dsimp only
  split
  · exact h.congr (by simp)
  · split
    · exact h.stopLane _ _
    · exact (h.congr (v := x.modLane i fun l => { l with state := .taking, copy := none }) (by simp)).enqueue _

theorem SnapshotInUse.startLane (h : SnapshotInUse x) (i : LaneId) : SnapshotInUse (startLane i x) := by
  unfold Machine.startLane
  split
  · exact h.takeCursor i
  · exact h

theorem SnapshotInUse.requestPage (h : SnapshotInUse x) : SnapshotInUse (requestPage x) := by
  unfold Machine.requestPage
  split
  · exact h.enqueue _
  · exact h

theorem SnapshotInUse.latchAnchor (h : SnapshotInUse x) (bs : List Byte) : SnapshotInUse (latchAnchor bs x) := h

theorem SnapshotInUse.attachSucceeds (h : SnapshotInUse x) (bs : List Byte) : SnapshotInUse (attachSucceeds bs x) :=
  (((h.latchAnchor bs).requestPage.startLane _).startLane _).startLane _

theorem SnapshotInUse.refuseRecord (h : SnapshotInUse x) (i : LaneId) (r : RecordCopy) (result : ResultCode) :
    SnapshotInUse (refuseRecord i r result x) :=
  (((h.congr (v := addEntry i (newEntry r none) x) (by simp)).enqueue _).enqueue _).requestLink _ _

theorem SnapshotInUse.recordRead (h : SnapshotInUse x) (i : LaneId) (addr : Word) (a : BusRead) :
    SnapshotInUse (recordRead i addr a x) := by
  unfold Machine.recordRead
  dsimp only
  split
  · exact h
  · split
    · exact (((h.congr (v := addEntry i (newEntry { addr := addr, bytes := [] } none) x) (by simp)).enqueue _).enqueue
        _).stopLane _ _
    · split
      · unfold takeRecord
        split
        · exact h.refuseRecord _ _ _
        · exact h.congr (by simp)
      · exact h

theorem SnapshotInUse.followLink (h : SnapshotInUse x) (i : LaneId) (v : Word) : SnapshotInUse (followLink i v x) := by
  have retired (y : State) (k : SnapshotInUse y) : SnapshotInUse (dropLinkReads i (retire i y)) :=
    (k.congr (v := retire i y) (by simp)).fewer (by simp [dropLinkReads]) (fun a => !a.isLinkRead i)
      (by simp [dropLinkReads]) rfl rfl
  unfold Machine.followLink
  dsimp only
  split
  · exact (retired _ (h.congr (by simp))).takeCursor i
  · exact retired _ (h.congr (by simp))

theorem SnapshotInUse.linkRead (h : SnapshotInUse x) (i : LaneId) (v : Word) : SnapshotInUse (linkRead i v x) := by
  unfold Machine.linkRead
  dsimp only
  split
  · exact h
  · split
    · unfold parkLane
      split
      · have parked := h.congr (v := x.modLane i fun l => { l with state := .parked, nudge := false }) (by simp)
        dsimp only
        split
        · exact parked.requestLink _ _
        · exact parked
      · exact h
    · split
      · exact h.followLink i v
      · exact h.stopLane _ _

theorem SnapshotInUse.headerWriteError (h : SnapshotInUse x) (i : LaneId) (addr : Word) (done : Bool) :
    SnapshotInUse (headerWriteError i addr done x) := by
  have stopped := fun f => (h.fewer (v := (x.modBus fun b =>
    { b with queue := b.queue.filter fun a => !a.writesRecord i addr }).modLane i f) (by simp)
    (fun a => !a.writesRecord i addr) (by simp) rfl rfl).stopLane i addr
  unfold Machine.headerWriteError
  dsimp only
  split
  · exact (stopped _).markDone i addr
  · exact stopped _

theorem SnapshotInUse.headerWritten (h : SnapshotInUse x) (a : BusAccess) (e : Bool) : SnapshotInUse (headerWritten a e x) := by
  unfold Machine.headerWritten
  split
  · split
    · exact h.headerWriteError _ _ _
    · exact h.congr rfl
  · split
    · exact h.headerWriteError _ _ _
    · dsimp only
      split
      · exact h.congr (by simp)
      · exact h.congr rfl
  · exact h

theorem SnapshotInUse.releaseHeld (h : SnapshotInUse x) (i : LaneId) : SnapshotInUse (releaseHeld i x) := by
  unfold Machine.releaseHeld
  dsimp only
  split
  · exact h
  · split
    · split
      · exact h.takeCursor i
      · exact h
    · split
      · split
        · exact h.congr (by simp)
        · exact h
      · exact h

theorem SnapshotInUse.startAttach (h : SnapshotInUse x) : SnapshotInUse (startAttach x) := by
  unfold Machine.startAttach
  dsimp only
  split
  · exact h.congr rfl
  · exact (h.congr (v := x.modLink fun l => { l with attaching := true }) rfl).enqueue _

theorem SnapshotInUse.acceptRecord (h : SnapshotInUse x) (k : Kind) (r : RecordCopy) : SnapshotInUse (acceptRecord k r x) :=
  ((h.congr (v := addEntry k.lane (newEntry r (some k)) x) (by simp)).enqueue _).requestLink _ _

end

theorem Passes.snapshotInUse (h : Passes c s b u) (held : SnapshotInUse s) : SnapshotInUse u := by
  induction h with
  | start => exact held
  | startAttach _ _ ih => exact ih.startAttach
  | anchorPassed addr bs q e => exact (SnapshotInUse.popped s q).attachSucceeds bs
  | anchorFailed addr q e => exact (SnapshotInUse.popped s q).congr (by simp)
  | recordRead i addr a q e => exact (SnapshotInUse.popped s q).recordRead i addr a
  | linkRead i addr why v q e => exact (SnapshotInUse.popped s q).linkRead i v
  | headerWritten a x q e => exact (SnapshotInUse.popped s q).headerWritten a x
  | pageWritten x q e => exact (SnapshotInUse.popped s q).congr (by simp)
  | finalWritten x q e => exact (SnapshotInUse.popped s q).congr (by simp)
  | bufferEnded use addr n q e => exact .popped s q
  | transferEnded f _ ih => exact ih
  | ask a _ harmless ih => exact ih.enqueue a
  | askLink i why _ _ _ ih => exact ih.requestLink i why
  | accept k r _ _ ih => exact ih.acceptRecord k r
  | released i _ ih => exact ih.releaseHeld i
  | dropRows n _ ih => exact ih.fewer rfl (fun a => !a.isRows n) rfl rfl rfl
  | enterDeep => exact .noSnapshot rfl
  | resetFromDoze => exact .noSnapshot rfl
  | wakeFromDeep r => exact .noSnapshot (by rw [(wakeFromDeep_main r _).bus]; rfl)
  | engineReset => exact .noSnapshot rfl
  | fullReset => exact .noSnapshot rfl
  | _ => exact SnapshotInUse.congr (by assumption) (by simp)

/-! ## The end of a step -/

/-- The page does not show the port. -/
theorem pageBytes_bus (x : State) (p : Bus) (code : Nat) (n : Word) :
    pageBytes { x with bus := p } code n = pageBytes x code n := rfl

theorem requestPage_waits {x : State} (held : SnapshotInUse x) (reporting : x.link.reporting = true) :
    (requestPage x).bus.pageWaits = true := by
  unfold requestPage
  by_cases waits : x.bus.pageWaits = true
  · simp [waits]
  · rw [if_pos (by simp [reporting, waits])]
    unfold Bus.pageWaits
    by_cases none : x.bus.snapshot = none
    · simp [none]
    · obtain ⟨q, e | e⟩ := held none <;> simp [Option.isSome_iff_ne_none, none, e]

theorem requestFinal_waits {x : State} (waits : x.bus.pageWaits = true) : (requestFinal x).bus.pageWaits = true := by
  unfold requestFinal
  split
  · unfold Bus.pageWaits; simp
  · exact waits

theorem SnapshotInUse.requestFinal {x : State} (h : SnapshotInUse x) : SnapshotInUse (requestFinal x) := by
  unfold Machine.requestFinal
  split
  · exact h.enqueue _
  · exact h

/-- A page write being made is at the head of the port, where no transfer starts before it. -/
theorem SnapshotInUse.startTransfers_queue {x : State} (h : SnapshotInUse x) (k : x.bus.snapshot ≠ none) :
    (startTransfers x).bus.queue = x.bus.queue := by
  obtain ⟨q, e | e⟩ := h k <;> simp [Machine.startTransfers_queue, e, BusAccess.repeats]

theorem SnapshotInUse.startTransfers {x : State} (h : SnapshotInUse x) : SnapshotInUse (startTransfers x) := by
  intro k
  have k' : x.bus.snapshot ≠ none := k
  rw [h.startTransfers_queue k']
  exact h k'

theorem mem_dropWhile_repeats {a : BusAccess} {q : List BusAccess} (once : a.repeats = false) :
    a ∈ q.dropWhile BusAccess.repeats ↔ a ∈ q := by
  induction q with
  | nil => simp
  | cons x q ih =>
    by_cases hx : x.repeats = true
    · have other : a ≠ x := by rintro rfl; simp [hx] at once
      simp [hx, ih, other]
    · simp [hx]

theorem startTransfers_waits {x : State} (h : SnapshotInUse x) (waits : x.bus.pageWaits = true) :
    (startTransfers x).bus.pageWaits = true := by
  have snapshot : (startTransfers x).bus.snapshot = x.bus.snapshot := rfl
  by_cases k : x.bus.snapshot = none
  · have status := mem_dropWhile_repeats (a := .statusPage) (q := x.bus.queue) rfl
    have final := mem_dropWhile_repeats (a := .finalPage) (q := x.bus.queue) rfl
    simpa [Bus.pageWaits, snapshot, k, status, final] using waits
  · unfold Bus.pageWaits
    rw [snapshot, h.startTransfers_queue k]
    exact waits

/-- What the port's next access leaves: the port as it stood, or the snapshot of the page write at its head. -/
theorem beginAccess_cases (x : State) :
    (beginAccess x = x ∧ (x.bus.snapshot = none → ∀ q, x.bus.queue ≠ .statusPage :: q ∧ x.bus.queue ≠ .finalPage :: q))
    ∨ ((∃ q, x.bus.queue = .statusPage :: q ∨ x.bus.queue = .finalPage :: q)
        ∧ ∃ code n, (beginAccess x).bus.snapshot = some (pageBytes x code n)) := by
  unfold beginAccess
  split
  · next q _ e _ => exact .inr ⟨⟨_, .inl e⟩, _, _, rfl⟩
  · next e _ => exact .inr ⟨⟨_, .inr e⟩, _, _, rfl⟩
  · next status final =>
    exact .inl ⟨rfl, fun none q => ⟨fun e => status _ e none, fun e => final _ e none⟩⟩

/-- What a change of the page's fields asks for has been asked for when the port begins its next access. -/
theorem settlePort_page (held : SnapshotInUse u) :
    SnapshotInUse (settlePort s u)
      ∧ (∀ q, ((settlePort s u).bus.queue = .statusPage :: q ∨ (settlePort s u).bus.queue = .finalPage :: q) →
          (settlePort s u).bus.snapshot ≠ none)
      ∧ (u.link.reporting = true → pageFields s ≠ pageFields u → (settlePort s u).bus.pageWaits = true
          ∨ ∃ code n, (settlePort s u).bus.snapshot = some (pageBytes u code n)) := by
  have asked : SnapshotInUse (if pageFields s = pageFields u then u else requestPage u)
      ∧ (u.link.reporting = true → pageFields s ≠ pageFields u →
          (if pageFields s = pageFields u then u else requestPage u).bus.pageWaits = true) := by
    split
    · next same => exact ⟨held, fun _ changed => absurd same changed⟩
    · exact ⟨held.requestPage, fun reporting _ => requestPage_waits held reporting⟩
  have eq := settlePort_eq s u
  have shown (code : Nat) (n : Word) : pageBytes (startTransfers (requestFinal
      (if pageFields s = pageFields u then u else requestPage u))) code n = pageBytes u code n := by
    have pages (v : State) : pageBytes (startTransfers (requestFinal v)) code n = pageBytes v code n := by
      unfold requestFinal
      split <;> rfl
    rw [pages]
    split
    · rfl
    · unfold requestPage
      split <;> rfl
  unfold settlePort
  generalize (if pageFields s = pageFields u then u else requestPage u) = v at asked shown ⊢
  have ready := asked.1.requestFinal.startTransfers
  have waits := fun r changed => startTransfers_waits asked.1.requestFinal (requestFinal_waits (asked.2 r changed))
  generalize startTransfers (requestFinal v) = w at ready waits shown ⊢
  rcases beginAccess_cases w with ⟨same, idle⟩ | ⟨⟨q, head⟩, code, n, taken⟩
  · rw [same]
    refine ⟨ready, fun q head none => ?_, fun r changed => .inl (waits r changed)⟩
    rcases head with e | e
    · exact (idle none q).1 e
    · exact (idle none q).2 e
  · refine ⟨fun _ => ⟨q, by rwa [beginAccess_queue]⟩, fun _ _ => by simp [taken], fun _ _ => .inr ⟨code, n, ?_⟩⟩
    rw [taken, shown]

/-- Settles O57. A change is found at the end of the step that made it, and the port's queue keeps the page write asked
for there. -/
theorem changesAreReported : Obligations.ChangesAreReported := by
  intro c s t held h
  obtain ⟨u, passes, rfl⟩ := exec_passes h
  obtain ⟨use, taken, reported⟩ := settlePort_page (s := s) (passes.snapshotInUse held)
  refine ⟨use, taken, fun reporting _ changed => ?_⟩
  rw [settlePort_eq] at reporting changed ⊢
  exact (reported (by simpa [Link.reporting] using reporting) (Ne.symm changed))

end Sys2Proof.Machine
end

section
/-!
PROOFS. The link and the port: `LinkAgrees` does not say that the last page write of a DETACHING is asked for once, and
so a step does not keep it. In a state that waits for two of them the first one's end makes the link DETACHED with the
second still at the port.
-/

namespace Sys2Proof.Machine

open Sys2Proof

/-- A link DETACHING whose last page write waits at the port twice. -/
def finalPageTwice : State :=
  State.withCommand
    { State.reset with
        link := { Link.reset with state := .detaching },
        bus := { Bus.reset with queue := [.finalPage, .finalPage] } }
    (.detachFinalPage true)

theorem finalPageTwice_agrees : LinkAgrees finalPageTwice where
  lanes i := by cases i <;> constructor <;> decide
  attach h := nomatch h
  anchor := by decide
  still _ i := by cases i <;> decide
  final _ := rfl

theorem finalPageTwice_bounds : WithinCapacity finalPageTwice ∧ SettingsInRange finalPageTwice := by
  obtain ⟨-, -, capacity, settings, -⟩ := resetMeetsInvariants
  constructor
  · cases capacity; constructor <;> assumption
  · cases settings; constructor <;> assumption

theorem finalPageTwice_step :
    ∃ t, step finalPageTwice = .next t ∧ t.link.state = .detached ∧ t.bus.queue = [.finalPage] :=
  ⟨_, rfl, rfl, rfl⟩

/-- Refutes O55: the last page write that is asked for a second time waits behind a link that is DETACHED. -/
theorem not_stepKeepsBounds : ¬ Obligations.StepKeepsBounds := by
  intro claim
  obtain ⟨t, stepped, detached, queue⟩ := finalPageTwice_step
  obtain ⟨capacity, settings⟩ := finalPageTwice_bounds
  obtain ⟨-, -, -, agrees, -⟩ :=
    claim finalPageTwice t ⟨capacity, settings, fun _ _ h => (nomatch h), finalPageTwice_agrees⟩ stepped
  have detaching := agrees.final (by simp [queue])
  rw [detached] at detaching
  exact nomatch detaching

end Sys2Proof.Machine
end

section
/-!
PROOFS. The answer of a command as the statements of one step speak of it, and the register window: writes to ANCHOR,
CAUSE, CAUSEMASK and NUDGE, and the scan tick (01 R1, R13, R18, R19; 11 R202).
-/

namespace Sys2Proof.Machine

open Sys2Proof

variable {c : Instr} {s u v : State} {q r l : List BusAccess}

/-! ## The answer of a command -/

theorem settlePort_asked (queue : u.bus.queue = q ++ l) (transfers : u.bus.transfers = r) :
    PortAsked q r (settlePort s u) l := by
  obtain ⟨rest, hq, ht, pages⟩ := settlePort_queue s u
  refine ⟨rest, pages, ?_, ?_⟩
  · rw [hq, queue]
  · rw [ht, transfers, queue]

/-- A command that ends in `u` answers `u` but for the port, and has asked for what `u` has asked for. -/
theorem exec_asksAfter (run : exec c s = commit s u) (queue : u.bus.queue = q ++ l)
    (transfers : u.bus.transfers = s.bus.transfers) :
    ∃ t, exec c s = .next t ∧ t = { u with bus := t.bus } ∧ AsksAfter s q t l :=
  ⟨_, run, settlePort_eq s u, settlePort_asked queue transfers⟩

theorem exec_asks (run : exec c s = commit s u) (queue : u.bus.queue = s.bus.queue ++ l)
    (transfers : u.bus.transfers = s.bus.transfers) :
    ∃ t, exec c s = .next t ∧ t = { u with bus := t.bus } ∧ Asks s t l :=
  exec_asksAfter run queue transfers

/-- A command that ends with the port as it stood asks for nothing. -/
theorem exec_asksNothing (run : exec c s = commit s u) (bus : u.bus = s.bus) :
    ∃ t, exec c s = .next t ∧ t = { u with bus := t.bus } ∧ Asks s t [] :=
  exec_asks run (by rw [bus, List.append_nil]) (by rw [bus])

/-! ## ANCHOR, CAUSE and CAUSEMASK -/

theorem Regs.attn_iff (r : Regs) :
    r.attn = true ↔ ∃ k, k < 13 ∧ r.cause.getLsbD k = true ∧ r.causemask.getLsbD k = true := by
  unfold Regs.attn
  constructor
  · intro h
    refine Classical.byContradiction fun none => ?_
    have zero : r.cause &&& r.causemask = 0#13 := by
      apply BitVec.eq_of_getLsbD_eq
      intro k hk
      have := fun a b => none ⟨k, hk, a, b⟩
      simpa [hk] using this
    simp [zero] at h
  · rintro ⟨k, hk, a, b⟩
    have zero : (r.cause &&& r.causemask).getLsbD k = true := by simp [a, b]
    simp only [bne_iff_ne, ne_eq]
    intro e
    simp [e] at zero

theorem writeAnchor_eq (w : Word) (s : State) : writeAnchor w s = s.modRegs fun r =>
    { r with anchor := if s.link.state = .detached ∨ s.link.state = .fault then w else r.anchor } := by
  unfold writeAnchor
  split <;> rfl

theorem wordWrite_ignored {offset : Nat} {w : Word} {s : State} (aligned : offset % 4 = 0)
    (h : otherRegisterWrite offset 4 w = true) : wordWrite offset w s = s := by
  simp [otherRegisterWrite, aligned] at h
  obtain ⟨-, ((h | h) | h) | ⟨h, none⟩⟩ := h <;> subst h
  · rfl
  · rfl
  · rfl
  · have named : commandOf w = Option.none := by
      unfold commandOf
      split <;> simp_all
    simp [wordWrite, named]

/-- Settles O2, one clause for each register. -/
theorem registerWritesAct : Obligations.RegisterWritesAct := by
  refine ⟨fun w s => ?_, fun w s => ⟨?_, ?_⟩, fun offset width w s wf => ?_⟩
  · obtain ⟨t, run, eq, asks⟩ := exec_asksNothing (c := .anchorWrite w) (s := s) rfl (by unfold writeAnchor; split <;> rfl)
    exact ⟨t, run, asks, eq.trans (by rw [writeAnchor_eq]; rfl)⟩
  · obtain ⟨t, run, eq, asks⟩ := exec_asksNothing (c := .causeClear w) (s := s) rfl rfl
    have cause : t.regs.cause = s.regs.cause &&& ~~~(w.setWidth 13) := by rw [eq]; rfl
    refine ⟨t, run, asks, eq.trans (by rw [cause]; rfl), fun k hk => ?_⟩
    rw [cause]
    simp [hk]
  · obtain ⟨t, run, eq, asks⟩ := exec_asksNothing (c := .causemaskWrite w) (s := s) rfl rfl
    have mask : t.regs.causemask = w.setWidth 13 := by rw [eq]; rfl
    have cause : t.regs.cause = s.regs.cause := by rw [eq]; rfl
    refine ⟨t, run, asks, eq.trans (by rw [mask]; rfl), fun k hk => by rw [mask]; simp [hk], ?_⟩
    rw [Regs.attn_iff, mask, cause]
    exact ⟨fun ⟨k, hk, a, b⟩ => ⟨k, hk, a, by simpa [hk] using b⟩, fun ⟨k, hk, a, b⟩ => ⟨k, hk, a, by simpa [hk] using b⟩⟩
  · by_cases word : width = 4 ∧ offset % 4 = 0
    · obtain ⟨rfl, aligned⟩ := word
      have run : exec (.registerWriteOther offset 4 w) s = commit s (writeAnswered s) :=
        (if_pos ⟨rfl, aligned⟩).trans (by rw [wordWrite_ignored aligned wf])
      obtain ⟨t, run, eq, asks⟩ := exec_asksNothing run rfl
      exact ⟨t, run, asks, eq.trans (by rw [decide_eq_false (by simp [aligned])]; rfl)⟩
    · obtain ⟨t, run, eq, asks⟩ :=
        exec_asksNothing (c := .registerWriteOther offset width w) (s := s) (if_neg word) rfl
      exact ⟨t, run, asks, eq.trans (by rw [decide_eq_true word]; rfl)⟩

/-! ## NUDGE and the scan tick -/

/-- What a nudge that names a lane makes of it. -/
def Lane.nudged (mask : Word) (i : LaneId) (l : Lane) : Lane :=
  { l with nudge := l.nudge || (mask.getLsbD (laneBit i) && (l.state == .taking || l.state == .held)) }

theorem setLane_id (k : Link) (i : LaneId) : k.setLane i id = k := by cases i <;> rfl

theorem setLane_congr (k : Link) (i : LaneId) (f g : Lane → Lane) (h : f (k.lane i) = g (k.lane i)) :
    k.setLane i f = k.setLane i g := by
  cases i <;> simp_all [Link.setLane, Link.lane]

theorem setLane_same (k : Link) (i : LaneId) (f : Lane → Lane) (h : f (k.lane i) = k.lane i) : k.setLane i f = k :=
  (setLane_congr k i f id h).trans (setLane_id k i)

theorem Lane.nudged_same {mask : Word} {i : LaneId} {k : Lane} (h : k.state ≠ .taking ∧ k.state ≠ .held) :
    Lane.nudged mask i k = k := by
  obtain ⟨taking, held⟩ := h
  simp [Lane.nudged, beq_eq_false_iff_ne.mpr taking, beq_eq_false_iff_ne.mpr held]

/-- The accesses a nudge asks of one lane. -/
def nudgeReads (mask : Word) (s : State) (i : LaneId) : List BusAccess :=
  if mask.getLsbD (laneBit i) && (s.link.lane i).state == .parked then [.linkRead i (linkAddress i s) .nudge] else []

theorem nudgeIf_eq (mask : Word) (i : LaneId) (s : State) :
    nudgeIf mask i s =
      { s with link := s.link.setLane i (Lane.nudged mask i),
               bus := { s.bus with queue := s.bus.queue ++ nudgeReads mask s i } } := by
  have same (h : (s.link.lane i).state ≠ .taking ∧ (s.link.lane i).state ≠ .held) :
      s.link.setLane i (Lane.nudged mask i) = s.link := setLane_same _ _ _ (Lane.nudged_same h)
  unfold nudgeIf
  by_cases named : mask.getLsbD (laneBit i) = true
  · rw [if_pos named]
    unfold nudgeLane
    split
    · next h => rw [same (by simp [h])]; simp [nudgeReads, named, h, requestLink, enqueue, State.modBus]
    · next h =>
      rw [setLane_congr _ _ _ (fun l => { l with nudge := true }) (by simp [Lane.nudged, h, named])]
      simp [nudgeReads, h, State.modLane, State.modLink]
    · next h =>
      rw [setLane_congr _ _ _ (fun l => { l with nudge := true }) (by simp [Lane.nudged, h, named])]
      simp [nudgeReads, h, State.modLane, State.modLink]
    · next h => rw [same (by simp [h])]; simp [nudgeReads, h]
    · next h => rw [same (by simp [h])]; simp [nudgeReads, h]
  · rw [if_neg named, setLane_same _ _ _ (by simp [Lane.nudged, named])]
    simp [nudgeReads, named]

/-- The link reads that a NUDGE write asks for. -/
def nudgeLinks (mask : Word) (s : State) : List BusAccess :=
  ([LaneId.display, .store, .control].filter fun i =>
    mask.getLsbD (laneBit i) && (s.link.lane i).state == .parked).map fun i => .linkRead i (linkAddress i s) .nudge

theorem nudgeLinks_eq (mask : Word) (s : State) :
    nudgeLinks mask s = nudgeReads mask s .display ++ (nudgeReads mask s .store ++ nudgeReads mask s .control) := by
  simp only [nudgeLinks, nudgeReads, List.filter_cons, List.filter_nil]
  split <;> split <;> split <;> simp

theorem writeNudge_attached {mask : Word} {s : State} (h : s.link.state = .attached) :
    ∃ k, writeNudge mask s =
        { s with link := k, bus := { s.bus with queue := s.bus.queue ++ nudgeLinks mask s } }
      ∧ ∀ i, k.lane i = Lane.nudged mask i (s.link.lane i) := by
  refine ⟨((s.link.setLane .display (Lane.nudged mask .display)).setLane .store (Lane.nudged mask .store)).setLane
    .control (Lane.nudged mask .control), ?_, fun i => by cases i <;> rfl⟩
  unfold writeNudge
  rw [if_pos h]
  simp only [nudgeIf_eq]
  rw [nudgeLinks_eq]
  simp only [List.append_assoc]
  rfl

theorem tickLane_eq (i : LaneId) (s : State) :
    tickLane i s = { s with bus := { s.bus with queue := s.bus.queue ++
      if (s.link.lane i).state == .parked then [.linkRead i (linkAddress i s) .tick] else [] } } := by
  unfold tickLane
  split <;> simp_all [requestLink, enqueue, State.modBus]

/-- Settles O3: lane by lane, and each lane's read depends on what no other lane's nudge changes. -/
theorem nudgeAndScan : Obligations.NudgeAndScan := by
  refine fun mask s => ⟨fun h => ?_, fun h => ?_, fun h on => ?_⟩
  · obtain ⟨k, nudged, lanes⟩ := writeNudge_attached (mask := mask) (s := writeAnswered s) h
    have run : exec (.nudge mask) s = commit s (writeNudge mask (writeAnswered s)) := rfl
    obtain ⟨t, run, eq, asks⟩ := exec_asks run (by rw [nudged]; rfl) (by rw [nudged]; rfl)
    rw [nudged] at eq
    have link : t.link = k := by rw [eq]
    exact ⟨t, run, by rw [link]; exact eq, fun i => by rw [link, lanes i]; rfl, asks⟩
  · obtain ⟨t, run, eq, asks⟩ := exec_asksNothing (c := .nudge mask) (s := s) rfl (by simp [writeNudge, writeAnswered, h])
    exact ⟨t, run, asks, eq.trans (by simp [writeNudge, writeAnswered, h])⟩
  · have run : exec .scanTick s = commit s (tickLane .control (tickLane .store (tickLane .display s))) :=
      if_pos ⟨h, on⟩
    simp only [tickLane_eq] at run
    obtain ⟨t, run, eq, asks⟩ := exec_asks run (l := ([LaneId.display, .store, .control].filter fun i =>
        (s.link.lane i).state == .parked).map fun i => .linkRead i (linkAddress i s) .tick) (by
      simp only [List.append_assoc, List.filter_cons, List.filter_nil]
      congr 1
      split <;> split <;> split <;> rfl) rfl
    exact ⟨t, run, eq, asks⟩

end Sys2Proof.Machine
end

section
/-!
PROOFS. CONTROL writes and Full Reset (01 R2, R5, R6; 03 R46, R50, R53, R59): what follows a step while nothing waits,
and the port and the registers at the end of a step.
-/

namespace Sys2Proof.Machine

open Sys2Proof

variable {c : Instr} {s u v : State} {q r l : List BusAccess}

/-! ## What follows a step while nothing waits -/

theorem evaluateStarts_empty (h : s.panel.pending = []) : evaluateStarts s = s := by
  simp [evaluateStarts, h, startAll]

theorem tryOffer_other (h : s.turn.state ≠ .offering) : tryOffer s = s := by
  simp [tryOffer, h]

theorem settlePanel_quiet (pending : s.panel.pending = []) (turn : s.turn.state ≠ .offering) : settlePanel s = s := by
  rw [settlePanel, evaluateStarts_empty pending, tryOffer_other turn]

theorem considerHead_noPress (h : s.turn.queue = []) : considerHead s = s := by
  unfold considerHead
  dsimp only
  split <;> simp [h]

theorem settleAll_quiet (h : Quiet s) : settleAll s = s := by
  obtain ⟨pending, idle, presses, descent⟩ := h
  have descent : finishDescent s = s := by simp [finishDescent, descent]
  rw [settleAll, descent, settlePanel_quiet pending (by simp [idle]), considerHead_noPress presses]

theorem removeEntries_empty (result : ResultCode) (p : Entry → Bool) (h : s.panel.pending = []) :
    removeEntries result p s = s := by
  have same : (s.modPanel fun x => { x with pending := x.pending.filter fun e => !p e }) = s := by
    have panel : { s.panel with pending := s.panel.pending.filter fun e => !p e } = s.panel := by
      rw [h, List.filter_nil, ← h]
    rw [State.modPanel, panel]
  rw [removeEntries, same, h, List.filter_nil, endEntries]

/-! ## The end of a step -/

/-- The port settles alike whatever the registers hold. -/
theorem settlePort_modRegs (s u : State) (f : Regs → Regs) :
    settlePort s (u.modRegs f) = (settlePort s u).modRegs f := by
  have page (v : State) : requestPage (v.modRegs f) = (requestPage v).modRegs f := by
    by_cases h : (v.link.reporting && !v.bus.pageWaits) = true
    · exact (if_pos h).trans (congrArg (State.modRegs · f) (if_pos h : requestPage v = enqueue .statusPage v)).symm
    · exact (if_neg h).trans (congrArg (State.modRegs · f) (if_neg h : requestPage v = v)).symm
  have final (v : State) : requestFinal (v.modRegs f) = (requestFinal v).modRegs f := by
    by_cases h : finalDue v = true
    · exact (if_pos h).trans (congrArg (State.modRegs · f) (if_pos h : requestFinal v = enqueue .finalPage v)).symm
    · exact (if_neg h).trans (congrArg (State.modRegs · f) (if_neg h : requestFinal v = v)).symm
  have begins (v : State) : beginAccess (v.modRegs f) = (beginAccess v).modRegs f := by
    unfold beginAccess
    simp only [State.modRegs_bus]
    split <;> rfl
  have fields : pageFields (u.modRegs f) = pageFields u := rfl
  unfold settlePort
  rw [fields, page, ← apply_ite (State.modRegs · f), final, show ∀ v : State,
    startTransfers (v.modRegs f) = (startTransfers v).modRegs f from fun _ => rfl, begins]

theorem settlePort_regsBefore (s u : State) (f : Regs → Regs) : settlePort (s.modRegs f) u = settlePort s u := rfl

/-- With the port empty and the link DETACHED nothing is asked for. -/
theorem settlePort_reset (bus : u.bus = .reset) (link : u.link.state = .detached) : settlePort s u = u := by
  have page : requestPage u = u := by simp [requestPage, Link.reporting, link]
  have final : requestFinal u = u := by simp [requestFinal, finalDue, link]
  have starts : startTransfers u = u := by
    cases u; simp_all [startTransfers, State.modBus, Bus.reset]
  unfold settlePort
  rw [page, ite_self, final, starts]
  simp [beginAccess, bus, Bus.reset]

/-- A command that ends with the port reset answers that state itself. -/
theorem exec_reset (run : exec c s = commit s u) (bus : u.bus = .reset) (link : u.link.state = .detached) :
    exec c s = .next u := by
  rw [run, commit, settlePort_reset bus link]

theorem exec_settled (run : exec c s = commit s (settleAll u)) (quiet : Quiet u) : exec c s = commit s u := by
  rw [run, settleAll_quiet quiet]

/-! ## CONTROL writes -/

theorem controlWrite_taken {x : ControlCommand} (free : s.link.attaching = false) (none : s.regs.waiting = none) :
    controlWrite x (writeAnswered s) = takeCommand x (writeAnswered s) := by
  simp [controlWrite, writeAnswered, free, none]

theorem controlWrite_waits {x : ControlCommand} (h : s.link.attaching = true ∨ s.regs.waiting ≠ none) :
    controlWrite x (writeAnswered s) =
      s.modRegs fun r => { r with slaveError := false, waiting := s.regs.waiting.or (some x) } := by
  have taken : (s.link.attaching || s.regs.waiting.isSome) = true := by
    rcases h with h | h <;> simp [h, Option.isSome_iff_ne_none]
  simp [controlWrite, writeAnswered, taken, State.modRegs]

theorem enterDetaching_running (h : s.panel.engine ≠ .halted) : enterDetaching s = s.modLink Link.detaching :=
  if_neg h

/-- A DETACHING that begins while no entry waits: a HALTED engine has none to flush. -/
theorem enterDetaching_quiet (pending : s.panel.pending = []) (turn : s.turn.state ≠ .offering) :
    enterDetaching s = s.modLink Link.detaching := by
  unfold enterDetaching
  dsimp only
  split
  · exact (congrArg settlePanel (removeEntries_empty (s := s.modLink Link.detaching) _ _ pending)).trans
      (settlePanel_quiet (s := s.modLink Link.detaching) pending turn)
  · rfl

theorem takeAttach_free (link : s.link.state = .detached ∨ s.link.state = .fault) :
    takeAttach s =
      if s.power.state = .deep ∧ s.power.cls = .exhausted then s
      else if s.power.state = .run then startAttach (s.modRegs fun r => { r with hostwake := false })
      else wakeEvent .attach (attachToWait s) :=
  if_neg (by rcases link with h | h <;> simp [h])

theorem startAttach_free (link : s.link.state = .detached ∨ s.link.state = .fault) :
    startAttach s = enqueue (.anchorRead s.regs.anchor)
      ((s.modRegs fun r => { r with attachWaits := false }).modLink fun l =>
        { l with state := .detached, attaching := true }) :=
  if_neg (by rcases link with h | h <;> simp [h])

/-- The first statement of ATTACH: what it does by power state. -/
theorem attachTaken (free : s.link.attaching = false) (none : s.regs.waiting = none)
    (link : s.link.state = .detached ∨ s.link.state = .fault) :
    exec .attach s = commit s
      (if s.power.state = .deep ∧ s.power.cls = .exhausted then writeAnswered s
      else if s.power.state = .run then
        enqueue (.anchorRead s.regs.anchor)
          ((s.modRegs fun r => { r with slaveError := false, hostwake := false, attachWaits := false }).modLink fun l =>
            { l with state := .detached, attaching := true })
      else wakeEvent .attach (attachToWait (writeAnswered s))) := by
  have run : exec .attach s = commit s (controlWrite .attach (writeAnswered s)) := rfl
  rw [run, controlWrite_taken free none, takeCommand, takeAttach_free (s := writeAnswered s) link,
    startAttach_free (s := (writeAnswered s).modRegs fun r => { r with hostwake := false }) link]
  rfl

/-! ## ATTACH and DETACH -/

theorem wakeEvent_doze (s : State) {r : WakeReason} (doze : InDoze s) (calm : s.power.descentPending = false) (hr : r ≠ .coverOpen) :
    wakeEvent r s = wakeFromDoze r s := by
  rcases doze with h | h | h <;> simp [wakeEvent, h, calm, hr]

theorem wakeEvent_deepEntry (s : State) {r : WakeReason} (h : s.power.state = .deepEntry) : wakeEvent r s = rememberWake r s := by
  simp [wakeEvent, h]

theorem wakeEvent_waking (s : State) {r : WakeReason} (h : s.power.state = .waking) : wakeEvent r s = s := by
  simp [wakeEvent, h]

theorem wakeEvent_deep (s : State) {r : WakeReason} (h : s.power.state = .deep) (hr : r.reachesDeep = true)
    (cls : s.power.cls = .exhausted → r = .charger) : wakeEvent r s = wakeFromDeep r s := by
  have taken : ¬ (s.power.cls = .exhausted ∧ r ≠ .charger) := fun ⟨e, n⟩ => n (cls e)
  simp [wakeEvent, h, hr, wakeInDeep, taken]

theorem takeDetach_attached (h : s.link.state = .attached) (engine : s.panel.engine ≠ .halted) :
    takeDetach s = (s.modRegs fun r => { r with attachWaits := false }).modLink Link.detaching := by
  unfold takeDetach
  simp only [State.modRegs_link, h]
  exact enterDetaching_running engine

theorem takeDetach_fault (h : s.link.state = .fault) :
    takeDetach s = (s.modRegs fun r => { r with attachWaits := false }).modLink fun l => { l with state := .detached } := by
  unfold takeDetach
  simp only [State.modRegs_link, h]

theorem takeDetach_detached (h : s.link.state = .detached) :
    takeDetach s = s.modRegs fun r => { r with attachWaits := false } := by
  unfold takeDetach
  simp only [State.modRegs_link, h]

theorem Link.detaching_lane (k : Link) (i : LaneId) : (Link.detaching k).lane i = (k.lane i).detach := by
  cases i <;> rfl

theorem WorkMem.leave_selfRefresh {w : WorkMem} (h : w.state = .selfRefresh) : w.leave = { w with state := .leaving } := by
  simp [WorkMem.leave, h]

/-- A wake from a DOZE state, written out. -/
theorem wakingFromDoze_eq (r : WakeReason) (x : State) : wakingFromDoze r x =
    { x with
        regs := { x.regs with cause := x.regs.cause ||| causeBit wakeCause,
                              hostwake := if r = .attach then x.regs.hostwake else true },
        sense := x.sense.changeState x.power.state .waking,
        power := { x.power with wakeReason := r, dozeTimer := none, wakeTimer := none, drainAsked := false,
                                resetPending := r == .engineReset, state := .waking },
        wm := x.wm.leave,
        panel := { x.panel with flushed := false } } := by
  unfold wakingFromDoze recordWake
  by_cases h : r = .attach
  · subst h; rfl
  · simp only [if_neg h]; rfl

/-- Settles O4, by power state and by link state. -/
theorem attachAndDetachTaken : Obligations.AttachAndDetachTaken := by
  refine ⟨fun s free none link => ?_, fun s => ⟨fun free none quiet engine => ?_, fun c x named quiet waits => ?_⟩⟩
  · have run := attachTaken free none link
    refine ⟨fun h => ?_, fun doze calm => ?_, fun h => ?_, fun h => ?_, fun h awake => ?_, fun h dead => ?_⟩
    · rw [if_neg (by simp [h]), if_pos h] at run
      exact exec_asks run rfl rfl
    · rw [if_neg (by rcases doze with h | h | h <;> simp [h]), if_neg (by rcases doze with h | h | h <;> simp [h]),
        wakeEvent_doze (attachToWait (writeAnswered s)) (r := .attach) doze calm nofun, wakeFromDoze_eq, if_neg (by simp)] at run
      rw [wakingFromDoze_eq] at run
      refine ⟨_, run, ?_⟩
      rw [settlePort_eq]
      exact ⟨rfl, rfl, rfl, rfl, rfl, rfl, rfl, rfl, rfl, rfl, WorkMem.leave_selfRefresh, rfl,
        (WorkMem.leave_keeps s.wm).1, rfl⟩
    · rw [if_neg (by simp [h]), if_neg (by simp [h]), wakeEvent_deepEntry (attachToWait (writeAnswered s)) h] at run
      exact (exec_asksNothing run rfl).imp fun t ⟨run, eq, asks⟩ => ⟨run, asks, eq⟩
    · rw [if_neg (by simp [h]), if_neg (by simp [h]), wakeEvent_waking (attachToWait (writeAnswered s)) h] at run
      exact (exec_asksNothing run rfl).imp fun t ⟨run, eq, asks⟩ => ⟨run, asks, eq⟩
    · rw [if_neg (by simp [awake]), if_neg (by simp [h]), wakeEvent_deep (attachToWait (writeAnswered s)) h rfl (fun e => absurd e awake)] at run
      refine ⟨_, exec_reset run rfl rfl, ?_⟩
      exact ⟨rfl, rfl, rfl, rfl, rfl, rfl, rfl, rfl, rfl, rfl, rfl, rfl, fun _ => rfl, rfl, rfl, rfl⟩
    · rw [if_pos ⟨h, dead⟩] at run
      exact (exec_asksNothing run rfl).imp fun t ⟨run, eq, asks⟩ => ⟨run, asks, eq⟩
  · have run : exec .detach s = commit s (settleAll (takeDetach (writeAnswered s))) :=
      congrArg (fun u => commit s (settleAll u)) (controlWrite_taken free none)
    refine ⟨fun h => ?_, fun h => ?_, fun h => ?_⟩
    · rw [takeDetach_attached (s := writeAnswered s) h engine] at run
      refine ⟨_, exec_settled run quiet, ?_⟩
      rw [settlePort_eq]
      refine ⟨rfl, rfl, rfl, fun i => ?_⟩
      rw [State.modLink_link, Link.detaching_lane, Lane.detach]
      dsimp only [writeAnswered, State.modRegs]
      split <;> simp_all
    · rw [takeDetach_fault (s := writeAnswered s) h] at run
      exact ⟨_, exec_settled run quiet, settlePort_eq _ _⟩
    · rw [takeDetach_detached (s := writeAnswered s) h] at run
      exact (exec_asksNothing (exec_settled run quiet) rfl).imp fun t ⟨run, eq, asks⟩ => ⟨run, asks, eq⟩
  · have written := controlWrite_waits (x := x) waits
    have run : exec c s = commit s (s.modRegs fun r =>
        { r with slaveError := false, waiting := s.regs.waiting.or (some x) }) := by
      rcases named with ⟨rfl, rfl⟩ | ⟨rfl, rfl⟩ | ⟨rfl, rfl⟩
      · exact congrArg (commit s) written
      · exact (congrArg (fun u => commit s (settleAll u)) written).trans (congrArg (commit s) (settleAll_quiet quiet))
      · exact congrArg (commit s) written
    exact (exec_asksNothing run rfl).imp fun t ⟨run, eq, asks⟩ => ⟨run, asks, eq⟩

/-! ## ENGINE_RESET -/

theorem engineResetTaken_run (free : s.link.attaching = false) (none : s.regs.waiting = none) :
    exec .engineReset s = commit s (takeEngineReset (writeAnswered s)) :=
  congrArg (commit s) (controlWrite_taken free none)

theorem Sense.startOwed_waits {n : Sense} {p : PowerState}
    (h : n.sweep ≠ none ∨ (n.remembered = false ∧ n.fullDue = false)) : n.startOwed p = n := by
  refine if_neg ?_
  rcases h with h | ⟨a, b⟩
  · simp [Sense.occupied, Option.isSome_iff_ne_none.mpr h]
  · simp [a, b]

theorem Sense.startOwed_starts {n : Sense} {p : PowerState} (sweep : n.sweep = none) (setup : n.setup = none)
    (h : n.remembered = true ∨ n.fullDue = true) : n.startOwed p = n.startSweep p := by
  refine if_pos ?_
  rcases h with h | h <;> simp [Sense.occupied, sweep, setup, h]

theorem wakingFromDoze_notLeaving (r : WakeReason) (h : s.wm.state = .active ∨ s.wm.state = .entering
    ∨ s.wm.state = .initialising) : (wakingFromDoze r s).wm.state ≠ .leaving := by
  rw [wakingFromDoze_wm]
  rcases h with h | h | h <;> simp [WorkMem.leave, h]

theorem wakeFromDoze_resets (h : s.wm.state = .active ∨ s.wm.state = .entering ∨ s.wm.state = .initialising) :
    wakeFromDoze .engineReset s = engineReset (wakingFromDoze .engineReset s) := by
  rw [wakeFromDoze_eq, if_pos ⟨rfl, wakingFromDoze_notLeaving _ h⟩]

theorem wakeFromDoze_resetWaits (h : s.wm.state = .selfRefresh) :
    wakeFromDoze .engineReset s = wakingFromDoze .engineReset s := by
  rw [wakeFromDoze_eq, if_neg (by simp [WorkMem.leave, h])]

/-- Settles O5, by power state. -/
theorem engineResetTaken : Obligations.EngineResetTaken := by
  intro s free none
  have run := engineResetTaken_run free none
  refine ⟨fun h => ?_, fun h calm => ?_, fun h => ?_⟩
  · have taken : takeEngineReset (writeAnswered s) = engineReset (writeAnswered s) := by
      simp [takeEngineReset, writeAnswered, h]
    rw [taken] at run
    have sense : (engineReset (writeAnswered s)).sense = ({ s.sense with setup := Option.none } : Sense).startOwed .run :=
      congrArg (fun p => ({ s.sense with setup := Option.none } : Sense).startOwed p) h
    refine ⟨_, exec_reset run rfl rfl, rfl, rfl, rfl, rfl, rfl, fun waits => ?_, fun sweep owed => ?_, rfl, rfl, rfl, rfl,
      rfl, rfl, fun i => ?_, ?_⟩
    · rw [sense]
      exact Sense.startOwed_waits waits
    · rw [sense]
      exact Sense.startOwed_starts sweep rfl owed
    · cases i <;> exact ⟨rfl, rfl, rfl, rfl, rfl⟩
    · exact ⟨rfl, rfl, rfl, rfl, rfl, rfl, rfl, rfl, rfl, rfl, rfl, rfl, rfl, rfl, rfl, rfl, rfl, rfl, rfl, rfl, rfl, rfl,
        rfl, fun _ => rfl, rfl, rfl, rfl, rfl, rfl⟩
  · have taken : takeEngineReset (writeAnswered s) = wakeFromDoze .engineReset (writeAnswered s) := by
      have doze := wakeEvent_doze (writeAnswered s) (r := .engineReset) (.inr h) calm nofun
      rcases h with h | h
      · exact (by simp [takeEngineReset, writeAnswered, h] : _ = wakeEvent _ _).trans doze
      · exact (by simp [takeEngineReset, writeAnswered, h] : _ = wakeEvent _ _).trans doze
    rw [taken] at run
    refine ⟨fun memory => ?_, fun memory => ?_⟩
    · rw [wakeFromDoze_resetWaits (s := writeAnswered s) memory, wakingFromDoze_eq] at run
      refine ⟨_, run, (settlePort_eq _ _).trans ?_⟩
      have leave : (writeAnswered s).wm.leave = { s.wm with state := .leaving } := WorkMem.leave_selfRefresh memory
      have sense : (writeAnswered s).sense.changeState (writeAnswered s).power.state .waking =
          { s.sense with timer := some s.sense.runPeriod } := by
        rcases h with h | h <;> simp [writeAnswered, h, Sense.changeState, periodKind, Sense.period]
      rw [leave, sense]
      rfl
    · rw [wakeFromDoze_resets (s := writeAnswered s) memory, wakingFromDoze_eq] at run
      refine ⟨_, exec_reset run rfl rfl, rfl, rfl, rfl, rfl, rfl, rfl, ?_⟩
      have epoch : (writeAnswered s).wm.leave.epoch = s.wm.epoch := by simp [writeAnswered]
      refine ⟨congrArg (fun n => WorkMem.initialising (n + 1)) epoch, rfl, rfl, rfl, rfl, rfl, rfl, rfl, rfl, rfl, rfl, rfl,
        rfl, rfl, fun _ => rfl, rfl, rfl, rfl⟩
  · have taken : takeEngineReset (writeAnswered s) = writeAnswered s := by
      rcases h with h | h | h | h <;> simp [takeEngineReset, writeAnswered, h]
    rw [taken] at run
    exact (exec_asksNothing run rfl).imp fun t ⟨run, eq, asks⟩ => ⟨run, asks, eq⟩

/-! ## The CONTROL write that waits -/

theorem startAttach_busy (link : s.link.state = .attached ∨ s.link.state = .detaching) :
    startAttach s = s.modRegs fun r => { r with attachWaits := false } :=
  if_pos link

/-- The answer on the bus goes by whatever command is taken in RUN, and so does the place of the write that waits. -/
structure TakenQuietly (take : State → State) (s : State) : Prop where
  answer  : take (writeAnswered s) = writeAnswered (take s)
  error   : (take s).regs.slaveError = s.regs.slaveError
  waiting : (take s).regs.waiting = s.regs.waiting
  quiet   : Quiet (take s)

theorem takeAttach_run (run : s.power.state = .run) (quiet : Quiet s) : TakenQuietly takeAttach s := by
  have busy (link : s.link.state = .attached ∨ s.link.state = .detaching) (x : State) (h : x.link = s.link) :
      takeAttach x = x := if_pos (by rw [h]; exact link)
  have free (link : s.link.state = .detached ∨ s.link.state = .fault) (x : State) (h : x.link = s.link)
      (p : x.power = s.power) : takeAttach x = enqueue (.anchorRead x.regs.anchor)
        ((x.modRegs fun r => { r with hostwake := false, attachWaits := false }).modLink fun l =>
          { l with state := .detached, attaching := true }) := by
    rw [takeAttach_free (by rwa [h]), if_neg (by simp [p, run]), if_pos (by rw [p, run])]
    exact startAttach_free (s := x.modRegs fun r => { r with hostwake := false }) (by rwa [State.modRegs_link, h])
  have split : (s.link.state = .attached ∨ s.link.state = .detaching) ∨ (s.link.state = .detached ∨ s.link.state = .fault) := by
    cases s.link.state <;> simp
  rcases split with link | link
  · refine ⟨?_, ?_, ?_, ?_⟩ <;> simp only [busy link s rfl, busy link (writeAnswered s) rfl]
    exact quiet
  · refine ⟨?_, ?_, ?_, ?_⟩ <;> simp only [free link s rfl rfl, free link (writeAnswered s) rfl rfl]
    · rfl
    · rfl
    · rfl
    · exact quiet

theorem takeDetach_quiet (quiet : Quiet s) : TakenQuietly takeDetach s := by
  have attached (h : s.link.state = .attached) (x : State) (link : x.link = s.link) (panel : x.panel = s.panel)
      (turn : x.turn = s.turn) :
      takeDetach x = (x.modRegs fun r => { r with attachWaits := false }).modLink Link.detaching := by
    unfold takeDetach
    simp only [State.modRegs_link, link, h]
    exact enterDetaching_quiet (by simp [panel, quiet.1]) (by simp [turn, quiet.2.1])
  rcases h : s.link.state with _ | _ | _ | _
  · have eq (x : State) (link : x.link = s.link) := takeDetach_detached (s := x) (link ▸ h)
    exact ⟨by rw [eq s rfl, eq (writeAnswered s) rfl]; rfl, by rw [eq s rfl]; rfl, by rw [eq s rfl]; rfl,
      by rw [eq s rfl]; exact quiet⟩
  · have eq := attached h
    exact ⟨by rw [eq s rfl rfl rfl, eq (writeAnswered s) rfl rfl rfl]; rfl, by rw [eq s rfl rfl rfl]; rfl,
      by rw [eq s rfl rfl rfl]; rfl, by rw [eq s rfl rfl rfl]; exact quiet⟩
  · have eq (x : State) (link : x.link = s.link) :
        takeDetach x = x.modRegs fun r => { r with attachWaits := false } := by
      unfold takeDetach
      simp only [State.modRegs_link, link, h]
    exact ⟨by rw [eq s rfl, eq (writeAnswered s) rfl]; rfl, by rw [eq s rfl]; rfl, by rw [eq s rfl]; rfl,
      by rw [eq s rfl]; exact quiet⟩
  · have eq (x : State) (link : x.link = s.link) := takeDetach_fault (s := x) (link ▸ h)
    exact ⟨by rw [eq s rfl, eq (writeAnswered s) rfl]; rfl, by rw [eq s rfl]; rfl, by rw [eq s rfl]; rfl,
      by rw [eq s rfl]; exact quiet⟩

theorem takeEngineReset_quiet (run : s.power.state = .run) : TakenQuietly takeEngineReset s := by
  have eq (x : State) (power : x.power = s.power) : takeEngineReset x = engineReset x := by
    simp [takeEngineReset, power, run]
  exact ⟨by rw [eq s rfl, eq (writeAnswered s) rfl]; rfl, by rw [eq s rfl]; rfl, by rw [eq s rfl]; rfl,
    by rw [eq s rfl]; exact ⟨rfl, rfl, rfl, rfl⟩⟩

theorem takeCommand_quiet (x : ControlCommand) (run : s.power.state = .run) (quiet : Quiet s) :
    TakenQuietly (takeCommand x) s :=
  match x with
  | .attach      => takeAttach_run run quiet
  | .detach      => takeDetach_quiet quiet
  | .engineReset => takeEngineReset_quiet run

theorem eq_answered {e : Bool} (h : v.regs.slaveError = e) :
    v = { writeAnswered v with regs := { (writeAnswered v).regs with slaveError := e } } := by
  subst h; rfl

/-- The row of the command table that a CONTROL write is. -/
def ControlCommand.row : ControlCommand → Instr
  | .attach      => .attach
  | .detach      => .detach
  | .engineReset => .engineReset

/-- A CONTROL write acts as its command, in a state where nothing waits. -/
theorem exec_control (x : ControlCommand) (free : s.link.attaching = false) (none : s.regs.waiting = none)
    (quiet : Quiet (takeCommand x (writeAnswered s))) :
    exec x.row s = commit s (takeCommand x (writeAnswered s)) := by
  cases x with
  | attach => exact congrArg (commit s) (controlWrite_taken free none)
  | detach =>
    exact exec_settled (congrArg (fun u => commit s (settleAll u)) (controlWrite_taken free none)) quiet
  | engineReset => exact congrArg (commit s) (controlWrite_taken free none)

/-- Settles O6: neither the place where the write waited nor the answer on the bus changes what the command does. -/
theorem waitingCommandActs : Obligations.WaitingCommandActs := by
  intro s x waits free run quiet
  have taken := takeCommand_quiet (s := s.modRegs fun r => { r with waiting := none }) x run quiet
  have answered : Quiet (takeCommand x (writeAnswered (s.modRegs fun r => { r with waiting := none }))) := by
    rw [taken.answer]; exact taken.quiet
  have act : exec .waitingCommandTaken s =
      commit s (settleAll (takeCommand x (s.modRegs fun r => { r with waiting := none }))) := by
    simp [exec, execWaitingCommandTaken, waits, free]
  refine ⟨_, _, exec_settled act taken.quiet, ?_,
    exec_control (s := s.modRegs fun r => { r with waiting := none }) x free rfl answered, ?_⟩
  · rw [settlePort_eq]
    exact taken.waiting
  · rw [taken.answer, settlePort_regsBefore, writeAnswered, settlePort_modRegs]
    exact eq_answered ((congrArg (·.regs.slaveError) (settlePort_eq s _)).trans taken.error)

/-! ## Full Reset -/

/-- Settles O7: Full Reset is a state written out, and the port asks for nothing after it. -/
theorem fullResetTaken : Obligations.FullResetTaken := by
  intro s
  have run : exec .fullReset s = commit s (fullReset s) := rfl
  refine ⟨_, exec_reset run rfl rfl, rfl, rfl, fun program mark erase => ?_, ?_⟩
  · have array : (fullReset s).store.array = s.store.abandoned := rfl
    have op : s.store.abandonedOp = s.store.array := by
      unfold Store.abandonedOp
      split
      · next h => exact absurd h (program _ _)
      · next h => exact absurd h (mark _)
      · rfl
      · rfl
      · rfl
    rw [array]
    simp only [Store.abandoned, erase, op]
  · and_intros
    any_goals rfl
    · intro i; cases i <;> exact ⟨rfl, rfl, rfl, rfl, rfl⟩
    · intro i; cases i <;> rfl
    · exact fun _ => rfl
    · intro i; cases i <;> exact ⟨rfl, rfl, rfl⟩

end Sys2Proof.Machine
end

section
/-!
PROOFS. The Link Engine's reads (01 R9, R10, R12 to R14, R16): records, links, and the release of a HELD lane.
-/

namespace Sys2Proof.Machine

open Sys2Proof

variable {c : Instr} {s u v : State} {q r l : List BusAccess} {i : LaneId}

/-! ## Lanes -/

@[simp] theorem Link.setLane_setLane (k : Link) (i : LaneId) (f g : Lane → Lane) :
    (k.setLane i f).setLane i g = k.setLane i fun x => g (f x) := by
  cases i <;> rfl

theorem Link.ext_lanes {k m : Link} (state : k.state = m.state) (low : k.low = m.low) (high : k.high = m.high)
    (statusAddr : k.statusAddr = m.statusAddr) (scanPeriod : k.scanPeriod = m.scanPeriod) (scanOn : k.scanOn = m.scanOn)
    (attaching : k.attaching = m.attaching) (lanes : ∀ i, k.lane i = m.lane i) : k = m := by
  have display := lanes .display
  have store := lanes .store
  have control := lanes .control
  cases k; cases m; simp_all [Link.lane]

/-- A lane's state is the only thing its window test and its table capacity do not read. -/
theorem inWindow_iff (k : Link) (a n : Nat) :
    k.inWindow a n = true ↔ k.low.toNat ≤ a ∧ a + n ≤ k.high.toNat := by
  simp [Link.inWindow]

theorem canAccept_port (k : Kind) (s : State) (q : List BusAccess) : canAccept k (s.popped q) = canAccept k s := rfl

/-- A lane with room in its table and its cursor in the window reads the record there. -/
theorem takeCursor_reads (room : (s.link.lane i).table.length < tableCapacity i)
    (window : s.link.low.toNat ≤ (s.link.lane i).cursor.toNat ∧ (s.link.lane i).cursor.toNat + 128 ≤ s.link.high.toNat) :
    takeCursor i s = enqueue (.recordRead i (s.link.lane i).cursor)
      (s.modLane i fun l => { l with state := .taking, copy := none }) := by
  have within := (inWindow_iff s.link _ 128).mpr window
  simp [takeCursor, Nat.not_le.mpr room, within]

theorem takeCursor_full (full : ¬ (s.link.lane i).table.length < tableCapacity i) :
    takeCursor i s = s.modLane i fun l => { l with state := .held, copy := none } :=
  if_pos (Nat.not_lt.mp full)

theorem stopLane_running (h : (s.link.lane i).state ≠ .stopped) (addr : Word) :
    stopLane i addr s = setCause laneStopped
      ((s.modBus fun b => { b with queue := b.queue.filter fun a => !a.readsFor i }).modLane i fun l =>
        { l with state := .stopped, stopAddr := addr, copy := none }) :=
  if_neg h

theorem modLane_congr {f g : Lane → Lane} (h : f (s.link.lane i) = g (s.link.lane i)) : s.modLane i f = s.modLane i g :=
  congrArg (fun k => { s with link := k }) (setLane_congr s.link i f g h)

/-! ## A HELD lane -/

/-- Settles O10. -/
theorem heldLaneResumes : Obligations.HeldLaneResumes := by
  refine fun s i held => ⟨fun r k copy kind accepts => ?_, fun copy room low high => ?_⟩
  · have run : exec (.heldRelease i) s = commit s (s.modLane i fun l => { l with state := .taking }) := by
      simp [exec, execHeldRelease, releaseHeld, held, copy, kind, accepts]
    exact (exec_asksNothing run rfl).imp fun t ⟨run, eq, asks⟩ => ⟨run, asks, eq⟩
  · have run : exec (.heldRelease i) s = commit s (takeCursor i s) := by
      simp [exec, execHeldRelease, releaseHeld, held, copy, room]
    rw [takeCursor_reads room ⟨low, high⟩] at run
    obtain ⟨t, run, eq, asks⟩ := exec_asks run rfl rfl
    have lane : (s.link.setLane i fun l => { l with state := .taking, copy := none }) =
        s.link.setLane i fun l => { l with state := .taking } := setLane_congr _ _ _ _ (by rw [← copy])
    exact ⟨t, run, asks, eq.trans (by rw [← lane]; rfl)⟩

/-! ## A record that has been read -/

theorem exec_recordReadEnd {addr : Word} (h : s.bus.queue = .recordRead i addr :: q) (a : BusRead) :
    exec (.recordReadEnd a) s = commit s (recordRead i addr a (s.popped q)) := by
  have ended := endAccess_head (p := BusAccess.isRecordRead) h rfl
  simp only [exec, execRecordReadEnd, ended]
  rfl

theorem linkAddress_setLane (i : LaneId) (s : State) (f : Lane → Lane) (h : ∀ l, (f l).cursor = l.cursor) :
    linkAddress i (s.modLane i f) = linkAddress i s := by
  simp [linkAddress, h]

/-- Settles O9, by what the check of the record makes of it. -/
theorem recordReadOutcome : Obligations.RecordReadOutcome := by
  intro s i a q b queue taking attached
  have read := fun x => exec_recordReadEnd queue x
  have data : recordRead i a (.data b) (s.popped q) = takeRecord i { addr := a, bytes := b } (s.popped q) := by
    simp [recordRead, State.popped, taking]
  refine ⟨fun res refused => ?_, fun k kind lane fits => ?_, ?_⟩
  · have check : checkRecord i { addr := a, bytes := b } (s.popped q) = .inr res := by
      rcases refused with ⟨rfl, other⟩ | ⟨rfl, k, x, n, kind, lane, buffer, outside⟩
      · unfold checkRecord
        split
        · rfl
        · next k kind => rw [if_pos (other k kind)]
      · have window : (s.popped q).link.inWindow x n = false := by
          rw [← Bool.not_eq_true, inWindow_iff]; exact outside
        unfold checkRecord
        rw [show ({ addr := a, bytes := b } : RecordCopy).kindCode = half b 4 from rfl, kind]
        simp only [lane, buffer, window, ne_eq, not_true_eq_false, if_false, Bool.false_eq_true]
    have run := read (.data b)
    rw [data, takeRecord, check] at run
    obtain ⟨t, run, eq, asks⟩ := exec_asksAfter run (q := q)
      (l := doneAccesses i a res 0#32 0 ++ [.linkRead i (linkAddress i s) .taken]) (by
        simp only [refuseRecord, requestLink, enqueue_queue, List.append_assoc]
        rw [show ∀ x y z, linkAddress i (enqueue x (enqueue y (addEntry i z (s.popped q)))) = linkAddress i s from
          fun _ _ _ => linkAddress_setLane i s _ fun _ => rfl]
        rfl) rfl
    exact ⟨t, run, eq, asks⟩
  · have check : checkRecord i { addr := a, bytes := b } (s.popped q) = .inl k := by
      unfold checkRecord
      rw [show ({ addr := a, bytes := b } : RecordCopy).kindCode = half b 4 from rfl, kind]
      simp only [lane, ne_eq, not_true_eq_false, if_false]
      split
      · next x n buffer => exact if_pos ((inWindow_iff s.link x n).mpr (fits x n buffer))
      · rfl
    have run := read (.data b)
    rw [data, takeRecord, check] at run
    obtain ⟨t, run, eq, asks⟩ := exec_asksAfter run (q := q) (l := []) (List.append_nil q).symm rfl
    exact ⟨t, run, asks, eq⟩
  · have run := read .busError
    have running : (((s.popped q).link.setLane i fun l =>
        { l with table := l.table ++ [newEntry { addr := a, bytes := [] } none], copy := none }).lane i).state ≠ .stopped := by
      rw [Link.lane_setLane_same]
      exact fun e => nomatch taking.symm.trans e
    have error : recordRead i a .busError (s.popped q) = recordReadError i a (s.popped q) := by
      simp [recordRead, State.popped, taking]
    rw [error, recordReadError, stopLane_running running] at run
    obtain ⟨t, run, eq, asks⟩ := exec_asksAfter run (q := q.filter fun y => !y.readsFor i)
      (l := doneAccesses i a .badRecord 0#32 0) (by
        simp only [setCause_keeps, State.modLane_keeps, State.modBus_bus, enqueue_queue, addEntry_keeps]
        simp [State.popped, BusAccess.readsFor, doneAccesses]) rfl
    refine ⟨t, run, eq.trans ?_, asks⟩
    have link : ∀ f g : Lane → Lane, ((s.popped q).link.setLane i f).setLane i g = s.link.setLane i fun x => g (f x) :=
      fun f g => Link.setLane_setLane s.link i f g
    have unread : newEntry { addr := a, bytes := [] } none =
        { addr := a, notify := false, kind := none, done := false, followed := false, unwritable := false } := by
      simp [newEntry, RecordCopy.notify, bitAt, byteAt]
    simp only [setCause, addEntry, enqueue, State.modLane, State.modLink, State.modBus, State.modRegs, link, unread]
    rfl

/-! ## A link that has been read -/

theorem exec_linkReadEnd {addr : Word} {why : LinkReadWhy} (h : s.bus.queue = .linkRead i addr why :: q) (w : Word) :
    exec (.linkReadEnd w) s = commit s (linkRead i w (s.popped q)) := by
  have ended := endAccess_head (p := BusAccess.isAnyLinkRead) h rfl
  simp only [exec, execLinkReadEnd, ended]
  rfl

theorem followEntry_last {old : List TakenEntry} {e : TakenEntry} {addr : Word} (h : e.addr = addr) :
    followEntry addr (old ++ [e]) = old ++ [{ e with followed := true }] := by
  simp [followEntry, h]

/-- What retirement leaves, lane and causes, once the table is `m`. -/
theorem retire_from (i : LaneId) (s : State) :
    RetiredFrom i (s.link.lane i).table (s.link.lane i) ((retire i s).link.lane i) s.regs.cause
      (retire i s).regs.cause := by
  have lane : (retire i s).link.lane i =
      let out := (s.link.lane i).table.takeWhile TakenEntry.retirable
      { s.link.lane i with
          table := (s.link.lane i).table.dropWhile TakenEntry.retirable,
          retiredAddr := (out.getLast?.map (·.addr)).getD (s.link.lane i).retiredAddr,
          retiredCount := (s.link.lane i).retiredCount + BitVec.ofNat 32 out.length } := by
    unfold retire
    dsimp only
    split <;> simp [setCause]
  refine ⟨(s.link.lane i).table.takeWhile TakenEntry.retirable, ?_, fun e h => ?_, fun e more h => ?_, ?_, ?_, ?_⟩
  · rw [lane]; exact List.takeWhile_append_dropWhile.symm
  · have := List.all_eq_true.mp List.all_takeWhile e h
    simpa [TakenEntry.retirable] using this
  · rw [lane] at h
    have := List.head?_dropWhile_not TakenEntry.retirable (s.link.lane i).table
    dsimp only at h
    rw [h] at this
    simpa [TakenEntry.retirable] using this
  · rw [lane]
  · simp only [lane]
    cases ((s.link.lane i).table.takeWhile TakenEntry.retirable).getLast? <;> rfl
  · unfold retire
    dsimp only
    split <;> rfl

/-- Retirement, written out: the lane, and the causes. -/
theorem retire_eq (i : LaneId) (s : State) :
    retire i s = { s with
      regs := { s.regs with cause := (retire i s).regs.cause },
      link := s.link.setLane i fun l => { l with
        table := ((retire i s).link.lane i).table, retiredAddr := ((retire i s).link.lane i).retiredAddr,
        retiredCount := ((retire i s).link.lane i).retiredCount } } := by
  have lane (f : Lane → Lane) : (s.link.setLane i f) = s.link.setLane i fun l =>
      f { l with table := (s.link.lane i).table } := setLane_congr _ _ _ _ rfl
  unfold retire
  dsimp only
  split
  · simp only [setCause, State.modLane, State.modLink, State.modRegs, Link.lane_setLane_same]
    congr 1
    exact setLane_congr _ _ _ _ rfl
  · simp only [State.modLane, State.modLink, Link.lane_setLane_same]
    congr 1
    exact setLane_congr _ _ _ _ rfl

theorem parkLane_eq (i : LaneId) (h : s.link.state = .attached) : parkLane i s =
    { s with
      link := s.link.setLane i fun l => { l with state := .parked, nudge := false },
      bus := { s.bus with queue := s.bus.queue ++
        if (s.link.lane i).nudge then [.linkRead i (linkAddress i s) .taken] else [] } } := by
  unfold parkLane
  rw [if_pos h]
  dsimp only
  split
  · have address : linkAddress i (s.modLane i fun l => { l with state := .parked, nudge := false }) = linkAddress i s :=
      linkAddress_setLane i s _ fun _ => rfl
    rw [requestLink, address]
    rfl
  · simp only [List.append_nil]
    rfl

/-- The lane's table, its cursor and its causes once a link that passes has been followed and records have retired. -/
def followed (i : LaneId) (w : Word) (m : List TakenEntry) (s : State) : State :=
  retire i (s.modLane i fun l => { l with table := m, cursor := w })

theorem followed_table (i : LaneId) (w : Word) (m : List TakenEntry) (s : State) :
    RetiredFrom i m (s.link.lane i) ((followed i w m s).link.lane i) s.regs.cause (followed i w m s).regs.cause := by
  have h := retire_from i (s.modLane i fun l => { l with table := m, cursor := w })
  simp only [State.modLane_link, Link.lane_setLane_same] at h
  exact h

/-- A link that passes, written out. -/
theorem followLink_eq {i : LaneId} {w : Word} {m : List TakenEntry} (attached : s.link.state = .attached)
    (table : (if (s.link.lane i).cursor = 0#32 then (s.link.lane i).table
      else followEntry (s.link.lane i).cursor (s.link.lane i).table) = m)
    (low : s.link.low.toNat ≤ w.toNat) (high : w.toNat + 128 ≤ s.link.high.toNat) :
    followLink i w s =
      { s with
        regs := { s.regs with cause := (followed i w m s).regs.cause },
        link := s.link.setLane i fun l => { l with
          state := if ((followed i w m s).link.lane i).table.length < tableCapacity i then .taking else .held,
          cursor := w, copy := none, table := ((followed i w m s).link.lane i).table,
          retiredAddr := ((followed i w m s).link.lane i).retiredAddr,
          retiredCount := ((followed i w m s).link.lane i).retiredCount,
          nudge := l.nudge || (l.state != .detached && s.bus.queue.any fun y => y.isNudgeRead i) },
        bus := { s.bus with queue := (s.bus.queue.filter fun y => !y.isLinkRead i) ++
          if ((followed i w m s).link.lane i).table.length < tableCapacity i then [.recordRead i w] else [] } } := by
  have marked : (s.modLane i fun l => { l with
      table := if (s.link.lane i).cursor = 0#32 then l.table else followEntry (s.link.lane i).cursor l.table,
      cursor := w }) = s.modLane i fun l => { l with table := m, cursor := w } := by
    refine modLane_congr ?_
    rw [table]
  have dropped : dropLinkReads i (followed i w m s) =
      { s with
        regs := { s.regs with cause := (followed i w m s).regs.cause },
        link := s.link.setLane i fun l => { l with
          cursor := w, table := ((followed i w m s).link.lane i).table,
          retiredAddr := ((followed i w m s).link.lane i).retiredAddr,
          retiredCount := ((followed i w m s).link.lane i).retiredCount,
          nudge := l.nudge || (l.state != .detached && s.bus.queue.any fun y => y.isNudgeRead i) },
        bus := { s.bus with queue := s.bus.queue.filter fun y => !y.isLinkRead i } } := by
    have eq : followed i w m s = _ := retire_eq i (s.modLane i fun l => { l with table := m, cursor := w })
    change followed i w m s = { s with
      regs := { s.regs with cause := (followed i w m s).regs.cause },
      link := ((s.modLane i fun l => { l with table := m, cursor := w }).link.setLane i fun l => { l with
        table := ((followed i w m s).link.lane i).table,
        retiredAddr := ((followed i w m s).link.lane i).retiredAddr,
        retiredCount := ((followed i w m s).link.lane i).retiredCount }) } at eq
    generalize followed i w m s = y at eq ⊢
    generalize y.regs.cause = cause, (y.link.lane i).table = table, (y.link.lane i).retiredAddr = addr,
      (y.link.lane i).retiredCount = count at eq ⊢
    subst eq
    simp only [dropLinkReads, State.modBus, State.modLane, State.modLink, Link.setLane_setLane, Bool.and_comm]
  unfold followLink
  dsimp only
  rw [marked, if_pos attached]
  change takeCursor i (dropLinkReads i (followed i w m s)) = _
  rw [dropped]
  by_cases room : ((followed i w m s).link.lane i).table.length < tableCapacity i
  · rw [takeCursor_reads]
    · simp only [if_pos room, enqueue, State.modBus, State.modLane, State.modLink, Link.setLane_setLane,
        Link.lane_setLane_same]
    · rw [Link.lane_setLane_same]; exact room
    · rw [Link.lane_setLane_same]
      simp only [Link.setLane_keeps]
      exact ⟨low, high⟩
  · rw [takeCursor_full]
    · simp only [if_neg room, State.modLane, State.modLink, Link.setLane_setLane, List.append_nil]
    · rw [Link.lane_setLane_same]; exact room

theorem modLane_stop (i : LaneId) (s : State) (b : Bus) :
    { (setCause laneStopped (s.modLane i fun l =>
        { l with state := .stopped, stopAddr := (s.link.lane i).cursor, copy := none })) with bus := b } =
      { s with bus := b, regs := { s.regs with cause := s.regs.cause ||| causeBit laneStopped },
               link := s.link.setLane i fun l => { l with state := .stopped, stopAddr := l.cursor, copy := none } } := by
  rw [modLane_congr (g := fun l => { l with state := .stopped, stopAddr := l.cursor, copy := none }) rfl]
  rfl

/-- Settles O11, by the value of the link. -/
theorem linkReadOutcome : Obligations.LinkReadOutcome := by
  intro s i a why q queue attached running
  have read := fun w => exec_linkReadEnd queue w
  have here : ¬ ((s.popped q).link.lane i).state = .stopped := running
  refine ⟨?_, fun w nonzero fails => ?_, fun w nonzero aligned low high m followed => ?_⟩
  · have run := read 0#32
    rw [linkRead] at run
    simp only [if_neg here, if_true] at run
    rw [parkLane_eq (s := s.popped q) i attached] at run
    exact exec_asksAfter run rfl rfl
  · have passes : (decide (w.toNat % 128 = 0) && (s.popped q).link.inWindow w.toNat 128) = false := by
      rw [← Bool.not_eq_true]
      simp only [Bool.and_eq_true, decide_eq_true_eq, inWindow_iff]
      rintro ⟨aligned, low, high⟩
      change s.link.low.toNat ≤ _ at low
      change _ ≤ s.link.high.toNat at high
      omega
    have run := read w
    rw [linkRead] at run
    simp only [if_neg here, if_neg nonzero, passes] at run
    simp only [Bool.false_eq_true, if_false, stopLane_running here] at run
    obtain ⟨t, run, eq, asks⟩ := exec_asksAfter (q := q.filter fun y => !y.readsFor i) (l := []) run
      (List.append_nil _).symm rfl
    exact ⟨t, run, asks, eq.trans (modLane_stop i s t.bus)⟩
  · have passes : (decide (w.toNat % 128 = 0) && (s.popped q).link.inWindow w.toNat 128) = true := by
      rw [decide_eq_true aligned]
      exact (inWindow_iff s.link _ _).mpr ⟨low, high⟩
    have run := read w
    rw [linkRead] at run
    simp only [if_neg here, if_neg nonzero, passes, if_true] at run
    have table : (if ((s.popped q).link.lane i).cursor = 0#32 then ((s.popped q).link.lane i).table
        else followEntry ((s.popped q).link.lane i).cursor ((s.popped q).link.lane i).table) = m := by
      rcases followed with ⟨anchor, rfl⟩ | ⟨other, old, e, table, entry, rfl⟩
      · exact if_pos anchor
      · refine (if_neg other).trans ?_
        change followEntry (s.link.lane i).cursor (s.link.lane i).table = _
        rw [table, followEntry_last entry]
    rw [followLink_eq (s := s.popped q) attached table low high] at run
    obtain ⟨t, run, eq, asks⟩ := exec_asksAfter run rfl rfl
    have link : t.link.lane i = _ := (congrArg (fun x : State => x.link.lane i) eq).trans (Link.lane_setLane_same _ _ _)
    have cause : t.regs.cause = _ := congrArg (fun x : State => x.regs.cause) eq
    refine ⟨t, run, ?_, ?_, ?_⟩
    · have h := followed_table i w m (s.popped q)
      unfold RetiredFrom at h ⊢
      rw [link, cause]
      exact h
    · rw [link, cause]
      exact eq
    · rw [link]
      exact asks

end Sys2Proof.Machine
end

section
/-!
PROOFS. Writes into record headers (01 R11, R14 to R16): what reaches shared memory, what retires, and what a bus error
leaves.
-/

namespace Sys2Proof.Machine

open Sys2Proof

variable {c : Instr} {s t u v : State} {q r l : List BusAccess} {i : LaneId} {a : Word}

/-! ## Shared memory -/

theorem sharedWritten_of {addr : Nat} {bytes : List Byte} (wf : sparseWf s.shared = true)
    (h : t.shared = writeShared addr bytes s.shared) : SharedWritten s t addr bytes := by
  refine ⟨fun k hk => ?_, fun k hk => ?_⟩
  · rw [h, sparseGet_writeShared _ _ _ wf, if_pos (by omega), Nat.add_sub_cancel_left]
  · rw [h, sparseGet_writeShared _ _ _ wf, if_neg (by omega)]

/-! ## A record under way -/

theorem updateEntry_first {f : TakenEntry → TakenEntry} {old rest : List TakenEntry} {e : TakenEntry}
    (addr : e.addr = a) (under : e.done = false) (finished : ∀ x, x ∈ old → x.addr = a → x.done = true) :
    updateEntry a f (old ++ e :: rest) = old ++ f e :: rest := by
  induction old with
  | nil => simp [updateEntry, addr, under]
  | cons x old ih =>
    have other : (decide (x.addr = a) && !x.done) = false := by
      by_cases same : x.addr = a
      · simp [finished x List.mem_cons_self same]
      · simp [same]
    simp only [List.cons_append, updateEntry, other, Bool.false_eq_true, if_false]
    rw [ih fun y hy => finished y (List.mem_cons_of_mem _ hy)]

/-- A table once it stands as given and its head has retired. -/
def retabled (i : LaneId) (m : List TakenEntry) (s : State) : State := retire i (s.modLane i fun l => { l with table := m })

theorem retabled_from (i : LaneId) (m : List TakenEntry) (s : State) :
    RetiredFrom i m (s.link.lane i) ((retabled i m s).link.lane i) s.regs.cause (retabled i m s).regs.cause := by
  have h := retire_from i (s.modLane i fun l => { l with table := m })
  simp only [State.modLane_link, Link.lane_setLane_same] at h
  exact h

theorem retabled_eq (i : LaneId) (m : List TakenEntry) (s : State) : retabled i m s =
    { s with
      regs := { s.regs with cause := (retabled i m s).regs.cause },
      link := s.link.setLane i fun l => { l with
        table := ((retabled i m s).link.lane i).table, retiredAddr := ((retabled i m s).link.lane i).retiredAddr,
        retiredCount := ((retabled i m s).link.lane i).retiredCount } } := by
  refine (retire_eq i (s.modLane i fun l => { l with table := m })).trans ?_
  simp only [State.modLane_link, Link.setLane_setLane]
  rfl

theorem markDone_eq (h : updateEntry a (fun e => { e with done := true }) (s.link.lane i).table = m) :
    markDone i a s = retabled i m s := by
  unfold markDone retabled
  rw [modLane_congr (g := fun l => { l with table := m }) (by rw [h])]

/-! ## The ends of the writes -/

theorem exec_recordHeaderWriteEnd {w : BusAccess} (h : s.bus.queue = w :: q) (header : w.isHeaderWrite = true) (e : Bool) :
    exec (.recordHeaderWriteEnd e) s = commit s (headerWritten w e (s.popped q)) := by
  have ended := endAccess_head (p := BusAccess.isHeaderWrite) h header
  simp only [exec, execRecordHeaderWriteEnd, ended]
  rfl

/-- A record's header is written no more, and its lane stops. -/
def headerStopped (i : LaneId) (a : Word) (s : State) : State :=
  setCause laneStopped
    ((s.modBus fun b => { b with queue := b.queue.filter fun y => !y.writesRecord i a && !y.readsFor i }).modLane i fun l =>
      { l with table := updateEntry a (fun e => { e with unwritable := true }) l.table, state := .stopped, stopAddr := a,
               copy := none })

/-- The lane of a record that is written no more. -/
theorem headerStopped_lane {old rest : List TakenEntry} {e : TakenEntry}
    (table : (s.link.lane i).table = old ++ e :: rest) (addr : e.addr = a) (under : e.done = false)
    (finished : ∀ x, x ∈ old → x.addr = a → x.done = true) :
    (headerStopped i a s).link.lane i =
      { s.link.lane i with
          table := old ++ { e with unwritable := true } :: rest, state := .stopped, stopAddr := a, copy := none } := by
  have entry := updateEntry_first (f := fun e => { e with unwritable := true }) addr under finished (rest := rest)
  refine (Link.lane_setLane_same s.link i _).trans ?_
  rw [table, entry]

theorem headerWriteError_eq (running : (s.link.lane i).state ≠ .stopped) (done : Bool) :
    headerWriteError i a done s =
      if done || s.bus.queue.any (BusAccess.isDoneWrite i a) then markDone i a (headerStopped i a s)
      else headerStopped i a s := by
  have stopped : stopLane i a ((s.modBus fun b =>
      { b with queue := b.queue.filter fun y => !y.writesRecord i a }).modLane i fun l =>
        { l with table := updateEntry a (fun e => { e with unwritable := true }) l.table }) = headerStopped i a s := by
    rw [stopLane_running (by rw [State.modLane_link, Link.lane_setLane_same]; exact running)]
    simp only [headerStopped, setCause, State.modLane, State.modLink, State.modBus, State.modRegs, Link.setLane_setLane,
      List.filter_filter, Bool.and_comm]
  unfold headerWriteError
  dsimp only
  rw [stopped]

theorem headerWritten_error {w : BusAccess} (writes : w.writesRecord i a = true) :
    headerWritten w true s = headerWriteError i a (w == .stateWrite i a .done) s := by
  cases w with
  | resultWrite j b res detail progress =>
    simp only [BusAccess.writesRecord, Bool.and_eq_true, beq_iff_eq] at writes
    obtain ⟨rfl, rfl⟩ := writes
    rfl
  | stateWrite j b x =>
    simp only [BusAccess.writesRecord, Bool.and_eq_true, beq_iff_eq] at writes
    obtain ⟨rfl, rfl⟩ := writes
    have same : (x == .done) = ((BusAccess.stateWrite i b x) == .stateWrite i b .done) := Bool.eq_iff_iff.mpr (by simp)
    exact congrArg (headerWriteError i b · s) same
  | _ => cases writes

theorem isDoneWrite_iff {w : BusAccess} : w.isDoneWrite i a = true ↔ w = .stateWrite i a .done := by
  cases w with
  | stateWrite j b x =>
    simp only [BusAccess.isDoneWrite, Bool.and_eq_true, beq_iff_eq, BusAccess.stateWrite.injEq]
    exact ⟨fun ⟨⟨h, k⟩, m⟩ => ⟨h.symm, k, m⟩, fun ⟨h, k, m⟩ => ⟨⟨h.symm, k⟩, m⟩⟩
  | _ => simp [BusAccess.isDoneWrite]

/-- Settles O12. -/
theorem headerWriteOutcome : Obligations.HeaderWriteOutcome := by
  intro s i a q wf
  refine ⟨fun x queue undone => ?_, fun res detail progress queue => ?_, fun old e rest table addr under finished =>
    ⟨fun queue => ?_, fun w writes queue running => ?_⟩⟩
  · have run := exec_recordHeaderWriteEnd queue rfl false
    have written : headerWritten (.stateWrite i a x) false (s.popped q) =
        (s.popped q).modShared (writeShared (a.toNat + 16) (le16 x.code)) := by
      simp [headerWritten, undone]
    rw [written] at run
    obtain ⟨t, run, eq, asks⟩ := exec_asksAfter run (List.append_nil q).symm rfl
    have shared : t.shared = writeShared (a.toNat + 16) (le16 x.code) s.shared := by rw [eq]; rfl
    refine ⟨t, run, eq.trans (by rw [shared]; rfl), asks, sharedWritten_of wf (shared.trans ?_)⟩
    cases x <;> rfl
  · have run := exec_recordHeaderWriteEnd queue rfl false
    obtain ⟨t, run, eq, asks⟩ := exec_asksAfter run (List.append_nil q).symm rfl
    have shared : t.shared = writeShared (a.toNat + 18) (resultBytes res detail progress) s.shared := by rw [eq]; rfl
    exact ⟨t, run, eq.trans (by rw [shared]; rfl), asks, sharedWritten_of wf shared⟩
  · have run := exec_recordHeaderWriteEnd queue rfl false
    have done : headerWritten (.stateWrite i a .done) false (s.popped q) =
        retabled i (old ++ { e with done := true } :: rest)
          ((s.popped q).modShared (writeShared (a.toNat + 16) (le16 3))) := by
      refine (markDone_eq (s := (s.popped q).modShared (writeShared (a.toNat + 16) (le16 3))) ?_)
      exact (congrArg _ table).trans (updateEntry_first addr under finished)
    rw [done] at run
    have eq := retabled_eq i (old ++ { e with done := true } :: rest)
      ((s.popped q).modShared (writeShared (a.toNat + 16) (le16 3)))
    have left := retabled_from i (old ++ { e with done := true } :: rest)
      ((s.popped q).modShared (writeShared (a.toNat + 16) (le16 3)))
    generalize retabled i (old ++ { e with done := true } :: rest)
      ((s.popped q).modShared (writeShared (a.toNat + 16) (le16 3))) = y at run eq left
    have bus : y.bus = (s.popped q).bus := by rw [eq]; rfl
    obtain ⟨t, run, same, asks⟩ := exec_asksAfter run (q := q) (l := []) (by rw [bus, List.append_nil]; rfl)
      (by rw [bus]; rfl)
    have link : t.link = y.link := by rw [same]
    have regs : t.regs = y.regs := by rw [same]
    have shared : t.shared = writeShared (a.toNat + 16) (le16 3) s.shared := by rw [same, eq]; rfl
    refine ⟨t, run, by rw [link, regs]; exact left, ?_, sharedWritten_of wf shared, asks⟩
    rw [link, regs, shared]
    exact same.trans (congrArg (fun x : State => { x with bus := t.bus }) eq)
  · have header : w.isHeaderWrite = true := by cases w <;> first | rfl | cases writes
    have run := exec_recordHeaderWriteEnd queue header true
    rw [headerWritten_error writes, headerWriteError_eq (s := s.popped q) running] at run
    have finishing : ((w == .stateWrite i a .done) || (s.popped q).bus.queue.any (BusAccess.isDoneWrite i a)) = true ↔
        (.stateWrite i a .done = w ∨ .stateWrite i a .done ∈ q) := by
      rw [Bool.or_eq_true, beq_iff_eq, List.any_eq_true, eq_comm]
      simp [isDoneWrite_iff, State.popped]
    have stopped : (headerStopped i a (s.popped q)).link.lane i =
        { s.link.lane i with table := old ++ { e with unwritable := true } :: rest, state := .stopped, stopAddr := a,
                             copy := none } := headerStopped_lane (s := s.popped q) table addr under finished
    have others : ∀ k, k ≠ i → (headerStopped i a (s.popped q)).link.lane k = s.link.lane k := fun k hk =>
      Link.lane_setLane_other s.link hk _
    generalize hy : headerStopped i a (s.popped q) = y at run stopped others
    have eq : y =
        { s with
            bus := y.bus, regs := { s.regs with cause := s.regs.cause ||| causeBit laneStopped }, link := y.link } := by
      rw [← hy]; rfl
    have queue' : y.bus.queue = q.filter fun x => !x.writesRecord i a && !x.readsFor i := by rw [← hy]; rfl
    have transfers : y.bus.transfers = s.bus.transfers := by rw [← hy]; rfl
    by_cases last : (.stateWrite i a .done = w ∨ .stateWrite i a .done ∈ q)
    · rw [if_pos (finishing.mpr last)] at run
      have done : markDone i a y = retabled i (old ++ { e with done := true, unwritable := true } :: rest) y := by
        refine markDone_eq ?_
        rw [stopped]
        exact updateEntry_first (e := { e with unwritable := true }) addr under finished
      rw [done] at run
      have tabled := retabled_eq i (old ++ { e with done := true, unwritable := true } :: rest) y
      have left := retabled_from i (old ++ { e with done := true, unwritable := true } :: rest) y
      generalize retabled i (old ++ { e with done := true, unwritable := true } :: rest) y = z at run tabled left
      have bus : z.bus = y.bus := by rw [tabled]
      have lane : z.link.lane i = _ := (congrArg (fun x : State => x.link.lane i) tabled).trans
        (Link.lane_setLane_same y.link i _)
      have other (k : LaneId) (hk : k ≠ i) : z.link.lane k = s.link.lane k :=
        (congrArg (fun x : State => x.link.lane k) tabled).trans ((Link.lane_setLane_other y.link hk _).trans (others k hk))
      obtain ⟨t, run, same, asks⟩ := exec_asksAfter run (q := q.filter fun x => !x.writesRecord i a && !x.readsFor i)
        (l := []) (by rw [bus, queue', List.append_nil]) (by rw [bus, transfers])
      have link : t.link = z.link := by rw [same]
      have regs : t.regs = z.regs := by rw [same]
      have whole : z = { s with bus := z.bus, regs := { s.regs with cause := z.regs.cause }, link := z.link } := by
        rw [eq] at tabled
        rw [tabled]
      refine ⟨t, run, ?_, by rw [link, lane, stopped], by rw [link, lane, stopped], by rw [link, lane, stopped],
        by rw [link, lane, stopped], fun k hk => by rw [link, other k hk], asks, fun _ => ?_,
        fun h => absurd last (by simpa [not_or] using h)⟩
      · rw [link, regs]
        exact same.trans (congrArg (fun x : State => { x with bus := t.bus }) whole)
      · rw [link, regs]
        have cause : y.regs.cause = s.regs.cause ||| causeBit laneStopped := by rw [eq]
        rw [stopped, cause] at left
        exact left
    · rw [if_neg (mt finishing.mp last)] at run
      obtain ⟨t, run, same, asks⟩ := exec_asksAfter run (l := []) (queue'.trans (List.append_nil _).symm) transfers
      have link : t.link = y.link := by rw [same]
      have cause : t.regs.cause = s.regs.cause ||| causeBit laneStopped := by rw [same, eq]
      refine ⟨t, run, ?_, by rw [link, stopped], by rw [link, stopped], by rw [link, stopped], by rw [link, stopped],
        fun k hk => by rw [link, others k hk], asks, fun h => absurd h last, fun _ => ⟨by rw [link, stopped], cause⟩⟩
      rw [link, cause]
      exact same.trans (congrArg (fun x : State => { x with bus := t.bus }) eq)

end Sys2Proof.Machine
end

section
/-!
PROOFS. The end of the Anchor Block's read (01 R3, R4), and page writes (01 R5, R17; 11, section 11.5).
-/

namespace Sys2Proof.Machine

open Sys2Proof

variable {c : Instr} {s t u v : State} {q r l : List BusAccess} {i : LaneId} {a : Word}

/-! ## Fields of a record or a block -/

theorem byteAt_lt (bs : List Byte) (n : Nat) : byteAt bs n < 256 := (bs.getD n 0#8).isLt

theorem half_lt (bs : List Byte) (n : Nat) : half bs n < 65536 := by
  have low := byteAt_lt bs n
  have high := byteAt_lt bs (n + 1)
  unfold half
  omega

theorem wordNat_lt (bs : List Byte) (n : Nat) : wordNat bs n < 4294967296 := by
  have low := half_lt bs n
  have high := half_lt bs (n + 2)
  unfold wordNat
  omega

@[simp] theorem word_toNat (bs : List Byte) (n : Nat) : (word bs n).toNat = wordNat bs n := by
  rw [word, BitVec.toNat_ofNat]
  exact Nat.mod_eq_of_lt (wordNat_lt bs n)

theorem anchorOk_iff (addr : Word) (b : List Byte) : anchorOk addr b = true ↔ AnchorChecks addr b := by
  simp only [anchorOk, anchorSignature, firstOk, Bool.and_eq_true, beq_iff_eq, decide_eq_true_eq]
  constructor
  · rintro ⟨⟨⟨⟨⟨⟨⟨⟨⟨aligned, signature⟩, version⟩, window⟩, page⟩, low⟩, high⟩, first1⟩, first2⟩, first3⟩
    exact ⟨aligned, signature, version, window, ⟨page, low, high⟩, ⟨first1, first2, first3⟩⟩
  · rintro ⟨aligned, signature, version, window, ⟨page, low, high⟩, ⟨first1, first2, first3⟩⟩
    exact ⟨⟨⟨⟨⟨⟨⟨⟨⟨aligned, signature⟩, version⟩, window⟩, page⟩, low⟩, high⟩, first1⟩, first2⟩, first3⟩

/-! ## A page write at the head of the port begins -/

theorem requestPage_appends (s : State) : ∃ l, (requestPage s).bus = { s.bus with queue := s.bus.queue ++ l } := by
  unfold requestPage
  split
  · exact ⟨[.statusPage], rfl⟩
  · exact ⟨[], by simp⟩

theorem requestFinal_appends (s : State) : ∃ l, (requestFinal s).bus = { s.bus with queue := s.bus.queue ++ l } := by
  unfold requestFinal
  split
  · exact ⟨[.finalPage], rfl⟩
  · exact ⟨[], by simp⟩

theorem settlePort_counts (head : u.bus.queue = .statusPage :: q) (snapshot : u.bus.snapshot = none) :
    (settlePort s u).bus.writeCount = u.bus.writeCount + 1#32 := by
  have asked : ∃ l, (if pageFields s = pageFields u then u else requestPage u).bus =
      { u.bus with queue := u.bus.queue ++ l } := by
    split
    · exact ⟨[], by simp⟩
    · exact requestPage_appends u
  unfold settlePort
  obtain ⟨l, asked⟩ := asked
  obtain ⟨m, final⟩ := requestFinal_appends (if pageFields s = pageFields u then u else requestPage u)
  rw [asked] at final
  generalize requestFinal (if pageFields s = pageFields u then u else requestPage u) = w at final
  have queue : (startTransfers w).bus.queue = .statusPage :: (q ++ l ++ m) := by
    rw [startTransfers_queue, final]
    simp [head, BusAccess.repeats]
  have none : (startTransfers w).bus.snapshot = Option.none := by
    change w.bus.snapshot = _
    rw [final, snapshot]
  have count : (startTransfers w).bus.writeCount = u.bus.writeCount := by
    change w.bus.writeCount = _
    rw [final]
  unfold beginAccess
  rw [queue, none, ← count]
  rfl

/-! ## Attach -/

/-- A lane that Attach has latched. -/
def Lane.startsAt (first : Word) (window : Bool) : Lane :=
  { Lane.reset with
      state := if first = 0#32 then .parked else if window then .taking else .stopped, cursor := first, first := first }

/-- What starting one lane keeps. -/
structure LaneStarted (first : Word) (i : LaneId) (s u : State) : Prop where
  link : u.link = s.link.setLane i fun _ => .startsAt first (s.link.inWindow first.toNat 128)
  rest : u = { s with regs := u.regs, link := u.link, bus := u.bus }
  regs : u.regs.anchor = s.regs.anchor ∧ u.regs.causemask = s.regs.causemask
  bus  : u.bus.snapshot = s.bus.snapshot ∧ u.bus.writeCount = s.bus.writeCount
  page : .statusPage ∈ s.bus.queue → .statusPage ∈ u.bus.queue
  head : ∀ q, s.bus.queue = .statusPage :: q → ∃ q', u.bus.queue = .statusPage :: q'

theorem startLane_started (first : Word) (i : LaneId) (s : State) (fresh : s.link.lane i = .attached first) :
    LaneStarted first i s (startLane i s) := by
  unfold startLane
  by_cases zero : first = 0#32
  · subst zero
    have parked : (s.link.lane i).state ≠ .taking := by rw [fresh]; nofun
    rw [if_neg parked]
    exact ⟨(setLane_same _ _ _ (by rw [fresh]; rfl)).symm, rfl, ⟨rfl, rfl⟩, ⟨rfl, rfl⟩, id, fun q h => ⟨q, h⟩⟩
  · have taking : (s.link.lane i).state = .taking := by rw [fresh, Lane.attached, if_neg zero]
    have cursor : (s.link.lane i).cursor = first := by rw [fresh]; rfl
    have room : (s.link.lane i).table.length < tableCapacity i := by rw [fresh]; cases i <;> exact Nat.zero_lt_succ _
    rw [if_pos taking]
    by_cases window : s.link.inWindow first.toNat 128 = true
    · rw [takeCursor_reads room (by rw [cursor]; exact (inWindow_iff _ _ _).mp window)]
      refine ⟨?_, rfl, ⟨rfl, rfl⟩, ⟨rfl, rfl⟩, fun h => List.mem_append_left _ h, fun q h => ⟨_, congrArg (· ++ _) h⟩⟩
      simp only [enqueue_keeps, State.modLane_link]
      refine setLane_congr _ _ _ _ ?_
      rw [fresh, window]
      simp [Lane.startsAt, Lane.attached, zero, Lane.reset]
    · have stops : takeCursor i s = stopLane i 0#32 s := by
        unfold takeCursor
        dsimp only
        rw [if_neg (Nat.not_le.mpr room), cursor, if_pos (by simp [window])]
      rw [stops, stopLane_running (by rw [taking]; nofun)]
      refine ⟨?_, rfl, ⟨rfl, rfl⟩, ⟨rfl, rfl⟩, fun h => List.mem_filter.mpr ⟨h, rfl⟩,
        fun q h => ⟨q.filter fun a => !a.readsFor i, (congrArg (List.filter _) h).trans (List.filter_cons_of_pos rfl)⟩⟩
      simp only [setCause_keeps, State.modLane_link, State.modBus_link]
      refine setLane_congr _ _ _ _ ?_
      rw [fresh, Bool.eq_false_iff.mpr window]
      simp [Lane.startsAt, Lane.attached, zero, Lane.reset]

/-- A record at an address lies in the window of an Anchor Block. -/
def anchorWindow (b : List Byte) (first : Word) : Bool :=
  (word b 8).toNat ≤ first.toNat && first.toNat + 128 ≤ (word b 12).toNat

theorem anchorWindow_iff (b : List Byte) (first : Word) :
    anchorWindow b first = true ↔ wordNat b 8 ≤ first.toNat ∧ first.toNat + 128 ≤ wordNat b 12 := by
  simp [anchorWindow]

/-- The link once Attach has succeeded. -/
def Link.attachedBy (b : List Byte) (k : Link) : Link :=
  { k with
      state := .attached, attaching := false, low := word b 8, high := word b 12, statusAddr := word b 16,
      scanPeriod := byteAt b 6, scanOn := byteAt b 6 != 0,
      display := .startsAt (word b 20) (anchorWindow b (word b 20)),
      store := .startsAt (word b 24) (anchorWindow b (word b 24)),
      control := .startsAt (word b 28) (anchorWindow b (word b 28)) }

theorem Link.attachedBy_lane (b : List Byte) (k : Link) (i : LaneId) :
    (k.attachedBy b).lane i = .startsAt (firstRecord b i) (anchorWindow b (firstRecord b i)) := by
  cases i <;> rfl

/-- What an Attach that succeeds leaves. -/
theorem attachSucceeds_spec (b : List Byte) (s : State) (snapshot : s.bus.snapshot = none)
    (last : .finalPage ∉ s.bus.queue) :
    let u := attachSucceeds b s
    u.link = s.link.attachedBy b ∧ u = { s with regs := u.regs, link := u.link, bus := u.bus }
      ∧ u.regs.anchor = s.regs.anchor ∧ u.regs.causemask = s.regs.causemask ∧ .statusPage ∈ u.bus.queue
      ∧ (s.bus.queue = [] → ∃ q, u.bus.queue = .statusPage :: q) ∧ u.bus.snapshot = none ∧ u.bus.writeCount = 0#32 := by
  have latched : requestPage (latchAnchor b s) = { latchAnchor b s with bus := (requestPage (latchAnchor b s)).bus } := by
    unfold requestPage; split <;> rfl
  have page : .statusPage ∈ (requestPage (latchAnchor b s)).bus.queue
      ∧ (s.bus.queue = [] → (requestPage (latchAnchor b s)).bus.queue = [.statusPage]) := by
    have waits : (latchAnchor b s).bus.pageWaits = s.bus.queue.contains .statusPage := by
      simp [Bus.pageWaits, latchAnchor, State.modLink, State.modBus, snapshot, last]
    unfold requestPage
    rw [waits, show (latchAnchor b s).link.reporting = true from rfl]
    by_cases there : .statusPage ∈ s.bus.queue
    · rw [if_neg (by simp [there])]
      exact ⟨there, fun none => absurd there (by simp [none])⟩
    · rw [if_pos (by simp [there])]
      exact ⟨List.mem_append_right _ (List.mem_singleton.mpr rfl), fun none => congrArg (· ++ [BusAccess.statusPage]) none⟩
  obtain ⟨l, asked⟩ := requestPage_appends (latchAnchor b s)
  have link : (requestPage (latchAnchor b s)).link = (latchAnchor b s).link := by rw [latched]
  have regs : (requestPage (latchAnchor b s)).regs = s.regs := by rw [latched]; rfl
  dsimp only
  unfold attachSucceeds
  generalize requestPage (latchAnchor b s) = x at latched page asked link regs
  have display := startLane_started (word b 20) .display x (by rw [link]; rfl)
  generalize startLane .display x = y at display
  have store := startLane_started (word b 24) .store y (by rw [display.link, link]; rfl)
  generalize startLane .store y = z at store
  have control := startLane_started (word b 28) .control z (by rw [store.link, display.link, link]; rfl)
  generalize startLane .control z = w at control
  refine ⟨?_, ?_, ?_, ?_, control.page (store.page (display.page page.1)), fun none => ?_, ?_, ?_⟩
  · rw [control.link, store.link, display.link, link]
    rfl
  · rw [control.rest, store.rest, display.rest, latched]
    rfl
  · rw [control.regs.1, store.regs.1, display.regs.1, regs]
  · rw [control.regs.2, store.regs.2, display.regs.2, regs]
  · obtain ⟨q, h⟩ := display.head _ (page.2 none)
    obtain ⟨q, h⟩ := store.head _ h
    exact control.head _ h
  · rw [control.bus.1, store.bus.1, display.bus.1, asked]
    exact snapshot
  · rw [control.bus.2, store.bus.2, display.bus.2, asked]
    rfl

theorem exec_anchorBlockReadEnd (h : s.bus.queue = .anchorRead a :: q) (answer : BusRead) :
    exec (.anchorBlockReadEnd answer) s = commit s (anchorRead a answer (s.popped q)) := by
  have ended := endAccess_head (p := BusAccess.isAnchorRead) h rfl
  simp only [exec, execAnchorBlockReadEnd, ended]
  rfl

/-- Settles O8. -/
theorem anchorReadOutcome : Obligations.AnchorReadOutcome := by
  refine ⟨fun s a q b queue checks power last => ?_, fun s a q answer queue detached fails => ?_⟩
  · have run := exec_anchorBlockReadEnd queue (.data b)
    obtain ⟨link, rest, anchor, mask, page, first, snapshot, count⟩ :=
      attachSucceeds_spec b (s.popped q) rfl last
    have outcome : anchorRead a (.data b) (s.popped q) = attachSucceeds b (s.popped q) := by
      unfold anchorRead
      dsimp only
      rw [if_pos ((anchorOk_iff a b).mpr checks), rest]
      exact if_pos power
    rw [outcome] at run
    generalize attachSucceeds b (s.popped q) = u at run link rest anchor mask page first snapshot count
    obtain ⟨l, queue', -, -⟩ := settlePort_queue s u
    refine ⟨_, run, ?_⟩
    have eq := settlePort_eq s u
    have link' : (settlePort s u).link = s.link.attachedBy b := (congrArg State.link eq).trans link
    rw [link']
    refine ⟨rfl, rfl, rfl, rfl, rfl, rfl, ?_, fun i => ?_, ?_, fun none => ?_, ?_, ?_, ?_, ?_⟩
    · exact Bool.eq_iff_iff.mpr (by simp [Link.attachedBy])
    · rw [Link.attachedBy_lane]
      refine ⟨rfl, rfl, rfl, rfl, rfl, rfl, ?_⟩
      simp only [← anchorWindow_iff]
      rfl
    · rw [queue', mem_dropWhile_repeats rfl]
      exact List.mem_append_left _ page
    · obtain ⟨q', head⟩ := first none
      rw [settlePort_counts head snapshot, count]
      rfl
    · rw [eq]; exact mask
    · rw [eq]; exact anchor
    · rw [eq, rest]; rfl
    · rw [eq, rest]; rfl
  · have run := exec_anchorBlockReadEnd queue answer
    have outcome : anchorRead a answer (s.popped q) = attachFails (s.popped q) := by
      cases answer with
      | busError => rfl
      | data b => exact if_neg (mt (anchorOk_iff a b).mp (fails b rfl))
    rw [outcome] at run
    exact (exec_asksAfter run (List.append_nil q).symm rfl).imp fun t ⟨run, eq, asks⟩ => ⟨run, asks, eq⟩

end Sys2Proof.Machine
end

section
/-!
PROOFS. Page writes and the Status Page field by field (01 R5, R17; 11, section 11.5). The page is read through a view
of it in which every byte stands at its offset whatever the state holds.
-/

namespace Sys2Proof.Machine

open Sys2Proof

variable {s t u : State} {q : List BusAccess} {bs : List Byte} {k n x : Nat}

/-! ## Reading a field back -/

theorem lowByte_toNat (x : Nat) : (lowByte x).toNat = x % 256 := by simp [lowByte]

theorem byteAt_of (h : bs.getD k 0#8 = lowByte x) : byteAt bs k = x % 256 := by
  rw [byteAt, h, lowByte_toNat]

theorem byteAt_small (small : x < 256) (h : bs.getD k 0#8 = lowByte x) : byteAt bs k = x := by
  rw [byteAt_of h, Nat.mod_eq_of_lt small]

theorem half_of (low : bs.getD k 0#8 = lowByte x) (high : bs.getD (k + 1) 0#8 = lowByte (x / 256)) :
    half bs k = x % 65536 := by
  rw [half, byteAt_of low, byteAt_of high]
  omega

theorem half_of_lt (small : x < 65536) (low : bs.getD k 0#8 = lowByte x) (high : bs.getD (k + 1) 0#8 = lowByte (x / 256)) :
    half bs k = x := by
  rw [half_of low high, Nat.mod_eq_of_lt small]

theorem half_word16 {w : BitVec 16} (low : bs.getD k 0#8 = lowByte w.toNat)
    (high : bs.getD (k + 1) 0#8 = lowByte (w.toNat / 256)) : BitVec.ofNat 16 (half bs k) = w := by
  rw [half_of_lt w.isLt low high, BitVec.ofNat_toNat, BitVec.setWidth_eq]

theorem word_of (b0 : bs.getD k 0#8 = lowByte x) (b1 : bs.getD (k + 1) 0#8 = lowByte (x / 256))
    (b2 : bs.getD (k + 2) 0#8 = lowByte (x / 65536)) (b3 : bs.getD (k + 3) 0#8 = lowByte (x / 16777216)) :
    word bs k = BitVec.ofNat 32 x := by
  apply BitVec.eq_of_toNat_eq
  rw [word_toNat, wordNat, half, half, byteAt_of b0, byteAt_of b1, byteAt_of b2, byteAt_of b3, BitVec.toNat_ofNat]
  omega

theorem word_ofWord {w : Word} (b0 : bs.getD k 0#8 = lowByte w.toNat) (b1 : bs.getD (k + 1) 0#8 = lowByte (w.toNat / 256))
    (b2 : bs.getD (k + 2) 0#8 = lowByte (w.toNat / 65536))
    (b3 : bs.getD (k + 3) 0#8 = lowByte (w.toNat / 16777216)) : word bs k = w := by
  rw [word_of b0 b1 b2 b3, BitVec.ofNat_toNat, BitVec.setWidth_eq]

/-! ## The view of the page -/

/-- The temperature field as a number (11, section 11.5). -/
def temperatureField : Option Int → BitVec 16
  | some i => BitVec.ofInt 16 i
  | none   => 0x8000#16

/-- A region's eight bytes, all 0 without one. -/
def regionView (o : Option Rect) : List Byte :=
  le16 ((o.map (·.x)).getD 0) ++ le16 ((o.map (·.y)).getD 0) ++ le16 ((o.map (·.w)).getD 0)
    ++ le16 ((o.map (·.h)).getD 0)

theorem regionBytes_view (o : Option Rect) : regionBytes o = regionView o := by
  cases o <;> rfl

/-- The Status Page with every byte at its offset (11, section 11.5). -/
def pageView (s : State) (linkCode : Nat) (count : Word) : List Byte :=
  let p := s.panel
  let t := s.turn
  let l := s.light
  let st := s.store
  let op := operationFields st
  let n := s.sense.shown
  [le32 count.toNat,
    [lowByte linkCode, lowByte s.power.state.code, lowByte s.power.wakeReason.code, lowByte s.power.cls.code,
      lowByte (bit s.keys.charger.debounced), 0#8, 0#8, 0#8],
    laneBytes s.link.display, laneBytes s.link.store, laneBytes s.link.control,
    le16 (temperatureField n.temperature).toNat,
    [lowByte (bit n.thermFault), 0#8],
    le16 n.ambient, le16 n.battery,
    leInt16 n.battTrim, leInt16 n.thermTrim, leInt16 n.ambTrim,
    le16 n.battFiltered, le16 n.thermFiltered, le16 n.ambFiltered,
    [lowByte (bit s.wave.validA + 2 * bit s.wave.validB + 4 * bit (s.wave.active == .b)),
      lowByte (s.wave.range.getD 0xFF)],
    le16 s.wave.period,
    [lowByte p.engine.code, lowByte (bit p.known), lowByte p.pending.length, lowByte p.slots.length,
      lowByte p.uncertain.length, 0#8, 0#8, 0#8],
    (List.range 8).flatMap (fun r => regionView p.uncertain[r]?),
    le16 s.keys.countFwd.toNat, le16 s.keys.countBack.toNat, le16 s.keys.countMenu.toNat,
    le16 s.keys.countPower.toNat,
    [lowByte (bit s.keys.fwd.debounced + 2 * bit s.keys.back.debounced + 4 * bit s.keys.menu.debounced
        + 8 * bit s.keys.power.debounced + 16 * bit s.keys.cover.debounced),
      lowByte t.queue.length, lowByte (bit t.armed), lowByte t.entries.length, lowByte t.cursor,
      lowByte t.interval, lowByte t.counter, lowByte (bit t.owed), lowByte t.state.code,
      lowByte t.frameA.code, lowByte t.frameB.code, 0#8],
    le32 (badBits t.entries),
    [lowByte l.mode.code, lowByte (bit (l.curve != []) + 2 * bit l.fade + 4 * bit l.held.isNone),
      lowByte l.warmth, 0#8],
    le16 l.manual, leInt16 l.bias, le16 l.step, le16 (l.held.getD 0),
    le16 l.level, le16 l.target, le16 l.output, le16 l.warm, le16 l.cool,
    [lowByte st.power.code, lowByte op.1, lowByte op.2.1, lowByte op.2.2.1],
    le16 op.2.2.2,
    [lowByte (bit (st.erase.any fun e => e.phase == .suspended)), lowByte ((st.erase.map (·.count)).getD 0),
      lowByte (bit s.pins.guard), 0#8],
    le16 st.retiredBlocks, le16 st.unknownBlocks,
    [lowByte s.executor.phase.code, lowByte ((s.executor.kind.map Kind.code).getD 0)],
    le16 s.executor.block, le32 s.executor.progress,
    List.replicate 16 0#8,
    le32 count.toNat].flatten

theorem pageBytes_view (s : State) (code : Nat) (n : Word) : pageBytes s code n = pageView s code n := by
  unfold pageBytes pageView
  dsimp only
  simp only [regionBytes_view]
  cases s.sense.shown.temperature <;> rfl

theorem pageView_length (s : State) (code : Nat) (n : Word) : (pageView s code n).length = 256 := by
  have half (x : Nat) : (le16 x).length = 2 := rfl
  have signed (x : Int) : (leInt16 x).length = 2 := rfl
  have word (x : Nat) : (le32 x).length = 4 := rfl
  have lane (x : Lane) : (laneBytes x).length = 20 := rfl
  have regions (f : Nat → Option Rect) : ((List.range 8).flatMap fun r => regionView (f r)).length = 64 := rfl
  simp only [pageView, List.flatten_cons, List.flatten_nil, List.length_append, List.length_cons, List.length_nil,
    List.length_replicate, half, signed, word, lane, regions]

/-! ## Flags and counts of the page -/

theorem LaneState.code_lt (x : LaneState) : x.code < 256 := by cases x <;> decide

theorem ArrayClient.code_lt (x : ArrayClient) : x.code < 256 := by cases x <;> decide

theorem bit_lt (b : Bool) : bit b < 256 := by cases b <;> decide

theorem bit_eq (b : Bool) : bit b = if b then 1 else 0 := rfl

theorem bits_ofThree : ∀ a b c : Bool,
    (((bit a + 2 * bit b + 4 * bit c) % 256 / 2 ^ 0 % 2 == 1) = a)
    ∧ (((bit a + 2 * bit b + 4 * bit c) % 256 / 2 ^ 1 % 2 == 1) = b)
    ∧ (((bit a + 2 * bit b + 4 * bit c) % 256 / 2 ^ 2 % 2 == 1) = c) := by decide

theorem bits_ofFive : ∀ a b c d e : Bool,
    let x := (bit a + 2 * bit b + 4 * bit c + 8 * bit d + 16 * bit e) % 256
    ((x / 2 ^ 0 % 2 == 1) = a) ∧ ((x / 2 ^ 1 % 2 == 1) = b) ∧ ((x / 2 ^ 2 % 2 == 1) = c)
      ∧ ((x / 2 ^ 3 % 2 == 1) = d) ∧ ((x / 2 ^ 4 % 2 == 1) = e) := by decide

/-- Bit `k` of the Bad flags is the flag of entry `k`, where there is one. -/
theorem badBits_testBit (entries : List TurnEntry) (k : Nat) :
    (badBits entries).testBit k = ((entries[k]?).map (·.bad)).getD false := by
  induction entries generalizing k with
  | nil => simp [badBits]
  | cons e entries ih =>
    cases k with
    | zero => cases h : e.bad <;> simp [badBits, bit, h, Nat.testBit_zero]
    | succ k =>
      have half : (bit e.bad + 2 * badBits entries) / 2 = badBits entries := by
        cases e.bad <;> simp only [bit, if_true, Bool.false_eq_true, if_false] <;> omega
      simp [badBits, Nat.testBit_succ, half, ih]

theorem badBits_lt (entries : List TurnEntry) : badBits entries < 2 ^ entries.length := by
  induction entries with
  | nil => simp [badBits]
  | cons e entries ih =>
    have one : bit e.bad ≤ 1 := by cases e.bad <;> decide
    simp only [badBits, List.length_cons, Nat.pow_succ]
    omega

/-- A bit of a 32-bit field, by the byte it stands in. -/
theorem bit_ofByte (x j m : Nat) (hm : m < 8) : (x / 256 ^ j % 256 / 2 ^ m % 2 == 1) = x.testBit (8 * j + m) := by
  have byte : (256 : Nat) ^ j = 2 ^ (8 * j) := by rw [show (256 : Nat) = 2 ^ 8 from rfl, ← Nat.pow_mul]
  rw [byte]
  have : (x / 2 ^ (8 * j) % 2 ^ 8).testBit m = x.testBit (8 * j + m) := by
    rw [Nat.testBit_mod_two_pow, Nat.testBit_div_two_pow]
    simp [hm, Nat.add_comm]
  exact (Bool.beq_eq_decide_eq _ _).trans (Nat.testBit_eq_decide_div_mod_eq.symm.trans this)

theorem bitAt_of {m : Nat} (h : bs.getD k 0#8 = lowByte x) : bitAt bs k m = (x % 256 / 2 ^ m % 2 == 1) := by
  rw [bitAt, byteAt_of h]

theorem bitAt_ofThree {a b c : Bool} (h : bs.getD k 0#8 = lowByte (bit a + 2 * bit b + 4 * bit c)) :
    bitAt bs k 0 = a ∧ bitAt bs k 1 = b ∧ bitAt bs k 2 = c := by
  simp only [bitAt_of h]
  exact bits_ofThree a b c

theorem bitAt_ofFive {a b c d e : Bool}
    (h : bs.getD k 0#8 = lowByte (bit a + 2 * bit b + 4 * bit c + 8 * bit d + 16 * bit e)) :
    bitAt bs k 0 = a ∧ bitAt bs k 1 = b ∧ bitAt bs k 2 = c ∧ bitAt bs k 3 = d ∧ bitAt bs k 4 = e := by
  simp only [bitAt_of h]
  exact bits_ofFive a b c d e

theorem badFlags_of {entries : List TurnEntry} (b0 : bs.getD k 0#8 = lowByte (badBits entries))
    (b1 : bs.getD (k + 1) 0#8 = lowByte (badBits entries / 256))
    (b2 : bs.getD (k + 2) 0#8 = lowByte (badBits entries / 65536)) {n : Nat} (hn : n < 24) :
    bitAt bs (k + n / 8) (n % 8) = ((entries[n]?).map (·.bad)).getD false := by
  rw [← badBits_testBit]
  have bit (j : Nat) (h : bs.getD (k + j) 0#8 = lowByte (badBits entries / 256 ^ j)) (hj : n / 8 = j) :
      bitAt bs (k + n / 8) (n % 8) = (badBits entries).testBit n := by
    rw [hj, bitAt_of h, bit_ofByte _ _ _ (Nat.mod_lt n (by decide)), ← hj, Nat.div_add_mod]
  rcases (by omega : n / 8 = 0 ∨ n / 8 = 1 ∨ n / 8 = 2) with h | h | h
  · exact bit 0 (by simpa using b0) h
  · exact bit 1 (by simpa using b1) h
  · exact bit 2 (by simpa using b2) h

theorem lt_eight_iff {k : Nat} :
    k < 8 ↔ k = 0 ∨ k = 1 ∨ k = 2 ∨ k = 3 ∨ k = 4 ∨ k = 5 ∨ k = 6 ∨ k = 7 := by
  omega

/-- The bytes of the page that show a region. -/
theorem pageView_region (s : State) (code : Nat) (n : Word) : ∀ k, k < 8 → ∀ j, j < 8 →
    (pageView s code n).getD (104 + 8 * k + j) 0#8 = (regionView s.panel.uncertain[k]?).getD j 0#8 := by
  intro k hk j hj
  rcases lt_eight_iff.mp hk with rfl | rfl | rfl | rfl | rfl | rfl | rfl | rfl <;>
    rcases lt_eight_iff.mp hj with rfl | rfl | rfl | rfl | rfl | rfl | rfl | rfl <;> rfl

theorem pageView_regionHalf (s : State) (code : Nat) (n : Word) {k : Nat} (hk : k < 8) {r : Rect}
    (h : s.panel.uncertain[k]? = some r) :
    half (pageView s code n) (104 + 8 * k) = r.x % 65536 ∧ half (pageView s code n) (106 + 8 * k) = r.y % 65536
    ∧ half (pageView s code n) (108 + 8 * k) = r.w % 65536 ∧ half (pageView s code n) (110 + 8 * k) = r.h % 65536 := by
  have shown := pageView_region s code n k hk
  rw [h] at shown
  have at' (j : Nat) : 104 + j + 8 * k = 104 + 8 * k + j := by omega
  refine ⟨half_of (shown 0 (by decide)) (shown 1 (by decide)), ?_, ?_, ?_⟩
  · rw [at' 2]; exact half_of (shown 2 (by decide)) (shown 3 (by decide))
  · rw [at' 4]; exact half_of (shown 4 (by decide)) (shown 5 (by decide))
  · rw [at' 6]; exact half_of (shown 6 (by decide)) (shown 7 (by decide))

theorem pageView_noRegion (s : State) (code : Nat) (n : Word) {k : Nat} (hk : k < 8) (h : s.panel.uncertain[k]? = none)
    {j : Nat} (hj : j < 8) : byteAt (pageView s code n) (104 + 8 * k + j) = 0 := by
  have zero : (regionView none).getD j 0#8 = lowByte 0 := by
    rcases lt_eight_iff.mp hj with rfl | rfl | rfl | rfl | rfl | rfl | rfl | rfl <;> rfl
  rw [byteAt_of ((pageView_region s code n k hk j hj).trans (by rw [h, zero]))]

/-- The reserved bytes of the page (11 R203). -/
theorem pageView_reserved (s : State) (code : Nat) (n : Word) {k : Nat}
    (h : k = 9 ∨ k = 10 ∨ k = 11 ∨ k = 75 ∨ k = 101 ∨ k = 102 ∨ k = 103 ∨ k = 187 ∨ k = 195 ∨ k = 223
      ∨ (∃ o, (o = 12 ∨ o = 32 ∨ o = 52) ∧ (k = o + 1 ∨ k = o + 2 ∨ k = o + 3))
      ∨ (k = 191 ∧ s.turn.entries.length ≤ 24) ∨ (236 ≤ k ∧ k < 252)) : byteAt (pageView s code n) k = 0 := by
  rcases h with rfl | rfl | rfl | rfl | rfl | rfl | rfl | rfl | rfl | rfl | ⟨o, rfl | rfl | rfl, rfl | rfl | rfl⟩
    | ⟨rfl, few⟩ | ⟨low, high⟩
  case inr.inr.inr.inr.inr.inr.inr.inr.inr.inr.inr.inl =>
    have less : badBits s.turn.entries < 16777216 :=
      Nat.lt_of_lt_of_le (badBits_lt _) (Nat.pow_le_pow_right (by decide) few)
    rw [byteAt_of (x := badBits s.turn.entries / 16777216) rfl, Nat.div_eq_of_lt less]
  case inr.inr.inr.inr.inr.inr.inr.inr.inr.inr.inr.inr =>
    obtain ⟨j, less, rfl⟩ : ∃ j, j < 16 ∧ k = 236 + j := ⟨k - 236, by omega, by omega⟩
    rcases Nat.lt_or_ge j 8 with first | second
    · rcases lt_eight_iff.mp first with rfl | rfl | rfl | rfl | rfl | rfl | rfl | rfl <;> rfl
    · obtain ⟨i, rfl⟩ := Nat.exists_eq_add_of_le second
      rcases lt_eight_iff.mp (show i < 8 by omega) with rfl | rfl | rfl | rfl | rfl | rfl | rfl | rfl <;> rfl
  all_goals rfl

theorem operationFields_read {st : Store} {c : ArrayClient} {p : Nat} {z : Bool} (h : st.op = some (.read c p z)) :
    operationFields st = (c.code, 1, p % 64, p / 64) := by simp only [operationFields, h]

theorem operationFields_raw {st : Store} {w : RawWhy} {p : Nat} {z : Bool} (h : st.op = some (.raw p w z)) :
    operationFields st = (3, 2, p % 64, p / 64) := by simp only [operationFields, h]

theorem operationFields_program {st : Store} {d : List Byte} {p : Nat} (h : st.op = some (.program p d)) :
    operationFields st = (3, 3, p % 64, p / 64) := by simp only [operationFields, h]

theorem operationFields_mark {st : Store} {b : Nat} (h : st.op = some (.mark b)) :
    operationFields st = (3, 5, 0, b) := by simp only [operationFields, h]

theorem operationFields_erase {st : Store} {e : Erase} (op : st.op = none) (h : st.erase = some e) :
    operationFields st = (3, 4, 0, e.block) := by simp only [operationFields, op, h]

theorem operationFields_none {st : Store} (op : st.op = none) (h : st.erase = none) :
    operationFields st = (0, 0, 0, 0) := by simp only [operationFields, op, h]

theorem pageView_operation (s : State) (code : Nat) (n : Word) {client kind page block : Nat}
    (h : operationFields s.store = (client, kind, page, block)) (small : client < 256 ∧ kind < 256 ∧ page < 256) :
    byteAt (pageView s code n) 215 = client ∧ byteAt (pageView s code n) 216 = kind
      ∧ byteAt (pageView s code n) 217 = page ∧ half (pageView s code n) 218 = block % 65536 := by
  obtain ⟨c, k, p⟩ := small
  refine ⟨byteAt_small c ?_, byteAt_small k ?_, byteAt_small p ?_, half_of ?_ ?_⟩
  · exact congrArg (fun o : Nat × Nat × Nat × Nat => lowByte o.1) h
  · exact congrArg (fun o : Nat × Nat × Nat × Nat => lowByte o.2.1) h
  · exact congrArg (fun o : Nat × Nat × Nat × Nat => lowByte o.2.2.1) h
  · exact congrArg (fun o : Nat × Nat × Nat × Nat => lowByte o.2.2.2) h
  · exact congrArg (fun o : Nat × Nat × Nat × Nat => lowByte (o.2.2.2 / 256)) h

/-- The lanes' fields of the page. -/
theorem pageView_lanes (s : State) (code : Nat) (n : Word) :
    ∀ i o, (i = LaneId.display ∧ o = 12 ∨ i = .store ∧ o = 32 ∨ i = .control ∧ o = 52) →
          byteAt (pageView s code n) o = (s.link.lane i).state.code
          ∧ word (pageView s code n) (o + 4) = (s.link.lane i).cursor
          ∧ word (pageView s code n) (o + 8) = (s.link.lane i).retiredAddr
          ∧ word (pageView s code n) (o + 12) = (s.link.lane i).retiredCount
          ∧ word (pageView s code n) (o + 16) = (s.link.lane i).stopAddr := by
  rintro i o (⟨rfl, rfl⟩ | ⟨rfl, rfl⟩ | ⟨rfl, rfl⟩)
  all_goals exact ⟨byteAt_small (LaneState.code_lt _) rfl, word_ofWord rfl rfl rfl rfl, word_ofWord rfl rfl rfl rfl,
    word_ofWord rfl rfl rfl rfl, word_ofWord rfl rfl rfl rfl⟩

/-- The Sense Front End's fields of the page. -/
theorem pageView_sense (s : State) (code : Nat) (n : Word) :
    BitVec.ofNat 16 (half (pageView s code n) 72) = (match s.sense.shown.temperature with
            | some T => BitVec.ofInt 16 T | none => 0x8000#16)
        ∧ byteAt (pageView s code n) 74 = (if s.sense.shown.thermFault then 1 else 0)
        ∧ half (pageView s code n) 76 = s.sense.shown.ambient % 65536
        ∧ half (pageView s code n) 78 = s.sense.shown.battery % 65536
        ∧ BitVec.ofNat 16 (half (pageView s code n) 80) = BitVec.ofInt 16 s.sense.shown.battTrim
        ∧ BitVec.ofNat 16 (half (pageView s code n) 82) = BitVec.ofInt 16 s.sense.shown.thermTrim
        ∧ BitVec.ofNat 16 (half (pageView s code n) 84) = BitVec.ofInt 16 s.sense.shown.ambTrim
        ∧ half (pageView s code n) 86 = s.sense.shown.battFiltered % 65536
        ∧ half (pageView s code n) 88 = s.sense.shown.thermFiltered % 65536
        ∧ half (pageView s code n) 90 = s.sense.shown.ambFiltered % 65536 := by
  exact ⟨half_word16 rfl rfl, byteAt_small (bit_lt _) rfl, half_of rfl rfl, half_of rfl rfl, half_word16 rfl rfl,
    half_word16 rfl rfl, half_word16 rfl rfl, half_of rfl rfl, half_of rfl rfl, half_of rfl rfl⟩

/-- The Waveform Unit's and the Panel Update Engine's fields of the page. -/
theorem pageView_panel (s : State) (code : Nat) (n : Word) :
    bitAt (pageView s code n) 92 0 = s.wave.validA ∧ bitAt (pageView s code n) 92 1 = s.wave.validB
        ∧ bitAt (pageView s code n) 92 2 = decide (s.wave.active = .b)
        ∧ byteAt (pageView s code n) 93 = (match s.wave.range with | some r => r % 256 | none => 255)
        ∧ half (pageView s code n) 94 = s.wave.period % 65536
        ∧ byteAt (pageView s code n) 96 = s.panel.engine.code
        ∧ byteAt (pageView s code n) 97 = (if s.panel.known then 1 else 0)
        ∧ byteAt (pageView s code n) 98 = s.panel.pending.length % 256
        ∧ byteAt (pageView s code n) 99 = s.panel.slots.length % 256
        ∧ byteAt (pageView s code n) 100 = s.panel.uncertain.length % 256
        ∧ ∀ k, k < 8 → (∀ r, s.panel.uncertain[k]? = some r →
              half (pageView s code n) (104 + 8 * k) = r.x % 65536
              ∧ half (pageView s code n) (106 + 8 * k) = r.y % 65536
              ∧ half (pageView s code n) (108 + 8 * k) = r.w % 65536
              ∧ half (pageView s code n) (110 + 8 * k) = r.h % 65536)
            ∧ (s.panel.uncertain[k]? = none → ∀ j, j < 8 → byteAt (pageView s code n) (104 + 8 * k + j) = 0) := by
  obtain ⟨validA, validB, active⟩ := bitAt_ofThree (bs := pageView s code n) (k := 92) (a := s.wave.validA)
    (b := s.wave.validB) (c := s.wave.active == .b) rfl
  refine ⟨validA, validB, active.trans (Bool.beq_eq_decide_eq _ _), ?_, half_of rfl rfl,
    byteAt_small (by cases s.panel.engine <;> decide) rfl, byteAt_small (bit_lt _) rfl, byteAt_of rfl, byteAt_of rfl,
    byteAt_of rfl, fun k hk => ⟨fun r h => pageView_regionHalf s code n hk h, fun h j hj => pageView_noRegion s code n hk h hj⟩⟩
  refine (byteAt_of (x := s.wave.range.getD 0xFF) rfl).trans ?_
  cases s.wave.range <;> rfl

/-- The keys' and the Turn-Ahead Unit's fields of the page. -/
theorem pageView_keys (s : State) (code : Nat) (n : Word) :
    half (pageView s code n) 168 = s.keys.countFwd.toNat ∧ half (pageView s code n) 170 = s.keys.countBack.toNat
        ∧ half (pageView s code n) 172 = s.keys.countMenu.toNat
        ∧ half (pageView s code n) 174 = s.keys.countPower.toNat
        ∧ bitAt (pageView s code n) 176 0 = s.keys.fwd.debounced
        ∧ bitAt (pageView s code n) 176 1 = s.keys.back.debounced
        ∧ bitAt (pageView s code n) 176 2 = s.keys.menu.debounced
        ∧ bitAt (pageView s code n) 176 3 = s.keys.power.debounced
        ∧ bitAt (pageView s code n) 176 4 = s.keys.cover.debounced
        ∧ byteAt (pageView s code n) 177 = s.turn.queue.length % 256
        ∧ byteAt (pageView s code n) 178 = (if s.turn.armed then 1 else 0)
        ∧ byteAt (pageView s code n) 179 = s.turn.entries.length % 256
        ∧ byteAt (pageView s code n) 180 = s.turn.cursor % 256
        ∧ byteAt (pageView s code n) 181 = s.turn.interval % 256
        ∧ byteAt (pageView s code n) 182 = s.turn.counter % 256
        ∧ byteAt (pageView s code n) 183 = (if s.turn.owed then 1 else 0)
        ∧ byteAt (pageView s code n) 184 = s.turn.state.code
        ∧ byteAt (pageView s code n) 185 = s.turn.frameA.code ∧ byteAt (pageView s code n) 186 = s.turn.frameB.code
        ∧ ∀ k, k < 24 →
        bitAt (pageView s code n) (188 + k / 8) (k % 8) = ((s.turn.entries[k]?).map (·.bad)).getD false := by
  obtain ⟨fwd, back, menu, power, cover⟩ := bitAt_ofFive (bs := pageView s code n) (k := 176)
    (a := s.keys.fwd.debounced) (b := s.keys.back.debounced) (c := s.keys.menu.debounced)
    (d := s.keys.power.debounced) (e := s.keys.cover.debounced) rfl
  exact ⟨half_of_lt s.keys.countFwd.isLt rfl rfl, half_of_lt s.keys.countBack.isLt rfl rfl,
    half_of_lt s.keys.countMenu.isLt rfl rfl, half_of_lt s.keys.countPower.isLt rfl rfl, fwd, back, menu, power, cover,
    byteAt_of rfl, byteAt_small (bit_lt _) rfl, byteAt_of rfl, byteAt_of rfl, byteAt_of rfl, byteAt_of rfl,
    byteAt_small (bit_lt _) rfl, byteAt_small (by cases s.turn.state <;> decide) rfl,
    byteAt_small (by cases s.turn.frameA <;> decide) rfl, byteAt_small (by cases s.turn.frameB <;> decide) rfl,
    fun k hk => badFlags_of rfl rfl rfl hk⟩

/-- The Front Light Controller's fields of the page. -/
theorem pageView_light (s : State) (code : Nat) (n : Word) :
    byteAt (pageView s code n) 192 = s.light.mode.code ∧ bitAt (pageView s code n) 193 0 = decide (s.light.curve ≠ [])
        ∧ bitAt (pageView s code n) 193 1 = s.light.fade ∧ bitAt (pageView s code n) 193 2 = s.light.held.isNone
        ∧ byteAt (pageView s code n) 194 = s.light.warmth % 256
        ∧ half (pageView s code n) 196 = s.light.manual % 65536
        ∧ BitVec.ofNat 16 (half (pageView s code n) 198) = BitVec.ofInt 16 s.light.bias
        ∧ half (pageView s code n) 200 = s.light.step % 65536
        ∧ half (pageView s code n) 202 = s.light.held.getD 0 % 65536
        ∧ half (pageView s code n) 204 = s.light.level % 65536 ∧ half (pageView s code n) 206 = s.light.target % 65536
        ∧ half (pageView s code n) 208 = s.light.output % 65536
        ∧ half (pageView s code n) 210 = s.light.warm % 65536 ∧ half (pageView s code n) 212 = s.light.cool % 65536 := by
  obtain ⟨curve, fade, held⟩ := bitAt_ofThree (bs := pageView s code n) (k := 193) (a := s.light.curve != [])
    (b := s.light.fade) (c := s.light.held.isNone) rfl
  exact ⟨byteAt_small (by cases s.light.mode <;> decide) rfl, curve.trans (Bool.eq_iff_iff.mpr (by simp)), fade, held,
    byteAt_of rfl, half_of rfl rfl, half_word16 rfl rfl, half_of rfl rfl, half_of rfl rfl, half_of rfl rfl,
    half_of rfl rfl, half_of rfl rfl, half_of rfl rfl, half_of rfl rfl⟩

/-- The Store Controller's and the executor's fields of the page. -/
theorem pageView_store (s : State) (code : Nat) (n : Word) :
    byteAt (pageView s code n) 214 = s.store.power.code
        ∧ (∀ client kind page block,
            ((∃ c p second, s.store.op = some (.read c p second)
                ∧ client = c.code ∧ kind = 1 ∧ page = p % 64 ∧ block = p / 64)
              ∨ (∃ p why second, s.store.op = some (.raw p why second)
                ∧ client = 3 ∧ kind = 2 ∧ page = p % 64 ∧ block = p / 64)
              ∨ (∃ p d, s.store.op = some (.program p d) ∧ client = 3 ∧ kind = 3 ∧ page = p % 64 ∧ block = p / 64)
              ∨ (∃ b, s.store.op = some (.mark b) ∧ client = 3 ∧ kind = 5 ∧ page = 0 ∧ block = b)
              ∨ (∃ e, s.store.op = none ∧ s.store.erase = some e
                ∧ client = 3 ∧ kind = 4 ∧ page = 0 ∧ block = e.block)
              ∨ (s.store.op = none ∧ s.store.erase = none ∧ client = 0 ∧ kind = 0 ∧ page = 0 ∧ block = 0)) →
            byteAt (pageView s code n) 215 = client ∧ byteAt (pageView s code n) 216 = kind
            ∧ byteAt (pageView s code n) 217 = page ∧ half (pageView s code n) 218 = block % 65536)
        ∧ byteAt (pageView s code n) 220 = (if (s.store.erase.map (·.phase)) = some .suspended then 1 else 0)
        ∧ byteAt (pageView s code n) 221 = (match s.store.erase with | some e => e.count % 256 | none => 0)
        ∧ byteAt (pageView s code n) 222 = (if s.pins.guard then 1 else 0)
        ∧ half (pageView s code n) 224 = s.store.retiredBlocks % 65536
        ∧ half (pageView s code n) 226 = s.store.unknownBlocks % 65536
        ∧ byteAt (pageView s code n) 228 = s.executor.phase.code
        ∧ byteAt (pageView s code n) 229 = (match s.executor.kind with | some k => k.code | none => 0)
        ∧ half (pageView s code n) 230 = s.executor.block % 65536
        ∧ word (pageView s code n) 232 = BitVec.ofNat 32 s.executor.progress := by
  refine ⟨byteAt_small (by cases s.store.power <;> decide) rfl, fun client kind page block shown => ?_, ?_, ?_,
    byteAt_small (bit_lt _) rfl, half_of rfl rfl, half_of rfl rfl,
    byteAt_small (by cases s.executor.phase <;> decide) rfl, ?_, half_of rfl rfl, word_of rfl rfl rfl rfl⟩
  · have inBlock (p : Nat) : p % 64 < 256 := Nat.lt_trans (Nat.mod_lt p (show 0 < 64 by decide)) (by decide)
    rcases shown with ⟨c, p, z, h, rfl, rfl, rfl, rfl⟩ | ⟨p, w, z, h, rfl, rfl, rfl, rfl⟩
      | ⟨p, d, h, rfl, rfl, rfl, rfl⟩ | ⟨b, h, rfl, rfl, rfl, rfl⟩ | ⟨e, op, h, rfl, rfl, rfl, rfl⟩
      | ⟨op, h, rfl, rfl, rfl, rfl⟩
    · exact pageView_operation s code n (operationFields_read h) ⟨ArrayClient.code_lt c, by decide, inBlock p⟩
    · exact pageView_operation s code n (operationFields_raw h) ⟨by decide, by decide, inBlock p⟩
    · exact pageView_operation s code n (operationFields_program h) ⟨by decide, by decide, inBlock p⟩
    · exact pageView_operation s code n (operationFields_mark h) ⟨by decide, by decide, by decide⟩
    · exact pageView_operation s code n (operationFields_erase op h) ⟨by decide, by decide, by decide⟩
    · exact pageView_operation s code n (operationFields_none op h) ⟨by decide, by decide, by decide⟩
  · refine (byteAt_small (bit_lt (s.store.erase.any fun e => e.phase == .suspended)) rfl).trans ?_
    cases s.store.erase <;> simp [bit]
  · refine (byteAt_of (x := (s.store.erase.map (·.count)).getD 0) rfl).trans ?_
    cases s.store.erase <;> rfl
  · refine (byteAt_small (x := (s.executor.kind.map Kind.code).getD 0) ?_ rfl).trans ?_
    · rcases s.executor.kind with _ | k
      · decide
      · cases k <;> decide
    · cases s.executor.kind <;> rfl

/-- A page write at the head of the port begins, before and behind a transfer. -/
theorem pageWrite_begins (s : State) :
    (∀ q, s.bus.queue = .statusPage :: q → s.bus.snapshot = none →
          (beginAccess s).bus.snapshot = some (pageBytes s s.link.state.code (s.bus.writeCount + 1#32))
            ∧ (beginAccess s).bus.writeCount = s.bus.writeCount + 1#32)
      ∧ (∀ q, s.bus.queue = .finalPage :: q → s.bus.snapshot = none →
          (beginAccess s).bus.snapshot = some (pageBytes s 0 (s.bus.writeCount + 1#32)))
      ∧ (∀ x q, s.bus.queue = x :: .statusPage :: q → x.repeats = true → s.bus.snapshot = none →
          (beginAccess (startTransfers s)).bus =
            { queue := .statusPage :: q, transfers := s.bus.transfers ++ [x],
              snapshot := some (pageBytes s s.link.state.code (s.bus.writeCount + 1#32)),
              writeCount := s.bus.writeCount + 1#32 }) := by
  refine ⟨fun q queue none => ?_, fun q queue none => ?_, fun x q queue repeats none => ?_⟩
  · simp [beginAccess, queue, none]
  · simp [beginAccess, queue, none, LinkState.code]
  · have once : BusAccess.repeats .statusPage = false := rfl
    have starts : startTransfers s = s.modBus fun b =>
        { b with queue := .statusPage :: q, transfers := b.transfers ++ [x] } := by
      simp [startTransfers, queue, repeats, once, State.modBus]
    rw [starts]
    simp [beginAccess, State.modBus, none]
    rfl

/-! ## The ends of page writes -/

theorem exec_statusPageWriteEnd (h : s.bus.queue = .statusPage :: q) (e : Bool) :
    exec (.statusPageWriteEnd e) s = commit s (pageWritten e s.bus.snapshot (s.popped q)) := by
  have ended := endAccess_head (p := (· == .statusPage)) h rfl
  simp only [exec, execStatusPageWriteEnd, ended]
  rfl

theorem exec_detachFinalPage (h : s.bus.queue = .finalPage :: q) (e : Bool) :
    exec (.detachFinalPage e) s =
      commit s ((pageWritten e s.bus.snapshot (s.popped q)).modLink fun l => { l with state := .detached }) := by
  have ended := endAccess_head (p := (· == .finalPage)) h rfl
  simp only [exec, execDetachFinalPage, ended]
  rfl

/-- Settles O13: the ends of page writes, the page byte by byte through its view, and the snapshots that begin. -/
theorem pageWriteOutcome : Obligations.PageWriteOutcome := by
  refine ⟨fun s q page snapshot wf => ⟨fun queue => ⟨?_, ?_⟩, fun queue => ⟨?_, ?_⟩⟩, ?_⟩
  · have run := exec_statusPageWriteEnd queue false
    rw [snapshot] at run
    obtain ⟨t, run, eq, asks⟩ := exec_asksAfter run (List.append_nil q).symm rfl
    have shared : t.shared = writeShared s.link.statusAddr.toNat page s.shared := by rw [eq]; rfl
    exact ⟨t, run, eq.trans (by rw [shared]; rfl), sharedWritten_of wf shared, asks⟩
  · have run := exec_statusPageWriteEnd queue true
    rw [snapshot] at run
    exact exec_asksAfter (u := s.popped q) run (List.append_nil q).symm rfl
  · have run := exec_detachFinalPage queue false
    rw [snapshot] at run
    obtain ⟨t, run, eq, asks⟩ := exec_asksAfter run (List.append_nil q).symm rfl
    have shared : t.shared = writeShared s.link.statusAddr.toNat page s.shared := by rw [eq]; rfl
    exact ⟨t, run, eq.trans (by rw [shared]; rfl), sharedWritten_of wf shared, asks⟩
  · have run := exec_detachFinalPage queue true
    rw [snapshot] at run
    exact exec_asksAfter (u := (s.popped q).modLink fun l => { l with state := .detached }) run
      (List.append_nil q).symm rfl
  · rintro s code n P rfl
    rw [pageBytes_view]
    refine ⟨⟨pageView_length s code n, word_ofWord rfl rfl rfl rfl, word_ofWord rfl rfl rfl rfl, byteAt_of rfl,
        byteAt_small (by cases s.power.state <;> decide) rfl, byteAt_small (by cases s.power.wakeReason <;> decide) rfl,
        byteAt_small (by cases s.power.cls <;> decide) rfl, byteAt_small (bit_lt _) rfl⟩,
      pageView_lanes s code n, pageView_sense s code n, pageView_panel s code n, pageView_keys s code n,
      pageView_light s code n, pageView_store s code n, fun k h => pageView_reserved s code n h, pageWrite_begins s⟩

end Sys2Proof.Machine
end

section
/-!
PROOFS. The Sense Front End (02): the sweep timer, the conversions of a sweep, the curve, and SENSE_SETUP.
-/

namespace Sys2Proof.Machine

open Sys2Proof

variable {c : Instr} {s t u v : State}

/-! ## The sweep timer -/

theorem period_match (n : Sense) (p : PowerState) : n.period (periodKind p) = match p with
    | .run | .waking => n.runPeriod
    | .dozeEntry | .dozeQuiet | .dozeTurning | .deepEntry => n.dozePeriod
    | .deep => n.deepPeriod * 1000 := by
  cases p <;> rfl

theorem Sense.expire_free {n : Sense} (p : PowerState) (sweep : n.sweep = none) (setup : n.setup = none) :
    n.expire p = n.startSweep p := if_neg (by simp [Sense.occupied, sweep, setup])

theorem Sense.expire_occupied {n : Sense} (p : PowerState) (h : n.sweep ≠ none ∨ n.setup ≠ none) :
    n.expire p = { n with timer := none, remembered := true } :=
  if_pos (by rcases h with h | h <;> simp [Sense.occupied, Option.isSome_iff_ne_none, h])

/-- Settles O14. -/
theorem sweepTimerExpires : Obligations.SweepTimerExpires := by
  intro s running
  have run : exec .sweepTimerExpiry s = commit s (s.modSense (Sense.expire s.power.state)) :=
    if_pos (Option.isSome_iff_ne_none.mpr running)
  refine ⟨fun sweep setup => ?_, fun occupied => ?_⟩
  · obtain ⟨t, run, eq, asks⟩ := exec_asksNothing run rfl
    refine ⟨t, run, asks, eq.trans ?_⟩
    have full : (s.power.state != .deep) = decide (s.power.state ≠ .deep) := Bool.eq_iff_iff.mpr (by simp)
    rw [State.modSense, Sense.expire_free _ sweep setup, Sense.startSweep, period_match, full] <;>
      cases s.power.state <;> rfl
  · obtain ⟨t, run, eq, asks⟩ := exec_asksNothing run rfl
    refine ⟨t, run, asks, eq.trans ?_⟩
    rw [State.modSense, Sense.expire_occupied _ occupied]

/-! ## The correction chain -/

theorem clampInt_eq {lo hi : Int} (i : Int) (h : lo ≤ hi) : clampInt lo hi i = max lo (min i hi) := by
  unfold clampInt
  split
  · omega
  · split <;> omega

theorem Channel.nextTrim_manual {k : Channel} (h : k.mode = .manual) (z : Nat) : k.nextTrim z = k.trim := by
  simp [Channel.nextTrim, h]

theorem Channel.nextTrim_auto {k : Channel} (h : k.mode = .auto) (z : Nat) : k.nextTrim z = clampInt (-256) 255
    (if k.trim < (z : Int) then k.trim + 1 else if (z : Int) < k.trim then k.trim - 1 else k.trim) := by
  simp [Channel.nextTrim, h]

theorem scaleSample_of {d q : Int} {g : Nat} (low : q * 256 ≤ d * g + 128) (high : d * g + 128 < (q + 1) * 256) :
    scaleSample d g = (clampInt 0 4095 q).toNat := by
  have quotient : Int.fdiv (d * g + 128) 256 = q := by
    rw [Int.fdiv_eq_ediv_of_nonneg _ (by decide)]
    omega
  rw [scaleSample, quotient]

/-! ## Conversions -/

theorem exec_zeroSample {w : Sweep} {raw : BitVec 12} (sweep : s.sense.sweep = some w) (stage : w.stage = .zero) :
    exec (.conversionEnd raw) s = commit s (zeroTaken w raw.toNat s) := by
  simp [exec, execConversionEnd, sweep, stage]

theorem exec_signalSample {w : Sweep} {raw : BitVec 12} (sweep : s.sense.sweep = some w) (stage : w.stage = .signal) :
    exec (.conversionEnd raw) s = commit s (signalTaken w raw.toNat s) := by
  simp [exec, execConversionEnd, sweep, stage]

theorem signalTaken_next {w : Sweep} {raw : Nat} {k : ChannelId} (h : w.nextChannel = some k) :
    signalTaken w raw s = s.modSense fun n =>
      { n.take w.chan w.zero raw with sweep := some { w with chan := k, stage := .zero, zero := 0 } } := by
  simp [signalTaken, h, State.modSense]

/-- Settles O15: the conversions by channel, and the chain's two stages before its filter. -/
theorem conversionsRunTheChain : Obligations.ConversionsRunTheChain := by
  intro s w raw sweep
  refine ⟨fun stage => ?_, fun stage chan faulty => ?_, fun stage chan low high => ?_, fun stage chan full => ?_,
    fun k z r range zero => ⟨rfl, rfl, rfl, rfl, fun manual => Channel.nextTrim_manual manual z, fun auto => ?_⟩,
    fun d g q low high => ?_⟩
  · obtain ⟨t, run, eq, -⟩ := exec_asksNothing (exec_zeroSample (raw := raw) sweep stage) rfl
    refine ⟨t, run, eq.trans ?_⟩
    have waits : (w.chan == .amb && decide (0 < s.light.output)) = decide (w.chan = .amb ∧ 0 < s.light.output) := by
      rw [Bool.decide_and, Bool.beq_eq_decide_eq]
    simp only [zeroTaken, State.modSense, waits, decide_eq_true_eq]
  · have next : w.nextChannel = some .amb := by rw [Sweep.nextChannel, chan]
    have fault : thermFaulty raw.toNat = true := by simpa [thermFaulty] using faulty
    have run := exec_signalSample (raw := raw) sweep stage
    rw [signalTaken_next next] at run
    obtain ⟨t, run, eq, -⟩ := exec_asksNothing run rfl
    refine ⟨t, run, eq.trans ?_⟩
    simp only [State.modSense, chan, Sense.take, Sense.takeTherm, fault, if_true] <;> rfl
  · have next : w.nextChannel = some .amb := by rw [Sweep.nextChannel, chan]
    have sound : thermFaulty raw.toNat = false := by simp [thermFaulty]; omega
    have run := exec_signalSample (raw := raw) sweep stage
    rw [signalTaken_next next] at run
    obtain ⟨t, run, eq, -⟩ := exec_asksNothing run rfl
    refine ⟨t, run, eq.trans ?_⟩
    simp only [State.modSense, chan, Sense.take, Sense.takeTherm, sound, Bool.false_eq_true, if_false] <;> rfl
  · have next : w.nextChannel = some .therm := by rw [Sweep.nextChannel, chan, full]; rfl
    have run := exec_signalSample (raw := raw) sweep stage
    rw [signalTaken_next next] at run
    obtain ⟨t, run, eq, -⟩ := exec_asksNothing run rfl
    refine ⟨t, run, eq.trans ?_⟩
    simp only [State.modSense, chan, Sense.take, Sense.takeBatt, batteryOf]
  · obtain ⟨low, high⟩ := And.intro range.trimLow range.trimHigh
    rw [Channel.nextTrim_auto auto, clampInt_eq _ (by decide)]
    refine ⟨fun h => ?_, fun h => ?_, fun h => ?_⟩
    · rw [if_pos h]; omega
    · rw [if_neg (by omega), if_pos h]; omega
    · rw [if_neg (by omega), if_neg (by omega)]; omega
  · rw [scaleSample_of low high, clampInt_eq _ (by decide)]
    refine ⟨fun h => ?_, fun h => ?_, fun h k => ?_⟩ <;> omega

/-! ## The temperature curve -/

theorem curveAt_first {p : Nat × Int} {l : List (Nat × Int)} {x : Nat} (h : x ≤ p.1) : curveAt x (p :: l) = p.2 := by
  cases l with
  | nil => rfl
  | cons q l => exact if_pos h

theorem curveAt_skip {p q : Nat × Int} {l : List (Nat × Int)} {x : Nat} (first : p.1 < x) (second : q.1 ≤ x) :
    curveAt x (p :: q :: l) = curveAt x (q :: l) :=
  (if_neg (Nat.not_le.mpr first)).trans (if_neg (Nat.not_lt.mpr second))

/-- Points below the value are passed over. -/
theorem curveAt_append {p : Nat × Int} {x : Nat} (h : p.1 ≤ x) : ∀ {before after : List (Nat × Int)},
    (before ++ p :: after).Pairwise (fun a b => a.1 < b.1) → curveAt x (before ++ p :: after) = curveAt x (p :: after)
  | [], _, _ => rfl
  | [b], after, asc => by
    have less := (List.pairwise_cons.mp asc).1 p (by simp)
    exact curveAt_skip (by omega) h
  | b :: d :: before, after, asc => by
    have tail := (List.pairwise_cons.mp asc).2
    have b_lt := (List.pairwise_cons.mp asc).1 p (by simp)
    have d_lt := (List.pairwise_cons.mp tail).1 p (by simp)
    exact (curveAt_skip (l := before ++ p :: after) (by omega) (by omega)).trans (curveAt_append h tail)

theorem curveAt_between {p q : Nat × Int} {l : List (Nat × Int)} {x : Nat} (low : p.1 ≤ x) (high : x < q.1) :
    curveAt x (p :: q :: l) = p.2 + Int.tdiv (((x : Int) - p.1) * (q.2 - p.2)) ((q.1 : Int) - p.1) := by
  rcases Nat.eq_or_lt_of_le low with rfl | above
  · rw [curveAt_first (Nat.le_refl _)]
    simp
  · change (if x ≤ p.1 then _ else if x < q.1 then _ else _) = _
    rw [if_neg (by omega), if_pos high, interpolate]

/-- Between two points the value lies between theirs. -/
theorem tdiv_between {a n d : Int} (h0 : 0 ≤ a) (h1 : a < n) :
    (0 ≤ d → 0 ≤ Int.tdiv (a * d) n ∧ Int.tdiv (a * d) n ≤ d) ∧ (d ≤ 0 → d ≤ Int.tdiv (a * d) n ∧ Int.tdiv (a * d) n ≤ 0) := by
  have up {d : Int} (hd : 0 ≤ d) : 0 ≤ Int.tdiv (a * d) n ∧ Int.tdiv (a * d) n ≤ d := by
    have product := Int.mul_nonneg h0 hd
    rw [Int.tdiv_eq_ediv_of_nonneg product]
    refine ⟨Int.ediv_nonneg product (by omega), ?_⟩
    have bound : a * d ≤ d * n := by rw [Int.mul_comm d n]; exact Int.mul_le_mul_of_nonneg_right (by omega) hd
    exact Int.ediv_le_of_le_mul (by omega) bound
  refine ⟨up, fun hd => ?_⟩
  obtain ⟨low, high⟩ := up (Int.neg_nonneg.mpr hd)
  rw [Int.mul_neg, Int.neg_tdiv] at low high
  omega

theorem curveAt_bounded {lo hi : Int} (x : Nat) : ∀ {l : List (Nat × Int)}, l ≠ [] →
    (∀ p, p ∈ l → lo ≤ p.2 ∧ p.2 ≤ hi) → lo ≤ curveAt x l ∧ curveAt x l ≤ hi
  | [], empty, _ => absurd rfl empty
  | [p], _, h => h p (by simp)
  | p :: q :: l, _, h => by
    obtain ⟨p_low, p_high⟩ := h p (by simp)
    obtain ⟨q_low, q_high⟩ := h q (by simp)
    by_cases first : x ≤ p.1
    · rw [curveAt_first first]
      exact ⟨p_low, p_high⟩
    · by_cases here : x < q.1
      · rw [curveAt_between (by omega) here]
        obtain ⟨rises, falls⟩ := tdiv_between (a := (x : Int) - p.1) (n := (q.1 : Int) - p.1) (d := q.2 - p.2)
          (by omega) (by omega)
        rcases Int.le_total 0 (q.2 - p.2) with d | d
        · have := rises d; omega
        · have := falls d; omega
      · have rest := curveAt_bounded x (l := q :: l) (by simp) fun a ha => h a (List.mem_cons_of_mem _ ha)
        rwa [curveAt_skip (by omega) (by omega)]

/-- Settles O19. -/
theorem curveReadsBetweenPoints : Obligations.CurveReadsBetweenPoints := by
  intro curve x asc some
  have pairwise := (ascending_iff curve).mp asc
  refine ⟨?_, fun p last high => ?_, ?_, fun p member => ?_, fun lo hi h => curveAt_bounded x some h⟩
  · rintro p l rfl low
    exact curveAt_first low
  · obtain ⟨before, rfl⟩ := List.getLast?_eq_some_iff.mp last
    exact curveAt_append high pairwise
  · rintro before p q after rfl low high
    rw [curveAt_append low pairwise, curveAt_between low high]
  · obtain ⟨before, after, rfl⟩ := List.append_of_mem member
    rw [curveAt_append (Nat.le_refl _) pairwise, curveAt_first (Nat.le_refl _)]

end Sys2Proof.Machine
end

section
/-!
PROOFS. Records at their consumers: what acceptance and completion ask the port for (01 R9, R11), and SENSE_SETUP (02
R35 to R37).
-/

namespace Sys2Proof.Machine

open Sys2Proof

variable {c : Instr} {s t u v : State} {k : Kind} {r : RecordCopy} {i : LaneId} {a : Word}

/-! ## Acceptance and completion -/

theorem acceptRecord_eq (k : Kind) (r : RecordCopy) (s : State) : acceptRecord k r s =
    { s with link := takenLink k r s, bus := { s.bus with queue := s.bus.queue ++ takenAccesses k r s } } := by
  have link := acceptRecord_link k r s
  have queue := acceptRecord_queue k r s
  have transfers : (acceptRecord k r s).bus = { s.bus with queue := (acceptRecord k r s).bus.queue } := rfl
  have rest : acceptRecord k r s = { s with link := (acceptRecord k r s).link, bus := (acceptRecord k r s).bus } := rfl
  rw [rest, transfers, link, queue]
  rfl

theorem offered_lane (h : offered k s = some r) : (s.link.lane k.lane).copy = some r := by
  unfold offered at h
  dsimp only at h
  split at h
  · exact (Option.filter_eq_some_iff.mp h).1
  · cases h

/-- A record that has just been accepted can be written. -/
theorem writable_accepted (h : Ready k r s) (link : u.link = takenLink k r s) : Writable k.lane r.addr u := by
  obtain ⟨-, -, fresh⟩ := h
  have opened := openEntry_acceptRecord fresh
  rw [acceptRecord_eq] at opened
  have same : openEntry k.lane r.addr u = some (newEntry r (some k)) := (openEntry_congr link _ _).trans opened
  rw [Writable, same]
  rfl

theorem completeRecord_writable (h : Writable i a s) (result : ResultCode) (detail : Word) (progress : Nat) :
    completeRecord i a result detail progress s =
      { s with bus := { s.bus with queue := s.bus.queue ++ doneAccesses i a result detail progress } } := by
  obtain ⟨e, opened, writable⟩ := Option.map_eq_some_iff.mp h
  rw [completeRecord_open opened writable, doneAccesses]
  simp [enqueue, State.modBus]

theorem markRunning_writable (h : Writable i a s) :
    markRunning i a s = { s with bus := { s.bus with queue := s.bus.queue ++ [.stateWrite i a .running] } } := by
  obtain ⟨e, opened, writable⟩ := Option.map_eq_some_iff.mp h
  rw [markRunning_open opened writable]
  rfl

theorem Writable.congr (h : Writable i a s) (link : u.link = s.link) : Writable i a u := by
  rw [Writable, openEntry_congr link]
  exact h

/-- The row of a kind's record, where the record is ready. -/
theorem exec_ready {effect : RecordCopy → State → State} (row : exec c s = onRecord k effect s) (h : Ready k r s) :
    exec c s = commit s (effect r { s with
      link := takenLink k r s, bus := { s.bus with queue := s.bus.queue ++ takenAccesses k r s } }) := by
  rw [row, onRecord_accepted h.1 h.2.1, acceptRecord_eq]

/-! ## SENSE_SETUP -/

theorem sweepPeriod_eq (s : State) : sweepPeriod s = s.sense.period (periodKind s.power.state) :=
  (period_match s.sense s.power.state).symm

theorem Channel.applyGroup_absent {ch : ChannelId} {k : Channel} {b : List Byte} (h : groupPresent b ch = false) :
    k.applyGroup b ch = k := by
  simp [Channel.applyGroup, h]

theorem Channel.applyGroup_present {ch : ChannelId} {k : Channel} {b : List Byte} (h : groupPresent b ch = true) :
    k.applyGroup b ch =
      { mode := if byteAt b (groupBase ch) = 1 then .manual else .auto,
        trim := if byteAt b (groupBase ch) = 1 then max (-256) (min 255 (halfSigned b (groupBase ch + 4))) else k.trim,
        gain := max 128 (min 511 (half b (groupBase ch + 6))), k := min 4 (byteAt b (groupBase ch + 1)),
        filtered := k.filtered, seed := k.seed || bitAt b (groupBase ch + 2) 0 } := by
  simp only [Channel.applyGroup, h, if_true, clampInt_eq _ (show (-256 : Int) ≤ 255 by decide), Int.min_comm, Nat.min_comm]

/-- The settings that a SENSE_SETUP gives, its timer and what is presented apart (02 R37). -/
def Sense.setUp (b : List Byte) (n : Sense) : Sense :=
  { n with batt := n.batt.applyGroup b .batt, therm := n.therm.applyGroup b .therm, amb := n.amb.applyGroup b .amb,
           curve := if bitAt b 32 3 then some (setupCurve b) else n.curve,
           runPeriod := if bitAt b 32 4 then half b 96 else n.runPeriod,
           dozePeriod := if bitAt b 32 4 then half b 98 else n.dozePeriod,
           deepPeriod := if bitAt b 32 4 then half b 100 else n.deepPeriod }

theorem Sense.applySetup_eq (p : PowerState) (b : List Byte) (n : Sense) : n.applySetup p b =
    ({ n.setUp b with
        timer := if (n.setUp b).period (periodKind p) = n.period (periodKind p) then n.timer
          else some ((n.setUp b).period (periodKind p)) } : Sense).present := by
  by_cases same : (n.setUp b).period (periodKind p) = n.period (periodKind p)
  · rw [if_pos same]
    exact congrArg Sense.present (if_pos same)
  · rw [if_neg same]
    exact congrArg Sense.present (if_neg same)

theorem Sense.setUp_channel (b : List Byte) (n : Sense) (ch : ChannelId) :
    (n.setUp b).channel ch = (n.channel ch).applyGroup b ch := by
  cases ch <;> rfl

theorem Channel.applyGroup_filtered (k : Channel) (b : List Byte) (ch : ChannelId) :
    (k.applyGroup b ch).filtered = k.filtered := by
  unfold Channel.applyGroup
  dsimp only
  split <;> rfl

theorem exec_senseSetupApply (setup : s.sense.setup = some r) (sweep : s.sense.sweep = none) :
    exec .senseSetupApply s = commit s ((applySetup r s).modSense (Sense.startOwed s.power.state)) := by
  simp [exec, execSenseSetupApply, setup, sweep]

/-- Settles O20. -/
theorem senseSetupSteps : Obligations.SenseSetupSteps := by
  refine fun s r => ⟨fun ready => ?_, fun setup sweep remembered due writable ok => ?_,
    fun setup sweep remembered due writable fails => ?_⟩
  · have row : exec .senseSetup s = onRecord .senseSetup (fun r t => t.modSense fun n => { n with setup := some r }) s := rfl
    have run := exec_ready row ready
    exact (exec_asks run rfl rfl).imp fun t ⟨run, eq, asks⟩ => ⟨run, asks, eq⟩
  · have run := exec_senseSetupApply setup sweep
    have applied : applySetup r s =
        { s with bus := { s.bus with queue := s.bus.queue ++ doneAccesses .control r.addr .ok (setupDetail r.bytes) 0 },
                 sense := ({ s.sense with setup := none } : Sense).applySetup s.power.state r.bytes } := by
      unfold applySetup
      dsimp only
      rw [if_pos ok]
      exact completeRecord_writable (writable.congr (by rfl)) _ _ _
    have waits : (({ s.sense with setup := none } : Sense).applySetup s.power.state r.bytes).startOwed s.power.state =
        ({ s.sense with setup := none } : Sense).applySetup s.power.state r.bytes := by
      rw [Sense.applySetup_eq]
      exact Sense.startOwed_waits (.inr ⟨remembered, due⟩)
    rw [applied, State.modSense, waits, Sense.applySetup_eq] at run
    obtain ⟨t, run, eq, asks⟩ := exec_asks run rfl rfl
    have sense : t.sense = _ := congrArg State.sense eq
    have period : sweepPeriod t = (s.sense.setUp r.bytes).period (periodKind s.power.state) := by
      rw [sweepPeriod_eq, eq]
      cases s.power.state <;> rfl
    refine ⟨t, run, asks, eq.trans (by rw [sense]; rfl), fun ch g n named => ?_, ?_⟩
    · have base : groupBase ch = g ∧ groupBit ch = n := by
        rcases named with ⟨rfl, rfl, rfl⟩ | ⟨rfl, rfl, rfl⟩ | ⟨rfl, rfl, rfl⟩ <;> exact ⟨rfl, rfl⟩
      obtain ⟨rfl, rfl⟩ := base
      have channel : t.sense.channel ch = (s.sense.channel ch).applyGroup r.bytes ch := by
        rw [sense]
        exact Sense.setUp_channel r.bytes s.sense ch
      exact ⟨fun absent => channel.trans (Channel.applyGroup_absent absent),
        fun present => channel.trans (Channel.applyGroup_present present)⟩
    · rw [period, sweepPeriod_eq s, sense]
      refine ⟨rfl, rfl, rfl, rfl, ?_, ?_, rfl, rfl, rfl, rfl, sweep⟩
      · cases s.power.state <;> rfl
      · simp only [Sense.present, Sense.setUp, Channel.applyGroup_filtered]
  · have run := exec_senseSetupApply setup sweep
    have refused : applySetup r s =
        { s with bus := { s.bus with queue := s.bus.queue ++ doneAccesses .control r.addr .badSetup 0#32 0 },
                 sense := { s.sense with setup := none } } := by
      unfold applySetup
      dsimp only
      rw [if_neg (by simp [fails])]
      exact completeRecord_writable (writable.congr (by rfl)) _ _ _
    have waits : ({ s.sense with setup := none } : Sense).startOwed s.power.state = { s.sense with setup := none } :=
      Sense.startOwed_waits (.inr ⟨remembered, due⟩)
    rw [refused, State.modSense, waits] at run
    exact (exec_asks run rfl rfl).imp fun t ⟨run, eq, asks⟩ => ⟨run, asks, eq⟩

end Sys2Proof.Machine
end

section
/-!
PROOFS. The front light (08): LIGHT_SET and LIGHT_CURVE, the ramp and the latch, the strings and the mix; and
POWER_SETUP (03 R44, R45).
-/

namespace Sys2Proof.Machine

open Sys2Proof

variable {c : Instr} {s t u v : State} {k : Kind} {r : RecordCopy} {l : Light} {cls : SupplyClass}

/-! ## LIGHT_SET and LIGHT_CURVE -/

/-- A state whose record has just been accepted. -/
def accepted (k : Kind) (r : RecordCopy) (s : State) : State :=
  { s with
      link := takenLink k r s
      bus := { s.bus with queue := s.bus.queue ++ takenAccesses k r s } }

/-- The row of a kind's record that is answered with its completion, around a change `f` of the state. -/
theorem exec_readyDone {effect : RecordCopy → State → State} (f : State → State) {result : ResultCode} {detail : Word}
    {progress : Nat} (row : exec c s = onRecord k effect s) (h : Ready k r s)
    (done : effect r (accepted k r s) = completeRecord k.lane r.addr result detail progress (f (accepted k r s)))
    (link : (f (accepted k r s)).link = takenLink k r s) (bus : (f (accepted k r s)).bus = (accepted k r s).bus) :
    ∃ t, exec c s = .next t
      ∧ Asks s t (takenAccesses k r s ++ doneAccesses k.lane r.addr result detail progress)
      ∧ t = { f (accepted k r s) with bus := t.bus } := by
  have run : exec c s = commit s (effect r (accepted k r s)) := exec_ready row h
  rw [done, completeRecord_writable (writable_accepted h link), bus] at run
  exact (exec_asks run (by simp only [accepted, List.append_assoc]) rfl).imp fun t ⟨run, eq, asks⟩ => ⟨run, asks, eq⟩

theorem Light.formLevel_off (h : l.mode = .off) : l.formLevel = 0 := by
  simp [Light.formLevel, h]

theorem Light.formLevel_manual (h : l.mode = .manual) : l.formLevel = l.manual := by
  simp [Light.formLevel, h]

theorem Light.formLevel_empty (h : l.mode = .auto) (dark : l.held = none ∨ l.curve = []) : l.formLevel = 0 := by
  rcases dark with dark | dark
  · simp [Light.formLevel, h, dark]
  · cases held : l.held <;> simp [Light.formLevel, h, dark, held]

theorem Light.formLevel_auto {a : Nat} (h : l.mode = .auto) (held : l.held = some a) (curve : l.curve ≠ []) :
    (l.formLevel : Int) = max 0 (min 1000 (curveAt a (l.curve.map fun p => (p.1, (p.2 : Int))) + l.bias)) := by
  simp only [Light.formLevel, h, held, if_neg curve]
  rw [clampInt_eq _ (by decide), Int.min_comm]
  omega

theorem Light.applySet_fields (cls : SupplyClass) (b : List Byte) (m : LightMode) (l : Light) :
    (l.applySet cls b m).mode = m ∧ (l.applySet cls b m).output = l.output ∧ (l.applySet cls b m).fade = l.fade
    ∧ (l.applySet cls b m).curve = l.curve ∧ (l.applySet cls b m).held = l.held
    ∧ (l.applySet cls b m).manual = (if bitAt b 32 1 then min (half b 36) 1000 else l.manual)
    ∧ (l.applySet cls b m).bias = (if bitAt b 32 2 then max (-200) (min 200 (halfSigned b 38)) else l.bias)
    ∧ (l.applySet cls b m).warmth = (if bitAt b 32 3 then min (byteAt b 34) 100 else l.warmth)
    ∧ (l.applySet cls b m).step = (if bitAt b 32 4 then max 1 (min (half b 40) 1000) else l.step) := by
  refine ⟨rfl, rfl, rfl, rfl, rfl, rfl, ?_, rfl, rfl⟩
  rw [← Int.min_comm, ← clampInt_eq _ (by decide)]
  rfl

theorem Light.applySet_level (cls : SupplyClass) (b : List Byte) (m : LightMode) (l : Light) :
    (l.applySet cls b m).level = (l.applySet cls b m).formLevel := rfl

theorem Light.applyCurve_auto (h : l.mode = .auto) (points : List (Nat × Nat)) :
    l.applyCurve cls points = ({ l with curve := points } : Light).relevel cls := if_pos h

theorem Light.applyCurve_other (h : l.mode ≠ .auto) (points : List (Nat × Nat)) :
    l.applyCurve cls points = { l with curve := points } := if_neg h

/-- What LIGHT_SET does with an accepted record. -/
def lightSetEffect (r : RecordCopy) (t : State) : State :=
  match lightSetMode r.bytes t.light with
  | none   => completeRecord .control r.addr .badSetup 0#32 0 t
  | some m =>
    completeRecord .control r.addr .ok (warnIf (lightSetClamped r.bytes) warnClamped) 0
      (t.modLight (Light.applySet t.power.cls r.bytes m))

theorem exec_lightSet (s : State) : exec .lightSet s = onRecord .lightSet lightSetEffect s := rfl

theorem lightSetEffect_some {m : LightMode} (h : lightSetMode r.bytes s.light = some m) : lightSetEffect r s =
    completeRecord .control r.addr .ok (warnIf (lightSetClamped r.bytes) warnClamped) 0
      (s.modLight (Light.applySet s.power.cls r.bytes m)) := by
  simp only [lightSetEffect, h]

theorem lightSetEffect_none (h : lightSetMode r.bytes s.light = none) :
    lightSetEffect r s = completeRecord .control r.addr .badSetup 0#32 0 s := by
  simp only [lightSetEffect, h]

theorem exec_lightCurve (s : State) : exec .lightCurve s = onRecord .lightCurve (fun r t =>
    if lightCurveOk r.bytes then
      completeRecord .control r.addr .ok 0#32 0 (t.modLight (Light.applyCurve t.power.cls (lightPoints r.bytes)))
    else completeRecord .control r.addr .badSetup 0#32 0 t) s := rfl

theorem lightSet_applied {m : LightMode} (h : Ready .lightSet r s) (mode : lightSetMode r.bytes s.light = some m) :
    ∃ t, exec .lightSet s = .next t
      ∧ Asks s t (takenAccesses .lightSet r s ++ doneAccesses .control r.addr .ok
          (warnIf (lightSetClamped r.bytes) warnClamped) 0)
      ∧ t = { s with bus := t.bus, link := takenLink .lightSet r s,
                     light := s.light.applySet s.power.cls r.bytes m } :=
  exec_readyDone (fun v => v.modLight (Light.applySet s.power.cls r.bytes m)) (exec_lightSet s) h
    (lightSetEffect_some mode) rfl rfl

theorem lightSet_refused (h : Ready .lightSet r s) (mode : lightSetMode r.bytes s.light = none) :
    ∃ t, exec .lightSet s = .next t
      ∧ Asks s t (takenAccesses .lightSet r s ++ doneAccesses .control r.addr .badSetup 0#32 0)
      ∧ t = { s with bus := t.bus, link := takenLink .lightSet r s } :=
  exec_readyDone id (exec_lightSet s) h (lightSetEffect_none mode) rfl rfl

theorem lightCurve_applied (h : Ready .lightCurve r s) (ok : lightCurveOk r.bytes = true) :
    ∃ t, exec .lightCurve s = .next t
      ∧ Asks s t (takenAccesses .lightCurve r s ++ doneAccesses .control r.addr .ok 0#32 0)
      ∧ t = { s with bus := t.bus, link := takenLink .lightCurve r s,
                     light := s.light.applyCurve s.power.cls (lightPoints r.bytes) } :=
  exec_readyDone (fun v => v.modLight (Light.applyCurve s.power.cls (lightPoints r.bytes))) (exec_lightCurve s) h
    (if_pos ok) rfl rfl

theorem lightCurve_refused (h : Ready .lightCurve r s) (fails : lightCurveOk r.bytes = false) :
    ∃ t, exec .lightCurve s = .next t
      ∧ Asks s t (takenAccesses .lightCurve r s ++ doneAccesses .control r.addr .badSetup 0#32 0)
      ∧ t = { s with bus := t.bus, link := takenLink .lightCurve r s } :=
  exec_readyDone id (exec_lightCurve s) h (if_neg (by simp [fails])) rfl rfl

/-- Settles O21. -/
theorem lightRecordsApply : Obligations.LightRecordsApply := by
  refine ⟨fun s r ready => ⟨fun m mode => ?_, fun mode => lightSet_refused ready mode⟩,
    fun s r ready => ⟨fun ok => ?_, fun fails => lightCurve_refused ready fails⟩⟩
  · obtain ⟨t, run, asks, eq⟩ := lightSet_applied ready mode
    have light : t.light = s.light.applySet s.power.cls r.bytes m := congrArg State.light eq
    obtain ⟨hMode, hOutput, hFade, hCurve, hHeld, hManual, hBias, hWarmth, hStep⟩ :=
      s.light.applySet_fields s.power.cls r.bytes m
    refine ⟨t, run, asks, eq.trans (by rw [light]), ?_⟩
    rw [light, Light.applySet_level]
    refine ⟨hMode, hOutput, hFade, hCurve, hHeld, hManual, hBias, hWarmth, hStep,
      fun off => Light.formLevel_off (hMode.trans off), fun manual => Light.formLevel_manual (hMode.trans manual),
      fun auto => ⟨fun dark => Light.formLevel_empty (hMode.trans auto) (by rwa [hHeld, hCurve]),
        fun a held curve => ?_⟩, rfl, rfl, rfl, rfl, rfl⟩
    have level := Light.formLevel_auto (hMode.trans auto) (hHeld.trans held) (by rwa [hCurve])
    rwa [hCurve] at level
  · obtain ⟨t, run, asks, eq⟩ := lightCurve_applied ready ok
    have light : t.light = s.light.applyCurve s.power.cls (lightPoints r.bytes) := congrArg State.light eq
    refine ⟨t, run, asks, eq.trans ?_, fun other => ?_, fun auto => ?_⟩
    · rw [light]
      by_cases auto : s.light.mode = .auto
      · rw [Light.applyCurve_auto auto]
        rfl
      · rw [Light.applyCurve_other auto]
    · rw [light, Light.applyCurve_other other]
      exact ⟨rfl, rfl⟩
    · rw [light, Light.applyCurve_auto auto]
      exact ⟨rfl, fun dark => Light.formLevel_empty auto dark, fun a held points =>
        Light.formLevel_auto (l := { s.light with curve := lightPoints r.bytes }) auto held points⟩

/-! ## The ramp, the latch and the strings -/

theorem stepToward_up {goal step o : Nat} (h : o ≤ goal) : stepToward goal step o = min goal (o + step) := by
  unfold stepToward
  split <;> split <;> omega

theorem stepToward_down {goal step o : Nat} (h : goal ≤ o) : stepToward goal step o = max goal (o - step) := by
  unfold stepToward
  split <;> split <;> omega

/-- Settles O22. -/
theorem rampAndLatch : Obligations.RampAndLatch := by
  refine fun s => ⟨?_, ?_⟩
  · have run : exec .rampTick s = commit s (s.modLight Light.tick) := rfl
    obtain ⟨t, run, eq, -⟩ := exec_asksNothing run rfl
    have light : t.light = s.light.tick := congrArg State.light eq
    have output : t.light.output = stepToward s.light.goal s.light.step s.light.output := congrArg Light.output light
    refine ⟨t, run, eq.trans (by rw [light]; rfl), ?_, by rw [light]; rfl, by rw [light]; rfl⟩
    rintro g rfl
    exact ⟨fun up => output.trans (stepToward_up up), fun down => output.trans (stepToward_down down)⟩
  · have run : exec .pwmPeriodStart s = commit s ((s.modLight Light.latch).modSense fun n => { n with
        sweep := n.sweep.map fun w => if w.stage = .awaitDark then { w with stage := .signal } else w }) := rfl
    obtain ⟨t, run, eq, -⟩ := exec_asksNothing run rfl
    have sweep := congrArg (·.sense.sweep) eq
    refine ⟨t, run, eq.trans (by rw [sweep]; rfl), sweep.trans (congrArg (Option.map · _) (funext fun w => ?_))⟩
    split <;> rfl

theorem warmLit_iff {n : Nat} : l.warmLit n = true ↔ 128 ≤ n ∧ n < 128 + l.latchedWarm := by
  simp [Light.warmLit]

theorem coolLit_apart {n : Nat} (fits : l.latchedWarm + l.latchedCool ≤ 3968) :
    l.coolLit n = true ↔ 128 + l.latchedWarm ≤ n ∧ n < 128 + l.latchedWarm + l.latchedCool := by
  simp [Light.coolLit, show 128 + l.latchedWarm + l.latchedCool ≤ 4096 by omega]

theorem coolLit_shared {n : Nat} (h : n < 4096) (beyond : 3968 < l.latchedWarm + l.latchedCool) :
    l.coolLit n = true ↔ 4096 - l.latchedCool ≤ n := by
  simp [Light.coolLit, show ¬ 128 + l.latchedWarm + l.latchedCool ≤ 4096 by omega]
  omega

theorem litOff {n : Nat} (cool : l.latchedCool ≤ 3968) (dark : n < 128) :
    l.warmLit n = false ∧ l.coolLit n = false := by
  refine ⟨Bool.eq_false_iff.mpr fun lit => ?_, Bool.eq_false_iff.mpr fun lit => ?_⟩
  · have := warmLit_iff.mp lit
    omega
  · by_cases fits : l.latchedWarm + l.latchedCool ≤ 3968
    · have := (coolLit_apart fits).mp lit
      omega
    · have := (coolLit_shared (by omega) (by omega)).mp lit
      omega

theorem dutyOf_add_full {a b : Nat} (h : a + b = 1000) : dutyOf a + dutyOf b = 3968 := by
  unfold dutyOf
  omega

/-- Settles O23. -/
theorem stringsAndDuties : Obligations.StringsAndDuties := by
  refine ⟨fun l n inPeriod warm cool => ⟨litOff cool, warmLit_iff, fun fits => ?_, fun full lit => ?_, fun beyond => ?_⟩,
    fun l output warmth => ?_⟩
  · refine ⟨coolLit_apart fits, ?_⟩
    rw [warmLit_iff, coolLit_apart fits]
    omega
  · rw [warmLit_iff, coolLit_apart (Nat.le_of_eq full)]
    omega
  · refine ⟨coolLit_shared inPeriod beyond, ?_⟩
    rw [warmLit_iff, coolLit_shared inPeriod beyond]
    omega
  · have share := warmShare_le (o := l.output) warmth
    refine ⟨share, dutyOf_add_le (by omega), fun off => ?_, fun full => ?_, fun cold => ?_, fun warm => ?_, by decide⟩
    · have warm : warmShare 0 l.warmth = 0 := by simp [warmShare]
      simp [Light.mix, warm, off, dutyOf]
    · exact dutyOf_add_full (by omega)
    · simp [Light.mix, warmShare, cold, dutyOf]
    · have all : warmShare l.output l.warmth = l.output := by rw [warm, warmShare]; omega
      simp [Light.mix, all, dutyOf]

/-! ## POWER_SETUP -/

theorem Power.applySetup_eq (b : List Byte) (p : Power) : p.applySetup b =
    { p with
        eReduced := if bitAt b 32 0 then half b 34 else p.eReduced
        xReduced := if bitAt b 32 0 then half b 36 else p.xReduced
        eCritical := if bitAt b 32 0 then half b 38 else p.eCritical
        xCritical := if bitAt b 32 0 then half b 40 else p.xCritical
        eExhausted := if bitAt b 32 0 then half b 42 else p.eExhausted
        xExhausted := if bitAt b 32 0 then half b 44 else p.xExhausted
        graceTime := if bitAt b 32 1 then half b 46 else p.graceTime
        dozeTimeout := if bitAt b 32 1 then half b 48 else p.dozeTimeout
        storeIdle := if bitAt b 32 1 then half b 50 else p.storeIdle
        coverAction := if bitAt b 32 2 then (if byteAt b 33 = 0 then .deepOnClose else .none) else p.coverAction } := by
  unfold Power.applySetup
  cases bitAt b 32 0 <;> cases bitAt b 32 1 <;> cases bitAt b 32 2 <;> rfl

theorem exec_powerSetup (s : State) : exec .powerSetup s = onRecord .powerSetup (fun r t =>
    if powerSetupOk r.bytes then
      completeRecord .control r.addr .ok 0#32 0 ((t.modPower (Power.applySetup r.bytes)).modStore fun st =>
        { st with idleTime := (t.power.applySetup r.bytes).storeIdle })
    else completeRecord .control r.addr .badSetup 0#32 0 t) s := rfl

/-- Settles O24. -/
theorem powerSetupApplies : Obligations.PowerSetupApplies := by
  refine fun s r ready => ⟨fun ok => ?_, fun fails => ?_⟩
  · obtain ⟨t, run, asks, eq⟩ := exec_readyDone (fun v => (v.modPower (Power.applySetup r.bytes)).modStore fun st =>
      { st with idleTime := (s.power.applySetup r.bytes).storeIdle }) (exec_powerSetup s) ready (if_pos ok) rfl rfl
    have power : t.power = s.power.applySetup r.bytes := congrArg State.power eq
    exact ⟨t, run, asks, eq.trans (by rw [power]; rfl), power.trans (Power.applySetup_eq _ _)⟩
  · exact exec_readyDone id (exec_powerSetup s) ready (if_neg (by simp [fails])) rfl rfl

end Sys2Proof.Machine
end

section
/-!
PROOFS. The arbiter of the working memory and its becoming ACTIVE (04 R67, R68, R70, R73 to R75); frames (06 R105,
R106); PANEL_RESUME, PANEL_SETUP (06 R112, R115) and TURN_ARM (07 R133).
-/

namespace Sys2Proof.Machine

open Sys2Proof

variable {c : Instr} {s t u v : State} {k : Kind} {r : RecordCopy} {w : WorkMem}

/-! ## The arbiter -/

/-- In a list sorted by `f`, the first element that passes is the least one that does. -/
theorem find_least {α : Type} {f : α → Nat} {p : α → Bool} {d : α} : ∀ {l : List α},
    l.Pairwise (fun x y => f x < f y) → d ∈ l → p d = true → (∀ x ∈ l, p x = true → f d ≤ f x) → l.find? p = some d
  | [], _, mem, _, _ => nomatch mem
  | a :: l, sorted, mem, pass, least => by
    obtain ⟨ahead, sorted⟩ := List.pairwise_cons.mp sorted
    rcases List.mem_cons.mp mem with rfl | later
    · exact List.find?_cons_of_pos pass
    · have skip : ¬ p a = true := fun ha => absurd (least a List.mem_cons_self ha) (by have := ahead d later; omega)
      rw [List.find?_cons_of_neg skip]
      exact find_least sorted later pass fun x hx => least x (List.mem_cons_of_mem a hx)

theorem WorkMem.decide_refresh (serves : w.serves = true) (free : w.running = none) (debt : 8 ≤ w.debt) :
    w.decide = w.refresh := by
  simp [WorkMem.decide, serves, free, Config.forcedDebt, debt]

theorem WorkMem.decide_scan (serves : w.serves = true) (free : w.running = none) (debt : w.debt < 8)
    (scan : .frameScan ∈ w.waiting) : w.decide = w.grant .frameScan := by
  simp [WorkMem.decide, serves, free, Config.forcedDebt, show ¬ 8 ≤ w.debt by omega, scan]

theorem WorkMem.decide_client {d : WmClient} (serves : w.serves = true) (free : w.running = none) (debt : w.debt < 8)
    (scan : .frameScan ∉ w.waiting) (next : w.nextClient = some d) : w.decide = w.grant d := by
  simp [WorkMem.decide, serves, free, Config.forcedDebt, show ¬ 8 ≤ w.debt by omega, scan, next]

theorem WorkMem.decide_idle (serves : w.serves = true) (free : w.running = none) (waiting : w.waiting = []) :
    w.decide = if 0 < w.debt then w.refresh else w := by
  have next : w.nextClient = none := by simp [WorkMem.nextClient, waiting]
  by_cases debt : 8 ≤ w.debt
  · rw [WorkMem.decide_refresh serves free debt, if_pos (by omega)]
  · simp [WorkMem.decide, serves, free, Config.forcedDebt, debt, waiting, next]

/-- With nothing waiting the arbiter refreshes where a refresh is owed (R68, R70). -/
theorem WorkMem.decide_unasked (serves : w.serves = true) (waiting : w.waiting = []) :
    ({ w with running := none } : WorkMem).decide =
      { w with
          debt := w.debt - 1
          running := if 0 < w.debt then some .refresh else none } := by
  have idle := WorkMem.decide_idle (w := { w with running := none }) serves rfl waiting
  by_cases owed : 0 < w.debt
  · rw [idle, if_pos owed, if_pos owed]
    rfl
  · rw [idle, if_neg owed, if_neg owed, show w.debt - 1 = w.debt by omega]

theorem WorkMem.decide_busy (busy : w.running ≠ none) : w.decide = w :=
  if_pos (by simp [Option.isSome_iff_ne_none, busy])

theorem WorkMem.serves_iff : w.serves = true ↔ w.state = .active ∨ w.state = .entering := by
  simp [WorkMem.serves]

/-- The round-robin client is the waiting one that comes first behind the one served last (R68). -/
theorem WorkMem.nextClient_first {place : WmClient → Nat} {d : WmClient} (h0 : place .imageCopier = 0)
    (h1 : place .retirePass = 1) (h2 : place .decoder = 2) (h3 : place .waveformLoader = 3)
    (h4 : place .storeReader = 4) (last : w.rr ≠ .frameScan) (scan : .frameScan ∉ w.waiting) (waits : d ∈ w.waiting)
    (first : ∀ x, x ∈ w.waiting → (place d + 4 - place w.rr) % 5 ≤ (place x + 4 - place w.rr) % 5) :
    w.nextClient = some d := by
  have sorted : (roundRobinAfter w.rr).Pairwise
      fun x y => (place x + 4 - place w.rr) % 5 < (place y + 4 - place w.rr) % 5 := by
    cases rr : w.rr with
    | frameScan => exact absurd rr last
    | _ => simp [roundRobinAfter, h0, h1, h2, h3, h4]
  have mem : d ∈ roundRobinAfter w.rr := by
    have other : d ≠ .frameScan := fun h => scan (h ▸ waits)
    cases rr : w.rr <;> cases d <;> simp_all [roundRobinAfter]
  exact find_least sorted mem (by simpa using waits) fun x _ hx => first x (by simpa using hx)

theorem wmGoOn_nil (s : State) : wmGoOn [] s = s.modWm fun w => ({ w with running := none } : WorkMem).decide := rfl

/-- Settles O29. -/
theorem arbiterDecides : Obligations.ArbiterDecides := by
  intro s active debt
  have serves : s.wm.serves = true := WorkMem.serves_iff.mpr active
  have freed : ({ s.wm with running := none } : WorkMem).serves = true := WorkMem.serves_iff.mpr active
  refine ⟨?_, fun refreshes waiting => ?_, fun c bursts => ?_⟩
  · have run : exec .refreshDue s = commit s (s.modWm WorkMem.refreshDue) := if_pos serves
    obtain ⟨t, run, eq, -⟩ := exec_asksNothing run rfl
    have wm : t.wm = s.wm.refreshDue := congrArg State.wm eq
    refine ⟨t, run, eq.trans (by rw [wm]; rfl), fun busy => ?_, fun free waiting => ?_⟩
    · exact wm.trans (WorkMem.decide_busy (by exact busy))
    · have owed : 0 < min 8 (s.wm.debt + 1) := Nat.lt_min.mpr ⟨by decide, Nat.succ_pos _⟩
      have idle := WorkMem.decide_idle (w := { s.wm with debt := min 8 (s.wm.debt + 1) })
        (WorkMem.serves_iff.mpr active) free waiting
      exact wm.trans (idle.trans (if_pos owed))
  · have run : exec (.refreshEnd []) s = commit s (wmGoOn [] s) := if_pos refreshes
    obtain ⟨t, run, eq, -⟩ := exec_asksNothing run rfl
    refine ⟨t, run, eq.trans ?_⟩
    rw [wmGoOn_nil, State.modWm, WorkMem.decide_unasked serves waiting]
  · have run : exec (.burstEnd []) s = commit s (wmGoOn [] s) := if_pos (by simp [WorkMem.bursting, bursts])
    obtain ⟨t, run, eq, -⟩ := exec_asksNothing run rfl
    have wm : t.wm = ({ s.wm with running := none } : WorkMem).decide := congrArg State.wm eq
    refine ⟨t, run, eq.trans (by rw [wm]; rfl), fun full => ?_, fun below scan => ?_, ?_, fun waiting _ => ?_⟩
    · rw [wm, WorkMem.decide_refresh freed rfl (Nat.le_of_eq full.symm), WorkMem.refresh]
      simp only [full]
    · exact wm.trans (WorkMem.decide_scan freed rfl below scan)
    · intro place d below scan h0 h1 h2 h3 h4 last waits first
      have other : d ≠ .frameScan := fun h => scan (h ▸ waits)
      rw [wm, WorkMem.decide_client freed rfl below scan
        (WorkMem.nextClient_first h0 h1 h2 h3 h4 last scan waits first), WorkMem.grant, if_neg other]
    · rw [wm, WorkMem.decide_unasked serves waiting]

/-! ## ACTIVE is entered -/

theorem WorkMem.activate_state (held : w.srHeld = false) : w.activate.state = .active := by
  simp [WorkMem.activate, held]

theorem engineReset_fields (s : State) :
    (engineReset s).power.resetPending = false ∧ (engineReset s).wm = WorkMem.initialising (s.wm.epoch + 1)
      ∧ (engineReset s).bus = .reset ∧ (engineReset s).link.state = .detached ∧ (engineReset s).wave = .reset
      ∧ (engineReset s).panel = .resetFrom s.panel.nextId ∧ (engineReset s).turn = .reset
      ∧ (engineReset s).store.power = .off ∧ (engineReset s).executor = .reset :=
  ⟨rfl, rfl, rfl, rfl, rfl, rfl, rfl, rfl, rfl⟩

/-- Settles O30. -/
theorem memoryBecomesActive : Obligations.MemoryBecomesActive := by
  refine fun s => ⟨fun leaving resets => ?_, fun leaving held resets => ?_, fun initialising held => ?_⟩
  · have run : exec .memoryLeaveEnd s = commit s (engineReset (s.modWm WorkMem.activate)) :=
      (if_pos leaving).trans (congrArg (commit s) (if_pos resets))
    obtain ⟨pending, wm, bus, link, wave, panel, turn, store, executor⟩ := engineReset_fields (s.modWm WorkMem.activate)
    have kept := engineReset_keeps (s.modWm WorkMem.activate)
    obtain ⟨regs, -, state, -, -, keys, light, shared, -⟩ := kept
    have epoch : (s.modWm WorkMem.activate).wm.epoch = s.wm.epoch := by simp
    refine ⟨_, exec_reset run bus link, pending, state, by rw [wm, epoch], link, by rw [bus]; rfl, ?_⟩
    rw [wave, panel, turn, executor]
    exact ⟨rfl, rfl, rfl, rfl, rfl, rfl, rfl, rfl, store, rfl, regs, light, keys, shared⟩
  · have run : exec .memoryLeaveEnd s = commit s (s.modWm WorkMem.activate) :=
      (if_pos leaving).trans (congrArg (commit s) (if_neg (by simp [resets])))
    obtain ⟨t, run, eq, -⟩ := exec_asksNothing run rfl
    have wm : t.wm = s.wm.activate := congrArg State.wm eq
    refine ⟨t, run, eq.trans (by rw [wm]; rfl), ?_⟩
    rw [wm]
    simp [WorkMem.activate_state held]
  · have run : exec .initialisingEnd s = commit s ((turnLost (waveLost (panelLost s))).modWm WorkMem.activate) :=
      if_pos initialising
    obtain ⟨t, run, eq, -⟩ := exec_asksNothing run rfl
    have wm : t.wm = s.wm.activate := congrArg State.wm eq
    have wave : t.wave = .reset := congrArg State.wave eq
    refine ⟨t, run, by rw [wm]; exact WorkMem.activate_state held, by rw [wm]; simp,
      eq.trans (by rw [wm, wave]; rfl), ?_⟩
    rw [wave]
    exact ⟨rfl, rfl, rfl⟩

/-! ## Frames -/

theorem wmRequest_eq (x : WmClient) (s : State) : wmRequest x s = { s with wm := (wmRequest x s).wm } := rfl

theorem tickStops_none (h : ∀ st, st ∈ s.panel.stops → st.effect = true) : tickStops s = s :=
  if_neg (by simpa using h)

theorem Slot.run_running {sl : Slot} (h : sl.state = .ready ∨ sl.state = .running) : sl.run.state = .running := by
  rcases h with h | h <;> simp [Slot.run, h]

theorem sparseMap_mem {β : Type} {f : Nat → β → β} {e : Nat × β} : ∀ {m : List (Nat × β)}, e ∈ m →
    (e.1, f e.1 e.2) ∈ sparseMap f m
  | _ :: _, mem => (List.mem_cons.mp mem).elim (fun eq => eq ▸ List.mem_cons_self)
      fun later => List.mem_cons_of_mem _ (sparseMap_mem later)

/-- The slots once a frame has started: the READY ones are RUNNING (R105). -/
def framed (s : State) : State :=
  s.modPanel fun p => { p with scan := true, slots := sparseMap (fun _ sl => sl.run) p.slots }

theorem startFrame_scans (h : ∃ e, e ∈ s.panel.slots ∧ (e.2.state = .ready ∨ e.2.state = .running)) :
    startFrame s = wmRequest .frameScan (framed s) := by
  obtain ⟨e, mem, state⟩ := h
  exact if_pos (List.any_eq_true.mpr ⟨_, sparseMap_mem mem, by simp [Slot.run_running state]⟩)

theorem scanEnded_eq (s : State) : scanEnded s =
    { s with
        wm := (scanEnded s).wm
        panel := { s.panel with
          scan := false
          slots := sparseMap (fun _ sl => sl.advance) s.panel.slots
          passQueue := s.panel.passQueue
            ++ s.panel.slotsWhere fun sl => sl.state == .running && sl.frames ≤ sl.frame + 1 } } := by
  unfold scanEnded
  dsimp only
  split <;> rfl

theorem Slot.advance_eq (sl : Slot) : sl.advance =
    if sl.state ≠ .running then sl
    else if sl.frame + 1 < sl.frames then { sl with frame := sl.frame + 1, driven := sl.driven + 1 }
    else { sl with frame := sl.frame + 1, driven := sl.driven + 1, state := .retiring } := by
  unfold Slot.advance
  by_cases running : sl.state = .running
  · by_cases more : sl.frame + 1 < sl.frames
    · simp [running, more, show ¬ sl.frames ≤ sl.frame + 1 by omega]
    · simp [running, more, show sl.frames ≤ sl.frame + 1 by omega]
  · simp [running]

/-- Settles O36. -/
theorem framesAdvance : Obligations.FramesAdvance := by
  refine fun s => ⟨fun driving idle stops some => ?_, fun scans => ?_⟩
  · have run : exec .frameTick s = commit s (wmRequest .frameScan (framed s)) :=
      (if_pos ⟨driving, idle⟩).trans (congrArg (commit s) (by rw [tickStops_none stops, startFrame_scans some]))
    obtain ⟨t, run, eq, -⟩ := exec_asksNothing run rfl
    have slots : t.panel.slots = sparseMap (fun _ sl => sl.run) s.panel.slots := congrArg (·.panel.slots) eq
    have wm := congrArg State.wm eq
    refine ⟨t, run, eq.trans (by rw [slots, wm]; rfl), fun n => ?_⟩
    rw [slots, sparseGet_map]
    rfl
  · have run : exec .frameScanEnd s = commit s (scanEnded s) := if_pos scans
    rw [scanEnded_eq] at run
    obtain ⟨t, run, eq, -⟩ := exec_asksNothing run rfl
    have panel := congrArg State.panel eq
    have wm := congrArg State.wm eq
    refine ⟨t, run, eq.trans (by rw [panel, wm]), by rw [panel], by rw [panel], by rw [panel], fun n => ?_⟩
    rw [panel, sparseGet_map]
    exact congrArg (Option.map · _) (funext Slot.advance_eq)

end Sys2Proof.Machine
end

section
/-!
PROOFS. PANEL_RESUME and PANEL_SETUP (06 R112, R115), TURN_ARM (07 R133), and protection (09 R173, R174; 10 R198).
-/

namespace Sys2Proof.Machine

open Sys2Proof

variable {c : Instr} {s t u v : State} {k : Kind} {r : RecordCopy} {st : Store}

/-- The row of a kind's record that waits, around a change `f` of the state. -/
theorem exec_readyWaits {effect : RecordCopy → State → State} (f : State → State)
    (row : exec c s = onRecord k effect s) (h : Ready k r s)
    (kept : effect r (accepted k r s) = f (accepted k r s)) (bus : (f (accepted k r s)).bus = (accepted k r s).bus) :
    ∃ t, exec c s = .next t ∧ Asks s t (takenAccesses k r s) ∧ t = { f (accepted k r s) with bus := t.bus } := by
  have run : exec c s = commit s (effect r (accepted k r s)) := exec_ready row h
  rw [kept] at run
  exact (exec_asks run (congrArg Bus.queue bus) (by rw [bus]; rfl)).imp
    fun t ⟨run, eq, asks⟩ => ⟨run, asks, eq⟩

/-! ## PANEL_RESUME and PANEL_SETUP -/

theorem exec_panelResume (s : State) : exec .panelResume s = onRecord .panelResume (fun r t =>
    if t.panel.engine = .halted then t.modPanel fun p => { p with resumes := p.resumes ++ [r.addr] }
    else completeRecord .display r.addr .ok 0#32 0 t) s := rfl

theorem exec_panelSetup (s : State) : exec .panelSetup s = onRecord .panelSetup (fun r t =>
    completeRecord .display r.addr .ok (warnIf (5000 < half r.bytes 32) warnClamped) 0
      (t.modPanel fun p => { p with holdTime := min (half r.bytes 32) 5000 })) s := rfl

/-- Settles O40. -/
theorem resumeAndSetup : Obligations.ResumeAndSetup := by
  refine fun s r => ⟨fun ready runs => ?_, fun ready halted => ?_, fun a resumes halted slots quiet writable => ?_,
    fun ready => ?_⟩
  · exact (exec_readyDone id (exec_panelResume s) ready (if_neg runs) rfl rfl).imp
      fun t ⟨run, asks, eq⟩ => ⟨run, eq, asks⟩
  · exact (exec_readyWaits (fun v => v.modPanel fun p => { p with resumes := p.resumes ++ [r.addr] })
      (exec_panelResume s) ready (if_pos halted) rfl).imp fun t ⟨run, asks, eq⟩ => ⟨run, eq, asks⟩
  · have resumed : [a].foldl (fun u a => completeRecord .display a .ok 0#32 0 u)
        (s.modPanel fun p => { p with engine := .off, resumes := [], flushed := false }) =
        { s with bus := { s.bus with queue := s.bus.queue ++ doneAccesses .display a .ok 0#32 0 },
                 panel := { s.panel with engine := .off, resumes := [], flushed := false } } :=
      completeRecord_writable (writable.congr (by rfl)) _ _ _
    have run : exec .panelResumeComplete s = commit s (resumeEngine s) :=
      if_pos ⟨halted, by simp [resumes], slots⟩
    rw [resumeEngine, resumes, resumed] at run
    exact (exec_asks (exec_settled run quiet) rfl rfl).imp fun t ⟨run, eq, asks⟩ => ⟨run, eq, asks⟩
  · have detail : warnIf (decide (5000 < half r.bytes 32)) warnClamped =
        if 5000 < half r.bytes 32 then 32#32 else 0#32 := by
      simp [warnIf, warnClamped]
    rw [← detail]
    exact (exec_readyDone (fun v => v.modPanel fun p => { p with holdTime := min (half r.bytes 32) 5000 })
      (exec_panelSetup s) ready rfl rfl rfl).imp fun t ⟨run, asks, eq⟩ => ⟨run, eq, asks⟩

/-! ## TURN_ARM -/

theorem exec_turnArm (s : State) : exec .turnArm s = onRecord .turnArm takeArm s := rfl

theorem takeArm_arms (h : byteAt r.bytes 32 = 1) :
    takeArm r s = completeRecord .control r.addr .ok 0#32 0 (s.modTurn fun t => { t with armed := true }) := if_pos h

theorem takeArm_disarms (h : byteAt r.bytes 32 = 0) :
    takeArm r s = s.modTurn fun t => { t with armed := false, queue := [], arm := some r.addr } :=
  (if_neg (by omega)).trans (if_pos h)

theorem takeArm_refused (h : 1 < byteAt r.bytes 32) : takeArm r s = completeRecord .control r.addr .range 0#32 0 s :=
  (if_neg (by omega)).trans (if_neg (by omega))

/-- Settles O43. -/
theorem turnArmActs : Obligations.TurnArmActs := by
  refine fun s r => ⟨fun ready arms => ?_, fun ready disarms => ?_, fun ready other => ?_,
    fun a arm idle presses writable => ?_⟩
  · exact (exec_readyDone (fun v => v.modTurn fun t => { t with armed := true }) (exec_turnArm s) ready
      (takeArm_arms arms) rfl rfl).imp fun t ⟨run, asks, eq⟩ => ⟨run, eq, asks⟩
  · exact (exec_readyWaits (fun v => v.modTurn fun t => { t with armed := false, queue := [], arm := some r.addr })
      (exec_turnArm s) ready (takeArm_disarms disarms) rfl).imp fun t ⟨run, asks, eq⟩ => ⟨run, eq, asks⟩
  · exact (exec_readyDone id (exec_turnArm s) ready (takeArm_refused other) rfl rfl).imp
      fun t ⟨run, asks, eq⟩ => ⟨run, eq, asks⟩
  · have completed := completeRecord_writable (i := .control) (a := a)
      (s := s.modTurn fun t => { t with arm := none }) (writable.congr (by rfl)) .ok 0#32 0
    have run : exec .turnArmComplete s = commit s (considerHead
        (completeRecord .control a .ok 0#32 0 (s.modTurn fun t => { t with arm := none }))) := by
      simp only [exec, execTurnArmComplete, arm, idle, if_true]
    rw [completed, considerHead_noPress (by exact presses)] at run
    exact (exec_asks run rfl rfl).imp fun t ⟨run, eq, asks⟩ => ⟨run, eq, asks⟩

/-! ## Protection -/

/-- A block's protection after a protection command (09 R173). -/
def protectedAs (guard : Bool) (c : ProtectCommand) (p : Protection) : Protection :=
  match protect guard c p with
  | .changed q => q
  | .unchanged => p
  | .refused   => p

theorem isChanged_iff (g : Bool) (c : ProtectCommand) (p : Protection) :
    (protect g c p).isChanged = true ↔ protectedAs g c p ≠ p := by
  cases g <;> cases c <;> cases p <;> decide

theorem protect_refused_iff (g : Bool) (c : ProtectCommand) (p : Protection) :
    protect g c p = .refused ↔ c = .unlock ∧ p = .pinned := by
  cases g <;> cases c <;> cases p <;> decide

theorem protectBlock_rest (g : Bool) (c : ProtectCommand) (b : Nat) (st : Store) :
    protectBlock g c b st = { st with blocks := (protectBlock g c b st).blocks } := by
  unfold protectBlock
  split <;> rfl

theorem protectRange_rest (g : Bool) (c : ProtectCommand) (first : Nat) : ∀ (n : Nat) (st : Store),
    protectRange g c first n st = { st with blocks := (protectRange g c first n st).blocks }
  | 0, _ => rfl
  | n + 1, st => by
    rw [protectRange, protectBlock_rest, protectRange_rest g c first n st]

theorem Store.block_protectBlock (wf : sparseWf st.blocks = true) (g : Bool) (c : ProtectCommand) (m b : Nat) :
    (protectBlock g c m st).block b =
      if b = m then { st.block b with prot := protectedAs g c (st.block b).prot } else st.block b := by
  by_cases same : b = m
  · subst same
    rw [if_pos rfl]
    unfold protectBlock protectedAs
    cases protect g c (st.block b).prot with
    | changed q => exact Store.block_putBlock_same wf _ _
    | unchanged => rfl
    | refused => rfl
  · rw [if_neg same]
    unfold protectBlock
    cases protect g c (st.block m).prot with
    | changed q => exact Store.block_putBlock_other st same _
    | unchanged => rfl
    | refused => rfl

theorem Store.block_protectRange (wf : sparseWf st.blocks = true) (g : Bool) (c : ProtectCommand) (first b : Nat) :
    ∀ n, (protectRange g c first n st).block b =
      if first ≤ b ∧ b < first + n then { st.block b with prot := protectedAs g c (st.block b).prot } else st.block b
  | 0 => (if_neg (by omega)).symm
  | n + 1 => by
    have wf' := (Store.block_protectRange_fill wf g c first n b).2
    rw [protectRange, Store.block_protectBlock wf', Store.block_protectRange wf g c first b n]
    by_cases last : b = first + n
    · rw [if_pos last, if_neg (by omega), if_pos (by omega)]
    · rw [if_neg last]
      by_cases before : first ≤ b ∧ b < first + n
      · rw [if_pos before, if_pos (by omega)]
      · rw [if_neg before, if_neg (by omega)]

theorem finishExecutor_writable (h : Writable .store s.executor.record.addr s) (result : ResultCode) (detail : Word)
    (progress : Nat) : finishExecutor result detail progress s =
      { s with
          bus := { s.bus with
            queue := s.bus.queue ++ doneAccesses .store s.executor.record.addr result detail progress }
          executor := { Executor.reset with block := s.executor.block, progress := progress } } := by
  rw [finishExecutor, completeRecord_writable h]
  rfl

/-- The executor once it has accepted a STORE_PROTECT (10 R184, R201). -/
def protecting (r : RecordCopy) : Executor :=
  { Executor.reset with phase := .checking, kind := some .storeProtect, record := r, block := half r.bytes 34 }

/-- What STORE_PROTECT does with an accepted record. -/
def protectEffect (r : RecordCopy) (t : State) : State := protectChecks (t.modExecutor fun _ => protecting r)

theorem exec_storeProtect_row (s : State) : exec .storeProtect s = onRecord .storeProtect protectEffect s := rfl

theorem exec_storeProtect (h : Ready .storeProtect r s) : exec .storeProtect s =
    commit s (protectChecks ((accepted .storeProtect r s).modExecutor fun _ => protecting r)) :=
  exec_ready (effect := protectEffect) (exec_storeProtect_row s) h

theorem protectOfCode_some {n : Nat} : n ≤ 2 → ∃ c, protectOfCode n = some c ∧ (c = .unlock ↔ n = 1)
    ∧ ∀ (g : Bool) (p : Protection), protectedAs g c p = match n, p with
        | 0, .unlocked => .locked | 0, .pinnedOpen => .pinnedShut
        | 1, .locked => .unlocked | 1, .pinnedShut => .pinnedOpen
        | 2, .unlocked | 2, .locked => if g then .pinned else .pinnedShut
        | 2, .pinnedOpen => .pinnedShut
        | _, p => p := by
  intro h
  obtain rfl | rfl | rfl : n = 0 ∨ n = 1 ∨ n = 2 := by omega
  · exact ⟨.lock, rfl, by decide, fun g p => by cases g <;> cases p <;> rfl⟩
  · exact ⟨.unlock, rfl, by decide, fun g p => by cases g <;> cases p <;> rfl⟩
  · exact ⟨.pin, rfl, by decide, fun g p => by cases g <;> cases p <;> rfl⟩

theorem protectChecks_acts {cmd : ProtectCommand} (named : protectOfCode (byteAt s.executor.record.bytes 32) = some cmd)
    (range : rangeOk (half s.executor.record.bytes 34) (half s.executor.record.bytes 36) = true)
    (supplied : startRefused .storeProtect s = false) : protectChecks s =
      finishExecutor
        (if countOutcomes (· == .refused) s.pins.guard cmd (half s.executor.record.bytes 34)
          (half s.executor.record.bytes 36) s.store = 0 then .ok else .protectedBlock) 0#32
        (countOutcomes ProtectOutcome.isChanged s.pins.guard cmd (half s.executor.record.bytes 34)
          (half s.executor.record.bytes 36) s.store)
        (s.modStore (protectRange s.pins.guard cmd (half s.executor.record.bytes 34)
          (half s.executor.record.bytes 36))) := by
  unfold protectChecks
  simp only [named, range, supplied, Bool.not_true, Bool.false_eq_true, if_false]

theorem countOutcomes_zero {p : ProtectOutcome → Bool} {g : Bool} {c : ProtectCommand} {first count : Nat} :
    countOutcomes p g c first count st = 0 ↔ ∀ i, i < count → p (protect g c (st.block (first + i)).prot) = false := by
  simp [countOutcomes, List.length_eq_zero_iff, List.filter_eq_nil_iff]

theorem rangeOk_iff {first count : Nat} : rangeOk first count = true ↔
    first ≤ 4095 ∧ 1 ≤ count ∧ count ≤ 4096 ∧ first + count ≤ 4096 := by
  simp [rangeOk, and_assoc]

theorem startRefused_protect_iff : startRefused .storeProtect s = true ↔
    s.power.forced = true ∨ s.power.cls = .exhausted := by
  simp [startRefused]

/-- A STORE_PROTECT that passes its checks changes the blocks of its range and counts them. -/
theorem storeProtect_acts {cmd : ProtectCommand} (ready : Ready .storeProtect r s)
    (named : protectOfCode (byteAt r.bytes 32) = some cmd) (range : rangeOk (half r.bytes 34) (half r.bytes 36) = true)
    (supplied : startRefused .storeProtect s = false) : ∃ t, exec .storeProtect s = .next t
      ∧ t = { s with
          bus := t.bus
          link := takenLink .storeProtect r s
          executor := t.executor
          store := protectRange s.pins.guard cmd (half r.bytes 34) (half r.bytes 36) s.store }
      ∧ t.executor.phase = .idle
      ∧ Asks s t (takenAccesses .storeProtect r s ++ doneAccesses .store r.addr
          (if countOutcomes (· == .refused) s.pins.guard cmd (half r.bytes 34) (half r.bytes 36) s.store = 0 then .ok
            else .protectedBlock) 0#32
          (countOutcomes ProtectOutcome.isChanged s.pins.guard cmd (half r.bytes 34) (half r.bytes 36) s.store)) := by
  have run := exec_storeProtect ready
  rw [protectChecks_acts (by exact named) (by exact range) (by exact supplied),
    finishExecutor_writable (by exact writable_accepted ready rfl)] at run
  obtain ⟨t, run, eq, asks⟩ := exec_asks run (List.append_assoc ..) rfl
  have executor := congrArg State.executor eq
  exact ⟨t, run, eq.trans (by rw [executor]; rfl), by rw [executor]; rfl, asks⟩

theorem storeProtect_refused {res : ResultCode} (ready : Ready .storeProtect r s)
    (refused : protectChecks ((accepted .storeProtect r s).modExecutor fun _ => protecting r) =
      finishExecutor res 0#32 0 ((accepted .storeProtect r s).modExecutor fun _ => protecting r)) :
    ∃ t, exec .storeProtect s = .next t
      ∧ t = { s with bus := t.bus, link := takenLink .storeProtect r s, executor := t.executor }
      ∧ t.executor.phase = .idle
      ∧ Asks s t (takenAccesses .storeProtect r s ++ doneAccesses .store r.addr res 0#32 0) := by
  have run := exec_storeProtect ready
  rw [refused, finishExecutor_writable (by exact writable_accepted ready rfl)] at run
  obtain ⟨t, run, eq, asks⟩ := exec_asks run (List.append_assoc ..) rfl
  have executor := congrArg State.executor eq
  exact ⟨t, run, eq.trans (by rw [executor]; rfl), by rw [executor]; rfl, asks⟩

theorem protectResult_iff {p : Prop} [Decidable p] :
    (if p then ResultCode.ok else .protectedBlock) = .protectedBlock ↔ ¬ p := by
  split <;> simp_all

theorem protectChecks_unnamed (h : 2 < byteAt s.executor.record.bytes 32) :
    protectChecks s = finishExecutor .range 0#32 0 s := by
  have unnamed : protectOfCode (byteAt s.executor.record.bytes 32) = none := by
    unfold protectOfCode
    split
    · omega
    · omega
    · omega
    · rfl
  simp only [protectChecks, unnamed]

theorem protectChecks_range (h : rangeOk (half s.executor.record.bytes 34) (half s.executor.record.bytes 36) = false) :
    protectChecks s = finishExecutor .range 0#32 0 s := by
  unfold protectChecks
  dsimp only
  split
  · rfl
  · simp [h]

theorem protectChecks_supply (named : byteAt s.executor.record.bytes 32 ≤ 2)
    (range : rangeOk (half s.executor.record.bytes 34) (half s.executor.record.bytes 36) = true)
    (h : startRefused .storeProtect s = true) : protectChecks s = finishExecutor .lowSupply 0#32 0 s := by
  obtain ⟨cmd, code, -⟩ := protectOfCode_some named
  simp [protectChecks, code, range, h]

theorem guardProtection_eq (g : Bool) (p : Protection) : guardProtection g p = match g, p with
    | true, .pinnedShut | true, .pinnedOpen => .pinned
    | false, .pinned => .pinnedShut
    | _, p => p := by
  cases g <;> cases p <;> rfl

/-- Settles O48. -/
theorem protectionFollowsTable : Obligations.ProtectionFollowsTable := by
  refine fun s => ⟨fun r ready wf code first count range descent supply => ?_, fun r res ready refused => ?_,
    fun g main change => ?_, fun g idle => ?_⟩
  · obtain ⟨cmd, named, unlock, table⟩ := protectOfCode_some code
    have supplied : startRefused .storeProtect s = false :=
      Bool.eq_false_iff.mpr fun h => (startRefused_protect_iff.mp h).elim (by simp [descent]) supply
    obtain ⟨t, run, eq, idle, asks⟩ :=
      storeProtect_acts ready named (rangeOk_iff.mpr ⟨first, count, by omega, range⟩) supplied
    have store : t.store = protectRange s.pins.guard cmd (half r.bytes 34) (half r.bytes 36) s.store :=
      congrArg State.store eq
    have block : ∀ b, t.store.block b = if half r.bytes 34 ≤ b ∧ b < half r.bytes 34 + half r.bytes 36 then
        { s.store.block b with prot := protectedAs s.pins.guard cmd (s.store.block b).prot } else s.store.block b :=
      fun b => (congrArg (·.block b) store).trans (Store.block_protectRange wf _ _ _ _ _)
    have inside : ∀ b, half r.bytes 34 ≤ b → b < half r.bytes 34 + half r.bytes 36 →
        (t.store.block b).prot = protectedAs s.pins.guard cmd (s.store.block b).prot := fun b low high => by
      rw [block, if_pos ⟨low, high⟩]
    have counted : countOutcomes ProtectOutcome.isChanged s.pins.guard cmd (half r.bytes 34) (half r.bytes 36) s.store =
        ((List.range (half r.bytes 36)).filter fun i => (t.store.block (half r.bytes 34 + i)).prot
          ≠ (s.store.block (half r.bytes 34 + i)).prot).length := by
      refine congrArg List.length (List.filter_congr fun i mem => ?_)
      have low := List.mem_range.mp mem
      rw [inside _ (by omega) (by omega), Bool.eq_iff_iff, isChanged_iff, decide_eq_true_iff]
    have refusals : countOutcomes (· == .refused) s.pins.guard cmd (half r.bytes 34) (half r.bytes 36) s.store = 0 ↔
        ¬ (cmd = .unlock ∧ ∃ b, half r.bytes 34 ≤ b ∧ b < half r.bytes 34 + half r.bytes 36
          ∧ (s.store.block b).prot = .pinned) := by
      simp only [countOutcomes_zero, beq_eq_false_iff_ne, ne_eq, protect_refused_iff]
      refine ⟨fun none ⟨pin, b, low, high, pinned⟩ => none (b - half r.bytes 34) (by omega) ⟨pin, ?_⟩,
        fun none i h ⟨pin, pinned⟩ => none ⟨pin, _, by omega, by omega, pinned⟩⟩
      rwa [Nat.add_sub_cancel' low]
    refine ⟨t, run, eq.trans (by rw [store, protectRange_rest]), idle, fun b => ?_,
      fun b out => (block b).trans (if_neg (by omega)),
      fun b low high => (inside b low high).trans (table _ _), _, counted ▸ asks, by split <;> simp, ?_⟩
    · rw [block]
      split <;> rfl
    · rw [protectResult_iff, refusals, Classical.not_not, unlock]
  · refine storeProtect_refused ready ?_
    rcases refused with ⟨rfl, unnamed | range⟩ | ⟨rfl, code, range, supply⟩
    · exact protectChecks_unnamed unnamed
    · exact protectChecks_range range
    · exact protectChecks_supply code range (startRefused_protect_iff.mpr supply)
  · have run : exec (.guardChange g) s = commit s ((s.modPins fun p => { p with guard := g }).modStore
        (Store.takeGuard g)) := if_pos (by simp [main, change])
    obtain ⟨t, run, eq, -⟩ := exec_asksNothing run rfl
    have store : t.store = s.store.takeGuard g := congrArg State.store eq
    refine ⟨t, run, eq.trans (by rw [store]; rfl), fun b => ?_⟩
    exact (congrArg (·.block b) store).trans ((Store.block_takeGuard ..).trans (by rw [guardProtection_eq]))
  · have run : exec (.guardChange g) s = commit s (s.modPins fun p => { p with guard := g }) :=
      if_neg (by rcases idle with h | h <;> simp [h])
    obtain ⟨t, run, eq, -⟩ := exec_asksNothing run rfl
    exact ⟨t, run, eq⟩

end Sys2Proof.Machine
end

section
/-!
PROOFS. Completions that wait for the port (01 R11, R14): a record's completion asks for its result write and its Done
write, the rest of the step leaves header writes that wait in the queue, and a record that can be written stays so while
others complete.
-/

namespace Sys2Proof.Machine

open Sys2Proof

variable {c : Instr} {s t u v : State} {b : Bool} {i j : LaneId} {a b' : Word} {result : ResultCode} {detail : Word}
  {progress : Nat}

/-! ## Header writes stay in the queue -/

/-- The header writes that wait in `s` wait in `u`, in their order. -/
def HeaderKept (s u : State) : Prop :=
  ∀ l : List BusAccess, (∀ x ∈ l, x.isHeaderWrite = true) → l.Sublist s.bus.queue → l.Sublist u.bus.queue

theorem HeaderKept.refl (s : State) : HeaderKept s s := fun _ _ => id

theorem HeaderKept.trans (h : HeaderKept s u) (k : HeaderKept u v) : HeaderKept s v :=
  fun l header waits => k l header (h l header waits)

theorem HeaderKept.of_bus (h : u.bus.queue = s.bus.queue) : HeaderKept s u := fun _ _ waits => h ▸ waits

theorem HeaderKept.of_append {x : List BusAccess} (h : u.bus.queue = s.bus.queue ++ x) : HeaderKept s u :=
  fun _ _ waits => h ▸ waits.trans (List.sublist_append_left _ _)

theorem HeaderKept.of_filter {p : BusAccess → Bool} (h : u.bus.queue = s.bus.queue.filter p)
    (kept : ∀ x, x.isHeaderWrite = true → p x = true) : HeaderKept s u := fun l header waits => by
  have filtered := waits.filter p
  rwa [List.filter_eq_self.mpr fun x hx => kept x (header x hx), ← h] at filtered

theorem stopLane_headers (i : LaneId) (addr : Word) (s : State) : HeaderKept s (stopLane i addr s) := by
  unfold stopLane
  split
  · exact .refl s
  · exact .of_filter (p := fun x => !x.readsFor i) rfl fun x => by
      cases x <;> simp [BusAccess.isHeaderWrite, BusAccess.readsFor]

theorem takeCursor_headers (i : LaneId) (s : State) : HeaderKept s (takeCursor i s) := by
  unfold takeCursor
  dsimp only
  split
  · exact .of_bus rfl
  · split
    · exact stopLane_headers i _ s
    · exact .of_append rfl

theorem releaseHeld_headers (i : LaneId) (s : State) : HeaderKept s (releaseHeld i s) := by
  unfold releaseHeld
  dsimp only
  split
  · exact .refl s
  · split
    · split
      · exact takeCursor_headers i s
      · exact .refl s
    · split
      · split
        · exact .of_bus rfl
        · exact .refl s
      · exact .refl s

theorem startAttach_headers (s : State) : HeaderKept s (startAttach s) := by
  unfold startAttach
  dsimp only
  split
  · exact .of_bus rfl
  · exact .of_append rfl

theorem popped_headers {x : BusAccess} {q : List BusAccess} (h : s.bus.queue = x :: q) (read : x.isHeaderWrite = false) :
    HeaderKept s (s.popped q) := fun l header waits => by
  rw [h] at waits
  cases waits with
  | cons _ rest => exact rest
  | cons_cons _ rest => exact absurd (header _ List.mem_cons_self) (by rw [read]; exact Bool.false_ne_true)

theorem requestPage_headers (s : State) : HeaderKept s (requestPage s) := by
  unfold requestPage
  split
  · exact .of_append rfl
  · exact .refl s

theorem startLane_headers (i : LaneId) (s : State) : HeaderKept s (startLane i s) := by
  unfold startLane
  split
  · exact takeCursor_headers i s
  · exact .refl s

theorem attachSucceeds_headers (bs : List Byte) (s : State) : HeaderKept s (attachSucceeds bs s) :=
  ((HeaderKept.of_bus (u := latchAnchor bs s) rfl).trans (requestPage_headers _)).trans
    ((startLane_headers _ _).trans ((startLane_headers _ _).trans (startLane_headers _ _)))

theorem refuseRecord_headers (i : LaneId) (r : RecordCopy) (result : ResultCode) (s : State) :
    HeaderKept s (refuseRecord i r result s) :=
  (HeaderKept.of_append (u := enqueue (.resultWrite i r.addr result 0#32 0) (addEntry i (newEntry r none) s)) rfl).trans
    ((HeaderKept.of_append (u := enqueue (.stateWrite i r.addr .done) _) rfl).trans (.of_append rfl))

theorem recordRead_headers (i : LaneId) (addr : Word) (x : BusRead) (s : State) :
    HeaderKept s (recordRead i addr x s) := by
  unfold recordRead
  dsimp only
  split
  · exact .refl s
  · cases x with
    | busError =>
      exact ((HeaderKept.of_append (u := enqueue (.resultWrite i addr .badRecord 0#32 0)
        (addEntry i (newEntry { addr := addr, bytes := [] } none) s)) rfl).trans (.of_append rfl)).trans
          (stopLane_headers i addr _)
    | data bytes =>
      dsimp only
      split
      · unfold takeRecord
        split
        · exact refuseRecord_headers i _ _ s
        · exact .of_bus rfl
      · exact .refl s

theorem followLink_headers (i : LaneId) (w : Word) (s : State) : HeaderKept s (followLink i w s) := by
  have retired (x : State) : HeaderKept x (dropLinkReads i (retire i x)) :=
    (HeaderKept.of_bus (u := retire i x) (by simp)).trans
      (.of_filter (p := fun a => !a.isLinkRead i) rfl fun x => by
        cases x <;> simp [BusAccess.isHeaderWrite, BusAccess.isLinkRead])
  have moved (f : Lane → Lane) : HeaderKept s (s.modLane i f) := .of_bus rfl
  unfold followLink
  dsimp only
  split
  · exact (moved _).trans ((retired _).trans (takeCursor_headers i _))
  · exact (moved _).trans (retired _)

theorem linkRead_headers (i : LaneId) (w : Word) (s : State) : HeaderKept s (linkRead i w s) := by
  unfold linkRead
  dsimp only
  split
  · exact .refl s
  · split
    · unfold parkLane
      dsimp only
      split
      · split
        · exact .of_append rfl
        · exact .of_bus rfl
      · exact .refl s
    · split
      · exact followLink_headers i w s
      · exact stopLane_headers i _ s

/-- What a ramp tick could pass through loses no header write that waits. -/
theorem Passes.headersKept (h : Passes .rampTick s b u) : HeaderKept s u := by
  induction h with
  | start => exact .refl s
  | startAttach _ _ ih => exact ih.trans (startAttach_headers _)
  | anchorPassed _ bs q here => exact (popped_headers here rfl).trans (attachSucceeds_headers bs _)
  | anchorFailed _ q here => exact (popped_headers here rfl).trans (.of_bus rfl)
  | recordRead i addr x q here => exact (popped_headers here rfl).trans (recordRead_headers i addr x _)
  | linkRead i addr why v q here => exact (popped_headers here rfl).trans (linkRead_headers i v _)
  | bufferEnded _ _ _ q here => exact popped_headers here rfl
  | ask x _ _ ih => exact ih.trans (.of_append rfl)
  | askLink i why _ _ _ ih => exact ih.trans (.of_append rfl)
  | accept k r _ _ ih => exact ih.trans (.of_append (acceptRecord_queue k r _))
  | released i _ ih => exact ih.trans (releaseHeld_headers i _)
  | dropRows n _ ih =>
    exact ih.trans (.of_filter rfl fun x => by cases x <;> simp [BusAccess.isHeaderWrite, BusAccess.isRows])
  | resetFromDoze _ _ _ _ resets => exact absurd (resets rfl) (by simp [ResetsMain])
  | wakeFromDeep r _ _ _ _ _ resets => exact absurd (resets rfl) (by simp [ResetsMain])
  | engineReset _ _ _ resets => exact absurd (resets rfl) (by simp [ResetsMain])
  | wakingFromDoze r _ _ _ _ ih => exact ih.trans (.of_bus (by rw [wakingFromDoze_eq]))
  | _ => simp_all [HeaderKept]

/-! ## Completions -/

theorem HeaderKept.waits (h : HeaderKept s u) (waits : (doneAccesses i a result detail progress).Sublist s.bus.queue) :
    (doneAccesses i a result detail progress).Sublist u.bus.queue :=
  h _ (by simp [doneAccesses, BusAccess.isHeaderWrite]) waits

theorem sublist_dropWhile {α : Type} {p : α → Bool} {l : List α} (h : ∀ x ∈ l, p x = false) : ∀ {m : List α},
    l.Sublist m → l.Sublist (m.dropWhile p)
  | [], waits => waits
  | x :: m, waits => by
    by_cases pass : p x = true
    · rw [List.dropWhile_cons_of_pos pass]
      refine sublist_dropWhile h ?_
      cases waits with
      | cons _ rest => exact rest
      | cons_cons _ _ => exact absurd pass (by simp [h x List.mem_cons_self])
    · rwa [List.dropWhile_cons_of_neg pass]

/-- A completion that waits when a step's meaning has run waits at the end of the step. -/
theorem completing_settled (s : State) (waits : (doneAccesses i a result detail progress).Sublist u.bus.queue) :
    Completing (settlePort s u) i a result detail progress := by
  obtain ⟨rest, queue, -⟩ := settlePort_queue s u
  have waits' : (doneAccesses i a result detail progress).Sublist (settlePort s u).bus.queue := by
    rw [queue]
    exact sublist_dropWhile (by simp [doneAccesses, BusAccess.repeats]) (waits.trans (List.sublist_append_left _ _))
  obtain ⟨r₁, r₂, eq, result, done⟩ := List.cons_sublist_iff.mp waits'
  obtain ⟨x, y, rfl⟩ := List.append_of_mem result
  obtain ⟨y', z, rfl⟩ := List.append_of_mem (List.singleton_sublist.mp done)
  exact ⟨x, y ++ y', z, by rw [eq]; simp⟩

theorem completeRecord_waits (h : Writable i a s) (result : ResultCode) (detail : Word) (progress : Nat) :
    (doneAccesses i a result detail progress).Sublist (completeRecord i a result detail progress s).bus.queue := by
  rw [completeRecord_writable h]
  exact List.sublist_append_right _ _

/-! ## Other records stay open -/

theorem find_updateEntry {p : TakenEntry → Bool} {f : TakenEntry → TakenEntry} (other : ∀ e, e.addr = a → p e = false)
    (changed : ∀ e, e.addr = a → p (f e) = false) : ∀ l, (updateEntry a f l).find? p = l.find? p
  | [] => rfl
  | e :: l => by
    unfold updateEntry
    split
    · next here =>
      have here : e.addr = a := (by simpa using here : e.addr = a ∧ e.done = false).1
      rw [List.find?_cons_of_neg (by simp [changed e here]), List.find?_cons_of_neg (by simp [other e here])]
    · rw [List.find?_cons, List.find?_cons, find_updateEntry other changed l]

theorem find_dropWhile {α : Type} {p q : α → Bool} (apart : ∀ e, q e = true → p e = false) : ∀ l : List α,
    (l.dropWhile q).find? p = l.find? p
  | [] => rfl
  | e :: l => by
    by_cases drop : q e = true
    · rw [List.dropWhile_cons_of_pos drop, List.find?_cons_of_neg (by simp [apart e drop]), find_dropWhile apart l]
    · rw [List.dropWhile_cons_of_neg drop]

/-- The records that can be written in `s` can be written in `u`. -/
def OpenKept (s u : State) : Prop := ∀ i a, Writable i a s → Writable i a u

theorem OpenKept.of_link (h : u.link = s.link) : OpenKept s u := fun _ _ open_ => open_.congr h

theorem OpenKept.trans (h : OpenKept s u) (k : OpenKept u v) : OpenKept s v := fun i a open_ => k i a (h i a open_)

theorem openEntry_markDone (h : i ≠ j ∨ a ≠ b') : openEntry j b' (markDone i a s) = openEntry j b' s := by
  have link : (markDone i a s).link = s.link.setLane i fun l =>
      { l with
          table := (updateEntry a (fun e => { e with done := true }) l.table).dropWhile TakenEntry.retirable
          retiredAddr := ((markDone i a s).link.lane i).retiredAddr
          retiredCount := ((markDone i a s).link.lane i).retiredCount } := by
    unfold markDone retire
    dsimp only
    cases i <;> split <;> rfl
  unfold openEntry
  rw [link]
  by_cases lane : j = i
  · subst lane
    rw [Link.lane_setLane_same]
    dsimp only
    rw [find_dropWhile (by simp +contextual [TakenEntry.retirable]),
      find_updateEntry (by rcases h with h | h; · exact absurd rfl h
                           · simp +contextual [h]) (by simp)]
  · rw [Link.lane_setLane_other _ lane]

theorem completeRecord_opens (i : LaneId) (a : Word) (result : ResultCode) (detail : Word) (progress : Nat) (s : State) :
    OpenKept s (completeRecord i a result detail progress s) := by
  unfold completeRecord
  split
  · exact .of_link rfl
  · next e opened =>
    split
    · next unwritable =>
      intro j b writable
      by_cases same : i = j ∧ a = b
      · obtain ⟨rfl, rfl⟩ := same
        simp [Writable, opened, unwritable] at writable
      · rw [Writable, openEntry_markDone (by by_cases h : i = j <;> simp_all)]
        exact writable
    · exact .of_link rfl

theorem completeRecord_headers (i : LaneId) (a : Word) (result : ResultCode) (detail : Word) (progress : Nat)
    (s : State) : HeaderKept s (completeRecord i a result detail progress s) :=
  (completeRecord_passes i a result detail progress .start).headersKept

/-! ## Completing the entries of the pending list, and a load -/

theorem endEntry_opens (result : ResultCode) (e : Entry) (s : State) : OpenKept s (endEntry result e s) := by
  unfold endEntry
  split
  · exact completeRecord_opens _ _ _ _ _ s
  · exact .of_link rfl

theorem endEntries_headers (result : ResultCode) (l : List Entry) (s : State) :
    HeaderKept s (endEntries result l s) := (endEntries_passes result l .start).headersKept

theorem endEntries_opens (result : ResultCode) : ∀ (l : List Entry) (s : State), OpenKept s (endEntries result l s)
  | [], _ => .of_link rfl
  | e :: l, s => (endEntry_opens result e s).trans (endEntries_opens result l _)

theorem endEntries_waits {e : Entry} {l : List Entry} (src : e.src = .record a) (mem : e ∈ l)
    (writable : Writable .display a s) :
    (doneAccesses .display a result e.detail 0).Sublist (endEntries result l s).bus.queue := by
  induction l generalizing s with
  | nil => cases mem
  | cons d l ih =>
    rcases List.mem_cons.mp mem with rfl | later
    · have ended : endEntry result e s = completeRecord .display a result e.detail 0 s := by
        simp only [endEntry, src]
      have waits := completeRecord_waits writable result e.detail 0
      rw [← ended] at waits
      exact (endEntries_headers result l _).waits waits
    · exact ih later (endEntry_opens result d s _ _ writable)

theorem removeEntries_waits {e : Entry} {p : Entry → Bool} (mem : e ∈ s.panel.pending) (removed : p e = true)
    (src : e.src = .record a) (writable : Writable .display a s) :
    (doneAccesses .display a result e.detail 0).Sublist (removeEntries result p s).bus.queue :=
  endEntries_waits src (List.mem_filter.mpr ⟨mem, removed⟩) (writable.congr (by rfl))

theorem removeEntries_opens (result : ResultCode) (p : Entry → Bool) (s : State) :
    OpenKept s (removeEntries result p s) :=
  (OpenKept.of_link (u := s.modPanel fun q => { q with pending := q.pending.filter fun e => !p e }) rfl).trans
    (endEntries_opens result _ _)

theorem endLoad_eq {l : Load} (h : s.wave.load = some l) (result : ResultCode) : endLoad result s =
    completeRecord .display l.addr result l.detail l.progress (s.modWave fun v => { v with load := none }) := by
  simp only [endLoad, h]

theorem endLoad_waits {l : Load} (h : s.wave.load = some l) (writable : Writable .display l.addr s) :
    (doneAccesses .display l.addr result l.detail l.progress).Sublist (endLoad result s).bus.queue := by
  rw [endLoad_eq h]
  exact completeRecord_waits (writable.congr (by rfl)) _ _ _

end Sys2Proof.Machine
end

section
/-!
PROOFS. POWER_SLEEP (03 R47) and the expiries of the Power Controller's timers (03 R52, R55, R62).
-/

namespace Sys2Proof.Machine

open Sys2Proof

variable {c : Instr} {s t u v x : State} {r : RecordCopy} {a : Word} {result : ResultCode}

/-! ## DEEP_ENTRY and the forced descent -/

/-- The engine once the rail hold cut has begun (06 R110). -/
def Panel.holdCut (p : Panel) : Panel := if p.engine = .holding then p.fall else p

theorem Panel.holdCut_pending (p : Panel) : p.holdCut.pending = p.pending := by
  unfold Panel.holdCut
  split <;> rfl

theorem Panel.holdCut_halted (p : Panel) : p.holdCut.engine = .halted ↔ p.engine = .halted := by
  unfold Panel.holdCut
  split
  · next h => simp [Panel.fall, h]
  · rfl

theorem Panel.holdCut_holding {p : Panel} (h : p.engine = .holding) : p.holdCut.engine = .falling :=
  congrArg Panel.engine (if_pos h : p.holdCut = p.fall)

/-- The Power Controller's items as DEEP_ENTRY is entered (03 R57). -/
def Power.toDeepEntry (p : Power) : Power :=
  { p with dozeTimer := none, drainAsked := false, descentPending := false, state := .deepEntry }

/-- A command answers the state it ends in but for the port, where the completions that wait in it wait. -/
theorem exec_completes (run : exec c s = commit s u) : ∃ t, exec c s = .next t ∧ t = { u with bus := t.bus }
    ∧ ∀ i a result detail progress, (doneAccesses i a result detail progress).Sublist u.bus.queue →
      Completing t i a result detail progress :=
  ⟨_, run, settlePort_eq s u, fun _ _ _ _ _ waits => completing_settled s waits⟩

/-- DEEP_ENTRY entered, the flush of a HALTED engine apart (03 R57). -/
def deepEntered (s : State) : State :=
  { s with
      sense := s.sense.changeState s.power.state .deepEntry
      power := s.power.toDeepEntry
      light := { s.light with fade := true }
      turn := { s.turn with queue := [] }
      panel := s.panel.holdCut }

theorem enterDeepEntry_running (h : s.panel.engine ≠ .halted) : enterDeepEntry s = deepEntered s :=
  if_neg (by exact fun halted => h (s.panel.holdCut_halted.mp halted))

/-- With an empty list and no offer, DEEP_ENTRY leaves a HALTED engine flushed and has nothing to end. -/
theorem enterDeepEntry_empty (pending : s.panel.pending = []) (turn : s.turn.state ≠ .offering) :
    enterDeepEntry s = (deepEntered s).modPanel fun p => { p with flushed := p.flushed || p.engine == .halted } := by
  by_cases halted : s.panel.engine = .halted
  · have halts : (deepEntered s).panel.engine = .halted := s.panel.holdCut_halted.mpr halted
    have empty : ((deepEntered s).modPanel fun p => { p with flushed := true }).panel.pending = [] :=
      (s.panel.holdCut_pending).trans pending
    have flushed : enterDeepEntry s = flushHalted (deepEntered s) := if_pos halts
    rw [flushed, flushHalted, flushList, removeEntries_empty _ _ empty, tryOffer_other (by exact turn)]
    simp [State.modPanel, halts]
  · have runs : (deepEntered s).panel.engine ≠ .halted := fun h => halted (s.panel.holdCut_halted.mp h)
    have flag : ((deepEntered s).panel.flushed || (deepEntered s).panel.engine == .halted)
        = (deepEntered s).panel.flushed := by simp [runs]
    rw [enterDeepEntry_running halted, State.modPanel, flag]

theorem tryOffer_forced (forced : s.power.forced = true) :
    (tryOffer s).panel = s.panel ∧ (tryOffer s).turn.state ≠ .offering := by
  by_cases offers : s.turn.state = .offering
  · have refused : tryOffer s = refuseOffer s := (if_neg (by simp [offers])).trans (if_pos (by simp [forced]))
    rw [refused]
    exact ⟨rfl, nofun⟩
  · rw [tryOffer_other offers]
    exact ⟨rfl, offers⟩

theorem forceDescent_empties (s : State) :
    (forceDescent s).panel.pending = [] ∧ (forceDescent s).turn.state ≠ .offering := by
  have forced : (endWaitingLoad .lowSupply (flushList .lowSupply s.forcing)).power.forced = true := by
    simp [flushList, State.forcing]
  have pending : (endWaitingLoad .lowSupply (flushList .lowSupply s.forcing)).panel.pending = [] := by
    simp only [endWaitingLoad_keeps, flushList, removeEntries_panel, Bool.not_true, List.filter_eq_nil_iff]
    simp
  obtain ⟨panel, turn⟩ := tryOffer_forced forced
  exact ⟨(congrArg Panel.pending panel).trans pending, turn⟩

/-- A forced descent, once the flag has done its work on the list: DEEP_ENTRY and DETACHING. -/
theorem beginForcedDescent_eq (s : State) : beginForcedDescent s =
    let y := (deepEntered (forceDescent s)).modPanel fun p => { p with flushed := p.flushed || p.engine == .halted }
    if s.link.state = .attached then y.modLink Link.detaching else y := by
  obtain ⟨pending, turn⟩ := forceDescent_empties s
  have link : (forceDescent s).link.state = s.link.state := (forceDescent_keeps s).2.2.1
  rw [beginForcedDescent, enterDeepEntry_empty pending turn]
  dsimp only
  unfold detachIfAttached
  by_cases attached : s.link.state = .attached
  · rw [if_pos (by exact link.trans attached), if_pos attached, enterDetaching_quiet]
    · exact ((forceDescent s).panel.holdCut_pending).trans pending
    · exact turn
  · rw [if_neg (by exact fun h => attached (link.symm.trans h)), if_neg attached]

theorem settleAll_descended (s : State) : settleAll (beginForcedDescent s) = beginForcedDescent s := by
  obtain ⟨pending, turn⟩ := forceDescent_empties s
  have fields : (beginForcedDescent s).power.descentPending = false ∧ (beginForcedDescent s).panel.pending = []
      ∧ (beginForcedDescent s).turn.state ≠ .offering ∧ (beginForcedDescent s).turn.queue = [] := by
    rw [beginForcedDescent_eq]
    dsimp only
    split <;> exact ⟨rfl, ((forceDescent s).panel.holdCut_pending).trans pending, turn, rfl⟩
  obtain ⟨descent, pending, turn, presses⟩ := fields
  have finished : finishDescent (beginForcedDescent s) = beginForcedDescent s := by simp [finishDescent, descent]
  rw [settleAll, finished, settlePanel_quiet pending turn, considerHead_noPress presses]

theorem beginForcedDescent_headers (s : State) : HeaderKept (forceDescent s) (beginForcedDescent s) := by
  rw [beginForcedDescent_eq]
  dsimp only
  split <;> exact .of_bus rfl

theorem tryOffer_headers (s : State) : HeaderKept s (tryOffer s) := (tryOffer_passes .start).headersKept

theorem endLoad_headers (result : ResultCode) (s : State) : HeaderKept s (endLoad result s) :=
  (endLoad_passes result .start).headersKept

theorem endWaitingLoad_headers (result : ResultCode) (s : State) : HeaderKept s (endWaitingLoad result s) :=
  (endWaitingLoad_passes result .start).headersKept

theorem endWaitingLoad_waiting {l : Load} (load : s.wave.load = some l)
    (stage : l.stage = .listWait ∨ l.stage = .bankWait) : endWaitingLoad result s = endLoad result s :=
  if_pos (by rcases stage with h | h <;> simp [load, h])

/-- What the forced-descent flag ends: each waiting update and a waiting load complete with LowSupply (03 R62). -/
theorem forceDescent_ends {e : Entry} (mem : e ∈ s.panel.pending) (src : e.src = .record a)
    (writable : Writable .display a s) :
    (doneAccesses .display a .lowSupply e.detail 0).Sublist (forceDescent s).bus.queue :=
  ((endWaitingLoad_headers .lowSupply (flushList .lowSupply s.forcing)).trans (tryOffer_headers _)).waits
    (removeEntries_waits (s := s.forcing) mem rfl src (writable.congr (by rfl)))

theorem forceDescent_endsLoad {l : Load} (load : s.wave.load = some l)
    (stage : l.stage = .listWait ∨ l.stage = .bankWait) (writable : Writable .display l.addr s) :
    (doneAccesses .display l.addr .lowSupply l.detail l.progress).Sublist (forceDescent s).bus.queue
      ∧ (forceDescent s).wave.load = none := by
  have kept : (flushList .lowSupply s.forcing).wave.load = some l := by simpa [State.forcing] using load
  have ended : forceDescent s = tryOffer (endLoad .lowSupply (flushList .lowSupply s.forcing)) :=
    congrArg tryOffer (endWaitingLoad_waiting kept stage)
  rw [ended]
  refine ⟨(tryOffer_headers _).waits (endLoad_waits kept ?_), ?_⟩
  · exact removeEntries_opens _ _ _ _ _ (writable.congr (by rfl))
  · rw [(tryOffer_keeps _).2.2.2.2.2.2.1, endLoad_eq kept]
    simp

theorem beginForcedDescent_fields (s : State) :
    (beginForcedDescent s).power = { s.power with
        forced := true, wakeSetting := 0, wakeTimer := none, dozeTimer := none, drainAsked := false,
        descentPending := false, state := .deepEntry }
      ∧ (beginForcedDescent s).panel.pending = [] ∧ (beginForcedDescent s).turn.queue = []
      ∧ (beginForcedDescent s).light.fade = true ∧ (beginForcedDescent s).wave = (forceDescent s).wave
      ∧ (beginForcedDescent s).link.state = if s.link.state = .attached then .detaching else s.link.state := by
  have power := forceDescent_power s
  have link : (forceDescent s).link.state = s.link.state := (forceDescent_keeps s).2.2.1
  have pending := ((forceDescent s).panel.holdCut_pending).trans (forceDescent_empties s).1
  rw [beginForcedDescent_eq]
  dsimp only
  split
  · exact ⟨congrArg Power.toDeepEntry power, pending, rfl, rfl, rfl, rfl⟩
  · exact ⟨congrArg Power.toDeepEntry power, pending, rfl, rfl, rfl, link⟩

/-! ## The timers -/

theorem graceTimerExpires (runs : s.power.graceTimer ≠ none) : exec .graceTimerExpiry s =
    commit s (beginForcedDescent (s.modPower fun p => { p with graceTimer := none })) :=
  (if_pos (Option.isSome_iff_ne_none.mpr runs)).trans (congrArg (commit s) (settleAll_descended _))

theorem dozeTimerExpires (runs : s.power.dozeTimer ≠ none) (calm : s.power.descentPending = false)
    (quiet : Quiet s) (engine : s.panel.engine ≠ .halted) : exec .dozeTimerExpiry s =
      commit s (deepEntered (s.modPower fun p => { p with dozeTimer := none })) := by
  obtain ⟨pending, idle, -, -⟩ := quiet
  have run : exec .dozeTimerExpiry s =
      commit s (settleAll (enterDeepEntry (s.modPower fun p => { p with dozeTimer := none }))) :=
    (if_pos (Option.isSome_iff_ne_none.mpr runs)).trans (if_neg (by simp [calm]))
  rw [enterDeepEntry_running (by exact engine)] at run
  exact exec_settled run ⟨(s.panel.holdCut_pending).trans pending, idle, rfl, rfl⟩

theorem wakeTimerExpires (runs : s.power.wakeTimer ≠ none) : exec .wakeTimerExpiry s =
    commit s (wakeEvent .timer (s.modPower fun p => { p with wakeTimer := none })) :=
  if_pos (Option.isSome_iff_ne_none.mpr runs)

/-- Settles O26, timer by timer. -/
theorem powerTimersExpire : Obligations.PowerTimersExpire := by
  refine fun s => ⟨fun runs calm => ?_, fun runs calm quiet engine => ?_, fun runs calm doze => ?_,
    fun runs deep supplied => ?_, fun runs deep dead => ?_⟩
  · obtain ⟨t, run, eq, completes⟩ := exec_completes (graceTimerExpires runs)
    obtain ⟨power, pending, presses, fade, wave, link⟩ :=
      beginForcedDescent_fields (s.modPower fun p => { p with graceTimer := none })
    have headers := beginForcedDescent_headers (s.modPower fun p => { p with graceTimer := none })
    have power := (congrArg State.power eq).trans power
    refine ⟨t, run, congrArg (·.state) power, congrArg (·.forced) power, congrArg (·.graceTimer) power,
      congrArg (·.wakeSetting) power, congrArg (·.wakeTimer) power, (congrArg (·.panel.pending) eq).trans pending,
      (congrArg (·.turn.queue) eq).trans presses, (congrArg (·.light.fade) eq).trans fade,
      fun e a mem src writable => ?_, fun l load stage writable => ?_, (congrArg (·.link.state) eq).trans link⟩
    · exact completes _ _ _ _ _ (headers.waits (forceDescent_ends mem src (writable.congr (by rfl))))
    · obtain ⟨waits, ended⟩ := forceDescent_endsLoad (s := s.modPower fun p => { p with graceTimer := none }) load stage
        (writable.congr (by rfl))
      exact ⟨(congrArg (·.wave.load) eq).trans ((congrArg Wave.load wave).trans ended),
        completes _ _ _ _ _ (headers.waits waits)⟩
  · refine ⟨_, dozeTimerExpires runs calm quiet engine, ?_⟩
    rw [settlePort_eq]
    exact ⟨rfl, rfl, rfl, rfl, rfl, rfl, rfl⟩
  · have run := wakeTimerExpires runs
    rw [wakeEvent_doze (s.modPower fun p => { p with wakeTimer := none }) (r := .timer) (.inr doze) calm nofun,
      wakeFromDoze_eq, if_neg (by simp), wakingFromDoze_eq] at run
    refine ⟨_, run, ?_⟩
    rw [settlePort_eq]
    exact ⟨rfl, rfl, rfl, rfl, rfl, rfl, rfl, rfl⟩
  · have run := wakeTimerExpires runs
    rw [wakeEvent_deep (s.modPower fun p => { p with wakeTimer := none }) (r := .timer) deep rfl
      fun e => absurd e supplied] at run
    exact ⟨_, exec_reset run rfl rfl, rfl, rfl, rfl, rfl, rfl, rfl⟩
  · have run := wakeTimerExpires runs
    have ignored : wakeEvent .timer (s.modPower fun p => { p with wakeTimer := none }) =
        { s with regs := { s.regs with attachWaits := false },
                 power := { s.power with wakeTimer := none, remembered := none } } := by
      simp [wakeEvent, deep, wakeInDeep, dead, WakeReason.reachesDeep, State.modPower, State.modRegs]
    rw [ignored] at run
    exact (exec_asksNothing run rfl).imp fun t ⟨run, eq, _⟩ => ⟨run, eq⟩

/-! ## POWER_SLEEP -/

theorem offered_attached {k : Kind} (h : offered k s = some r) : s.link.state = .attached := by
  unfold offered at h
  dsimp only at h
  split at h
  · next here => exact here.1
  · cases h

theorem Lane.detach_table (l : Lane) : l.detach.table = l.table := by
  unfold Lane.detach
  split <;> rfl

theorem Lane.detach_state (l : Lane) : l.detach.state = if l.state = .stopped then .stopped else .detached := by
  unfold Lane.detach
  split <;> simp_all

theorem Writable.of_table {i : LaneId} (h : Writable i a s) (table : (u.link.lane i).table = (s.link.lane i).table) :
    Writable i a u := by
  rw [Writable, openEntry, table]
  exact h

theorem takenLink_lane (k : Kind) (r : RecordCopy) (s : State) (i : LaneId) :
    ((takenLink k r s).lane i).state = (s.link.lane i).state := by
  unfold takenLink
  by_cases lane : i = k.lane
  · rw [lane, Link.lane_setLane_same]
  · rw [Link.lane_setLane_other _ lane]

theorem exec_readyAccepted {k : Kind} {effect : RecordCopy → State → State} (row : exec c s = onRecord k effect s)
    (h : Ready k r s) : exec c s = commit s (effect r (accepted k r s)) := exec_ready row h

theorem exec_powerSleep (s : State) :
    exec .powerSleep s = onRecord .powerSleep (fun r t => settleAll (sleepChecks r t)) s := rfl

theorem powerSleep_checked (ready : Ready .powerSleep r s) :
    exec .powerSleep s = commit s (settleAll (sleepChecks r (accepted .powerSleep r s))) :=
  exec_readyAccepted (effect := fun r t => settleAll (sleepChecks r t)) (exec_powerSleep s) ready

theorem depthOfCode_some {n : Nat} (h : n ≤ 1) : depthOfCode n = some (if n = 0 then .doze else .deep) := by
  obtain rfl | rfl : n = 0 ∨ n = 1 := by omega
  · rfl
  · rfl

theorem depthOfCode_none {n : Nat} (h : 1 < n) : depthOfCode n = none := by
  unfold depthOfCode
  split
  · omega
  · omega
  · rfl

/-- The state in which an accepted POWER_SLEEP has left RUN, its record yet to be completed (03 R47). -/
def sleeping (d : SleepDepth) (wake : Nat) (s : State) : State :=
  match d with
  | .doze => { s with
      link := s.link.detaching
      sense := s.sense.changeState s.power.state .dozeEntry
      power := { s.power with depth := .doze, wakeSetting := wake, state := .dozeEntry }
      panel := s.panel.holdCut }
  | .deep => deepEntered ((s.modLink Link.detaching).modPower fun p => { p with depth := .deep, wakeSetting := wake })

theorem acceptSleep_eq {d : SleepDepth} (attached : s.link.state = .attached) (engine : s.panel.engine ≠ .halted) :
    acceptSleep r d s = completeRecord .control r.addr .ok 0#32 0 (sleeping d (half r.bytes 34) s) := by
  have detached : detachIfAttached (s.modPower fun p => { p with depth := d, wakeSetting := half r.bytes 34 }) =
      (s.modPower fun p => { p with depth := d, wakeSetting := half r.bytes 34 }).modLink Link.detaching :=
    (if_pos attached).trans (enterDetaching_running (by exact engine))
  unfold acceptSleep
  dsimp only
  rw [detached]
  cases d with
  | doze => rfl
  | deep => exact congrArg _ (enterDeepEntry_running (by exact engine))

theorem sleepChecks_passed {d : SleepDepth} (depth : depthOfCode (byteAt r.bytes 32) = some d)
    (wake : half r.bytes 34 ≤ 10080) (run : s.power.state = .run) (engine : s.panel.engine ≠ .halted)
    (cls : s.power.cls ≠ .exhausted) : sleepChecks r s = acceptSleep r d s := by
  simp [sleepChecks, depth, run, engine, cls, show ¬ 10080 < half r.bytes 34 by omega]

/-- What a POWER_SLEEP is refused with (03 R47). -/
theorem sleepChecks_refused {res : ResultCode}
    (refused : (res = .range ∧ (1 < byteAt r.bytes 32 ∨ 10080 < half r.bytes 34))
      ∨ (byteAt r.bytes 32 ≤ 1 ∧ half r.bytes 34 ≤ 10080 ∧
          ((res = .lowSupply ∧ s.power.state ≠ .run)
            ∨ (res = .panelHalted ∧ s.power.state = .run ∧ s.panel.engine = .halted)
            ∨ (res = .lowSupply ∧ s.power.state = .run ∧ s.panel.engine ≠ .halted ∧ s.power.cls = .exhausted)))) :
    sleepChecks r s = completeRecord .control r.addr res 0#32 0 s := by
  unfold sleepChecks
  rcases refused with ⟨rfl, range⟩ | ⟨depth, wake, refused⟩
  · by_cases depth : 1 < byteAt r.bytes 32
    · rw [depthOfCode_none depth]
    · rw [depthOfCode_some (by omega)]
      exact if_pos (range.resolve_left depth)
  · rw [depthOfCode_some depth]
    have wake : ¬ 10080 < half r.bytes 34 := by omega
    rcases refused with ⟨rfl, state⟩ | ⟨rfl, state, halted⟩ | ⟨rfl, state, engine, dead⟩
    · simp [wake, state]
    · simp [wake, state, halted]
    · simp [wake, state, engine, dead]

theorem sleeping_fields (d : SleepDepth) (wake : Nat) (quiet : Quiet s) :
    Quiet (sleeping d wake s) ∧ (sleeping d wake s).link = s.link.detaching ∧ (sleeping d wake s).bus = s.bus
      ∧ (sleeping d wake s).power = { s.power with
          state := if d = .doze then .dozeEntry else .deepEntry, depth := d, wakeSetting := wake,
          dozeTimer := if d = .doze then s.power.dozeTimer else none,
          drainAsked := s.power.drainAsked && d == .doze }
      ∧ (sleeping d wake s).regs = s.regs ∧ (sleeping d wake s).turn = s.turn ∧ (sleeping d wake s).store = s.store
      ∧ (sleeping d wake s).shared = s.shared
      ∧ (sleeping d wake s).light.fade = (if d = .doze then s.light.fade else true)
      ∧ (sleeping d wake s).panel = s.panel.holdCut := by
  obtain ⟨pending, idle, presses, descent⟩ := quiet
  have empty := (s.panel.holdCut_pending).trans pending
  cases d with
  | doze => exact ⟨⟨empty, idle, presses, descent⟩, rfl, rfl, by simp [sleeping], rfl, rfl, rfl, rfl, rfl, rfl⟩
  | deep =>
    refine ⟨⟨empty, idle, rfl, rfl⟩, rfl, rfl, ?_, rfl, ?_, rfl, rfl, rfl, rfl⟩
    · simp [sleeping, deepEntered, Power.toDeepEntry, descent]
    · have same : { s.turn with queue := [] } = s.turn := by rw [← presses]
      exact same

theorem accepted_quiet {k : Kind} (quiet : Quiet s) : Quiet (accepted k r s) :=
  ⟨quiet.1, quiet.2.1, quiet.2.2.1, quiet.2.2.2⟩

theorem powerSleep_accepts {d : SleepDepth} (ready : Ready .powerSleep r s) (quiet : Quiet s)
    (depth : depthOfCode (byteAt r.bytes 32) = some d) (wake : half r.bytes 34 ≤ 10080) (run : s.power.state = .run)
    (engine : s.panel.engine ≠ .halted) (cls : s.power.cls ≠ .exhausted) : ∃ t, exec .powerSleep s = .next t
      ∧ t = { sleeping d (half r.bytes 34) (accepted .powerSleep r s) with bus := t.bus }
      ∧ Completing t .control r.addr .ok 0#32 0 := by
  have attached : (accepted .powerSleep r s).link.state = .attached := offered_attached (s := s) ready.1
  obtain ⟨quiet', link, -⟩ := sleeping_fields d (half r.bytes 34) (accepted_quiet (k := .powerSleep) (r := r) quiet)
  have table : ((sleeping d (half r.bytes 34) (accepted .powerSleep r s)).link.lane .control).table
      = ((accepted .powerSleep r s).link.lane .control).table := by
    rw [link, Link.detaching_lane, Lane.detach_table]
  have writable : Writable .control r.addr (sleeping d (half r.bytes 34) (accepted .powerSleep r s)) :=
    (writable_accepted ready rfl).of_table table
  have row : exec .powerSleep s = commit s (settleAll (sleepChecks r (accepted .powerSleep r s))) :=
    powerSleep_checked ready
  rw [sleepChecks_passed depth wake (by exact run) (by exact engine) (by exact cls),
    acceptSleep_eq attached (by exact engine)] at row
  have waits := completeRecord_waits writable .ok 0#32 0
  rw [completeRecord_writable writable] at row waits
  have row := exec_settled row quiet'
  obtain ⟨t, run, eq, completes⟩ := exec_completes row
  exact ⟨t, run, eq, completes _ _ _ _ _ waits⟩

/-- Settles O25. -/
theorem powerSleepOutcome : Obligations.PowerSleepOutcome := by
  refine fun s r ready quiet => ⟨fun depth wake state engine cls => ?_, fun res refused => ?_⟩
  · obtain ⟨t, run, eq, completing⟩ :=
      powerSleep_accepts ready quiet (depthOfCode_some depth) wake state engine cls
    obtain ⟨-, link, -, power, regs, turn, store, shared, fade, panel⟩ :=
      sleeping_fields (if byteAt r.bytes 32 = 0 then .doze else .deep) (half r.bytes 34)
        (accepted_quiet (k := .powerSleep) (r := r) quiet)
    have link := (congrArg State.link eq).trans link
    refine ⟨t, run, completing, congrArg (·.state) link, fun i => ?_, ?_, (congrArg State.regs eq).trans regs,
      (congrArg State.turn eq).trans turn, (congrArg State.store eq).trans store,
      (congrArg State.shared eq).trans shared, ?_, fun holding => ?_⟩
    · rw [link, Link.detaching_lane, Lane.detach_state]
      exact congrArg (fun x : LaneState => if x = .stopped then LaneState.stopped else .detached)
        (takenLink_lane .powerSleep r s i)
    · refine ((congrArg State.power eq).trans power).trans ?_
      by_cases doze : byteAt r.bytes 32 = 0
      · simp [doze, accepted]
      · simp [doze, accepted, show (SleepDepth.deep == .doze) = false from rfl]
    · refine ((congrArg (·.light.fade) eq).trans fade).trans ?_
      by_cases doze : byteAt r.bytes 32 = 0
      · simp [doze, accepted]
      · simp [doze]
    · exact (congrArg (·.panel.engine) eq).trans ((congrArg Panel.engine panel).trans (Panel.holdCut_holding holding))
  · have row : exec .powerSleep s = commit s (settleAll (sleepChecks r (accepted .powerSleep r s))) :=
      powerSleep_checked ready
    rw [sleepChecks_refused (by exact refused), completeRecord_writable (by exact writable_accepted ready rfl)] at row
    have row := exec_settled row ⟨quiet.1, quiet.2.1, quiet.2.2.1, quiet.2.2.2⟩
    obtain ⟨t, run, eq, asks⟩ := exec_asks row (List.append_assoc ..) rfl
    exact ⟨t, run, eq, asks⟩

end Sys2Proof.Machine
end

section
/-!
PROOFS. The power states that are reached (03 R49, R51, R53, R55, R58 to R61).
-/

namespace Sys2Proof.Machine

open Sys2Proof

variable {c : Instr} {s t u v x : State} {r : WakeReason}

/-! ## DOZE_QUIET -/

theorem Sense.changeState_same {old new : PowerState} (h : periodKind old = periodKind new) (n : Sense) :
    n.changeState old new = n := if_pos h

theorem dozeDrained_of (state : s.power.state = .dozeEntry ∨ s.power.state = .dozeTurning ∧ s.power.descentPending = false)
    (link : s.power.state = .dozeEntry → s.link.state = .detached ∧ s.executor.phase = .idle)
    (engine : s.panel.engine = .off) (presses : s.turn.queue = []) (idle : s.turn.state = .idle)
    (op : s.store.op = none) (erase : s.store.erase = none) (ta : s.store.ta = none) (wf : s.store.wf = none)
    (ex : s.store.ex = none) : dozeDrained s = true := by
  have quiet : (s.panel.engine == .off && turnQuiet s && arrayQuiet s) = true := by
    simp [engine, turnQuiet, presses, idle, arrayQuiet, op, erase, Store.waiting, ta, wf, ex]
  rcases state with entry | ⟨turning, calm⟩
  · obtain ⟨detached, phase⟩ := link entry
    simp [dozeDrained, quiet, entry, detached, phase]
  · simp [dozeDrained, quiet, turning, calm]

theorem reachDozeQuiet_waits (h : s.wm.state ≠ .selfRefresh) : reachDozeQuiet s = s := if_neg (by simp [h])

theorem dozeDrainCompletes (drained : dozeDrained s = true) (asked : s.power.drainAsked = false)
    (active : s.wm.state = .active) : exec .dozeDrainComplete s = commit s
      { s with
          power := { s.power with drainAsked := true }
          wm := { s.wm with state := .entering }
          store := { s.store with power := .off, idle := none } } := by
  have wm : s.wm.askSelfRefresh = { s.wm with state := .entering } := by simp [WorkMem.askSelfRefresh, active]
  have run : exec .dozeDrainComplete s = commit s
      (reachDozeQuiet (powerOffArray (askSelfRefresh (s.modPower fun p => { p with drainAsked := true })))) :=
    if_pos (by simp [drained, asked])
  have quiet : powerOffArray (askSelfRefresh (s.modPower fun p => { p with drainAsked := true })) =
      { s with
          power := { s.power with drainAsked := true }
          wm := { s.wm with state := .entering }
          store := { s.store with power := .off, idle := none } } :=
    congrArg (fun w => { s with
        power := { s.power with drainAsked := true }
        wm := w
        store := { s.store with power := .off, idle := none } }) wm
  rw [quiet, reachDozeQuiet_waits (by exact nofun)] at run
  exact run

theorem selfRefreshEntered (state : s.power.state = .dozeEntry ∨ s.power.state = .dozeTurning)
    (asked : s.power.drainAsked = true) (off : s.store.power = .off) (ready : s.wm.entryReady = true) :
    exec .selfRefreshEntry s = commit s
      { s with
          wm := { s.wm with state := .selfRefresh }
          power := { s.power with
            state := .dozeQuiet, drainAsked := false,
            dozeTimer := if s.power.state = .dozeEntry then some s.power.dozeTimeout else s.power.dozeTimer,
            wakeTimer := if s.power.state = .dozeTurning then s.power.wakeTimer
              else if s.power.wakeSetting = 0 then none else some s.power.wakeSetting } } := by
  have run : exec .selfRefreshEntry s = commit s (reachDozeQuiet (s.modWm fun w => { w with state := .selfRefresh })) :=
    if_pos ready
  have sense : s.sense.changeState s.power.state .dozeQuiet = s.sense :=
    Sense.changeState_same (by rcases state with h | h <;> rw [h] <;> rfl) _
  have reached : reachDozeQuiet (s.modWm fun w => { w with state := .selfRefresh }) =
      setPower .dozeQuiet ((s.modWm fun w => { w with state := .selfRefresh }).modPower fun p =>
        if p.state = .dozeEntry then
          { p with drainAsked := false, dozeTimer := some p.dozeTimeout,
                   wakeTimer := if p.wakeSetting = 0 then none else some p.wakeSetting }
        else { p with drainAsked := false }) := if_pos (by simp [asked, off])
  rw [run, reached]
  rcases state with h | h
  · rw [h] at sense
    by_cases wake : s.power.wakeSetting = 0 <;>
      simp [State.modWm, State.modPower, setPower, State.modSense, h, sense, wake]
  · rw [h] at sense
    simp [State.modWm, State.modPower, setPower, State.modSense, h, sense]

/-! ## DEEP -/

theorem recordWake_eq (r : WakeReason) (s : State) : recordWake r s =
    { s with
        regs := { s.regs with
          cause := s.regs.cause ||| causeBit wakeCause
          hostwake := if r = .attach then s.regs.hostwake else true }
        power := { s.power with wakeReason := r } } := by
  by_cases h : r = .attach
  · rw [if_pos h]
    exact if_pos h
  · rw [if_neg h]
    exact if_neg h

theorem deepDrained_of (state : s.power.state = .deepEntry) (link : s.link.state = .detached ∨ s.link.state = .fault)
    (free : s.link.attaching = false) (engine : s.panel.engine = .off ∨ s.panel.engine = .halted ∧ s.panel.flushed = true
      ∧ s.panel.slots = []) (idle : s.turn.state = .idle) (presses : s.turn.queue = [])
    (op : s.store.op = none) (erase : s.store.erase = none) (ta : s.store.ta = none) (wf : s.store.wf = none)
    (ex : s.store.ex = none) (phase : s.executor.phase = .idle) : deepDrained s = true := by
  have panel : panelQuiet s = true := by
    rcases engine with off | ⟨halted, flushed, slots⟩
    · simp [panelQuiet, off]
    · simp [panelQuiet, halted, flushed, slots]
  have linked : (s.link.state == .detached || s.link.state == .fault) = true := by
    rcases link with h | h <;> simp [h]
  simp [deepDrained, state, linked, free, panel, turnQuiet, presses, idle, arrayQuiet, op, erase, Store.waiting, ta, wf,
    ex, phase]

/-- The state in which DEEP is entered, once a remembered wake has been taken up (03 R58). -/
def deepReached (s : State) : State :=
  { enterDeep s with power := { (enterDeep s).power with remembered := none } }

theorem takeRemembered_none (h : s.power.remembered = none) : takeRemembered (enterDeep s) = deepReached s := by
  have none : (enterDeep s).power.remembered = none := h
  have same : { (enterDeep s).power with remembered := Option.none } = (enterDeep s).power := by rw [← none]
  rw [takeRemembered, deepReached, same, none]

theorem takeRemembered_some (h : s.power.remembered = some r) :
    takeRemembered (enterDeep s) = wakeEvent r (deepReached s) := by
  have some : (enterDeep s).power.remembered = some r := h
  rw [takeRemembered, some]
  rfl

theorem deepEntryCompletes (drained : deepDrained s = true) :
    exec .deepEntryComplete s = commit s (takeRemembered (enterDeep s)) := if_pos drained

theorem deepReached_power (s : State) : (deepReached s).power = { s.power with
    state := .deep, vddMain := false, forced := false, drainAsked := false, remembered := none,
    wakeTimer := if s.power.wakeTimer = none ∧ s.power.depth = .deep ∧ s.power.wakeSetting ≠ 0
      then some s.power.wakeSetting else s.power.wakeTimer } := by
  have timer : (if s.power.depth = .deep ∧ s.power.wakeSetting ≠ 0 then s.power.wakeTimer.or (some s.power.wakeSetting)
      else s.power.wakeTimer) = if s.power.wakeTimer = none ∧ s.power.depth = .deep ∧ s.power.wakeSetting ≠ 0
      then some s.power.wakeSetting else s.power.wakeTimer := by
    cases s.power.wakeTimer <;> simp
  rw [← timer]
  rfl

theorem deepReached_rest (s : State) (op : s.store.op = none) (erase : s.store.erase = none) :
    (deepReached s).wm.state = .unpowered ∧ (deepReached s).store.power = .off
      ∧ (∀ b, (deepReached s).store.block b = { fill := .unknown, prot := .locked })
      ∧ (deepReached s).store.array = s.store.array ∧ (deepReached s).link.state = .detached
      ∧ (deepReached s).wave.validA = false ∧ (deepReached s).wave.validB = false
      ∧ (deepReached s).panel.known = false ∧ (deepReached s).turn.entries = [] ∧ (deepReached s).light = s.light
      ∧ (deepReached s).keys = s.keys ∧ (deepReached s).shared = s.shared ∧ (deepReached s).bus = .reset := by
  have array : ({ s.store with power := .off, idle := none } : Store).abandoned = s.store.array := by
    simp [Store.abandoned, Store.abandonedOp, op, erase]
  exact ⟨rfl, rfl, fun _ => rfl, array, rfl, rfl, rfl, rfl, rfl, rfl, rfl, rfl, rfl⟩

/-! ## RUN -/

/-- RUN reached, an Attach that waits apart (03 R60, R61). -/
def running (s : State) : State :=
  if s.power.cls = .exhausted then startGrace ((setPower .run s).modLight fun l => { l with fade := false })
  else (setPower .run s).modLight fun l => { l with fade := false }

theorem reachRun_eq (s : State) :
    reachRun s = if s.regs.attachWaits then startAttach (running s) else running s := by
  have waits : (running s).regs.attachWaits = s.regs.attachWaits := by
    unfold running startGrace
    split
    · split <;> rfl
    · rfl
  rw [← waits]
  rfl

theorem wakingCompletes (waking : s.power.state = .waking) (active : s.wm.state = .active)
    (resets : s.power.resetPending = false) : exec .wakingComplete s = commit s (reachRun s) :=
  if_pos ⟨waking, active, resets⟩

theorem running_fields (s : State) : (running s).power.state = .run ∧ (running s).light = { s.light with fade := false }
    ∧ (running s).link = s.link ∧ (running s).bus = s.bus ∧ (running s).panel = s.panel ∧ (running s).turn = s.turn
    ∧ (running s).wm = s.wm ∧ (running s).store = s.store ∧ (running s).regs.anchor = s.regs.anchor := by
  unfold running startGrace
  split
  · split <;> exact ⟨rfl, rfl, rfl, rfl, rfl, rfl, rfl, rfl, rfl⟩
  · exact ⟨rfl, rfl, rfl, rfl, rfl, rfl, rfl, rfl, rfl⟩

theorem running_grace (dead : s.power.cls = .exhausted) (timer : s.power.graceTimer = none)
    (forced : s.power.forced = false) : (running s).power.graceTimer = some s.power.graceTime
      ∧ (running s).regs.cause = s.regs.cause ||| causeBit exhaustedCause := by
  have starts : running s = setCause exhaustedCause
      (((setPower .run s).modLight fun l => { l with fade := false }).modPower fun p =>
        { p with graceTimer := some p.graceTime }) :=
    (if_pos dead).trans (if_pos (by simp [setPower, timer, forced]))
  rw [starts]
  exact ⟨rfl, rfl⟩

theorem running_supplied (h : s.power.cls ≠ .exhausted) :
    (running s).power.graceTimer = s.power.graceTimer ∧ (running s).regs.cause = s.regs.cause := by
  have same : running s = (setPower .run s).modLight fun l => { l with fade := false } := if_neg h
  rw [same]
  exact ⟨rfl, rfl⟩

theorem startAttach_fields (s : State) : (startAttach s).power = s.power ∧ (startAttach s).light = s.light
    ∧ (startAttach s).regs.cause = s.regs.cause ∧ (startAttach s).panel = s.panel ∧ (startAttach s).turn = s.turn
    ∧ (startAttach s).wm = s.wm ∧ (startAttach s).store = s.store := by
  unfold startAttach
  dsimp only
  split <;> exact ⟨rfl, rfl, rfl, rfl, rfl, rfl, rfl⟩

theorem reachRun_fields (s : State) : (reachRun s).power = (running s).power ∧ (reachRun s).light = (running s).light
    ∧ (reachRun s).regs.cause = (running s).regs.cause ∧ (reachRun s).panel = (running s).panel
    ∧ (reachRun s).turn = (running s).turn ∧ (reachRun s).wm = (running s).wm
    ∧ (reachRun s).store = (running s).store := by
  rw [reachRun_eq]
  split
  · exact startAttach_fields _
  · exact ⟨rfl, rfl, rfl, rfl, rfl, rfl, rfl⟩

/-- Settles O27, state by state. -/
theorem powerStatesAreReached : Obligations.PowerStatesAreReached := by
  refine ⟨fun s state => ⟨fun link engine presses idle op erase ta wf ex asked active => ?_,
      fun asked off entering debt running waiting => ?_⟩,
    fun s state link free engine idle presses op erase ta wf ex phase => ⟨fun r remembered reaches charger => ?_,
      fun g remembered => ?_⟩,
    fun s waking active resets => ?_⟩
  · have run := dozeDrainCompletes (dozeDrained_of state link engine presses idle op erase ta wf ex) asked active
    exact (exec_asksNothing run rfl).imp fun t ⟨run, eq, _⟩ => ⟨run, eq⟩
  · have run := selfRefreshEntered (state.imp_right And.left) asked off
      (by simp [WorkMem.entryReady, entering, debt, running, waiting])
    exact (exec_asksNothing run rfl).imp fun t ⟨run, eq, _⟩ => ⟨run, eq⟩
  · have run := deepEntryCompletes (deepDrained_of state link free engine idle presses op erase ta wf ex phase)
    rw [takeRemembered_some remembered, wakeEvent_deep (deepReached s) rfl reaches fun dead =>
      charger.resolve_left fun awake => awake dead, wakeFromDeep, recordWake_eq] at run
    exact ⟨_, exec_reset run rfl rfl, rfl, rfl, rfl, rfl, rfl, rfl, rfl, rfl, rfl, rfl, rfl, rfl, rfl, rfl⟩
  · have run := deepEntryCompletes (deepDrained_of state link free engine idle presses op erase ta wf ex phase)
    obtain ⟨wm, power, blocks, array, detached, bankA, bankB, known, entries, light, keys, shared, bus⟩ :=
      deepReached_rest s op erase
    have items := deepReached_power s
    rcases remembered with ⟨none, rfl⟩ | ⟨r, some, reaches, dead, other, rfl⟩
    · rw [takeRemembered_none none] at run
      exact ⟨_, exec_reset run bus detached, items, wm, power, blocks, array, detached, bankA, bankB, known, entries, rfl,
        light, keys, shared⟩
    · have ignored : wakeEvent r (deepReached s) =
          (deepReached s).modRegs fun g => { g with attachWaits := false } := by
        have deep : (deepReached s).power.state = .deep := rfl
        have cls : (deepReached s).power.cls = .exhausted := dead
        simp [wakeEvent, deep, reaches, wakeInDeep, cls, other]
        rfl
      rw [takeRemembered_some some, ignored] at run
      exact ⟨_, exec_reset run bus detached, items, wm, power, blocks, array, detached, bankA, bankB, known, entries, rfl,
        light, keys, shared⟩
  · have run := wakingCompletes waking active resets
    obtain ⟨power, light, cause, panel, turn, wm, store⟩ := reachRun_fields s
    obtain ⟨state, fade, link, bus, panel', turn', wm', store', anchor⟩ := running_fields s
    have eq := settlePort_eq s (reachRun s)
    refine ⟨_, run, ?_, ?_, fun dead timer forced => ?_, fun supplied => ?_, fun waits detached => ?_, fun none => ?_,
      ?_, ?_, ?_, ?_⟩
    · rw [eq]; exact (congrArg Power.state power).trans state
    · rw [eq]; exact light.trans fade
    · obtain ⟨grace, exhausted⟩ := running_grace dead timer forced
      rw [eq]; exact ⟨(congrArg Power.graceTimer power).trans grace, cause.trans exhausted⟩
    · obtain ⟨grace, kept⟩ := running_supplied supplied
      rw [eq]; exact ⟨(congrArg Power.graceTimer power).trans grace, cause.trans kept⟩
    · have attaches : reachRun s = enqueue (.anchorRead s.regs.anchor)
          (((running s).modRegs fun r => { r with attachWaits := false }).modLink fun l =>
            { l with state := .detached, attaching := true }) := by
        rw [reachRun_eq, if_pos waits, startAttach_free (.inl (by rw [link]; exact detached)), anchor]
      rw [attaches]
      refine ⟨?_, ?_, ?_⟩
      · rw [settlePort_eq]; rfl
      · exact settlePort_asked (congrArg (fun b : Bus => b.queue ++ [.anchorRead s.regs.anchor]) bus)
          (congrArg Bus.transfers bus : (running s).bus.transfers = s.bus.transfers)
      · rw [settlePort_eq]; rfl
    · have stays : reachRun s = running s := by rw [reachRun_eq, none]; rfl
      rw [stays]
      refine ⟨?_, settlePort_asked (by rw [bus, List.append_nil]) (congrArg Bus.transfers bus)⟩
      rw [settlePort_eq]
      exact link
    · rw [eq]; exact panel.trans panel'
    · rw [eq]; exact turn.trans turn'
    · rw [eq]; exact wm.trans wm'
    · rw [eq]; exact store.trans store'

end Sys2Proof.Machine
end

section
/-!
PROOFS. What the Store Controller's arbiter does at the end of a step (09 R167, R179, R180), one equation per case.
-/

namespace Sys2Proof.Machine

open Sys2Proof

variable {s t u v : State} {p n : Nat} {r : ExRequest} {o : ArrayOp} {e : Erase}

theorem Store.waiting_iff {st : Store} : st.waiting = true ↔ st.ta ≠ none ∨ st.wf ≠ none ∨ st.ex ≠ none := by
  simp [Store.waiting, Option.isSome_iff_ne_none, or_assoc]

theorem Store.waiting_none {st : Store} (ta : st.ta = none) (wf : st.wf = none) (ex : st.ex = none) :
    st.waiting = false := by
  simp [Store.waiting, ta, wf, ex]

/-! ## An array that is OFF or powers up -/

theorem serveOnce_poweringUp (h : s.store.power = .poweringUp) : serveOnce s = s := by
  simp only [serveOnce, h]

theorem serveStore_poweringUp (h : s.store.power = .poweringUp) : serveStore s = s := by
  rw [serveStore, serveOnce_poweringUp h, serveOnce_poweringUp h]

theorem serveOnce_off (off : s.store.power = .off) (none : s.store.waiting = false) : serveOnce s = s := by
  simp only [serveOnce, off, none, Bool.false_eq_true, if_false]

theorem serveStore_off (off : s.store.power = .off) (none : s.store.waiting = false) : serveStore s = s := by
  rw [serveStore, serveOnce_off off none, serveOnce_off off none]

/-- The first request at an OFF array powers it up (R167). -/
theorem serveStore_powersUp (off : s.store.power = .off) (waits : s.store.waiting = true)
    (calm : s.power.drainAsked = false) : serveStore s =
      { s with store := { s.store with power := .poweringUp, idle := none } } := by
  have once : serveOnce s = s.modStore fun st => { st with power := .poweringUp, idle := none } := by
    simp only [serveOnce, off, waits, if_true]
    exact if_neg (by simp [calm])
  rw [serveStore, once]
  exact serveOnce_poweringUp rfl

/-! ## An array that is ON -/

theorem serveOnce_busy (on : s.store.power = .on) (op : s.store.op ≠ none) : serveOnce s = s := by
  simp only [serveOnce, on, Option.isSome_iff_ne_none.mpr op, if_true]

theorem serveStore_busy (on : s.store.power = .on) (op : s.store.op ≠ none) : serveStore s = s := by
  rw [serveStore, serveOnce_busy on op, serveOnce_busy on op]

theorem serveOnce_free (on : s.store.power = .on) (op : s.store.op = none) (erase : s.store.erase = none) :
    serveOnce s = chooseOperation s := by
  simp only [serveOnce, on, op, erase, Option.isSome_none, Bool.false_eq_true, if_false]

theorem serveOnce_erasing (on : s.store.power = .on) (op : s.store.op = none) (erase : s.store.erase = some e) :
    serveOnce s = chooseDuringErase e s := by
  simp only [serveOnce, on, op, erase, Option.isSome_none, Bool.false_eq_true, if_false]

theorem grantTurn_eq (p : Nat) (s : State) : grantTurn p s =
    { s with
        store := { s.store with op := some (.read .turnAhead p false), idle := none, ta := nextTurnPage s.turn }
        turn := turnAsked s.turn } := by
  by_cases more : s.turn.state = .reading ∧ s.turn.nextPage < s.turn.extentCount
  · have next : nextTurnPage s.turn = some (s.turn.extentFirst + s.turn.nextPage) := if_pos more
    rw [turnAsked, next]
    exact if_pos more
  · have next : nextTurnPage s.turn = none := if_neg more
    rw [turnAsked, next]
    exact if_neg more

theorem grantWave_eq (p : Nat) (s : State) : grantWave p s =
    { s with store := { s.store with op := some (.read .waveform p false), idle := none, wf := none } } := rfl

/-- The Turn-Ahead reader is granted first (R179). -/
theorem serveStore_turn (on : s.store.power = .on) (op : s.store.op = none) (erase : s.store.erase = none)
    (ta : s.store.ta = some p) : serveStore s = grantTurn p s := by
  have once : serveOnce s = grantTurn p s := by
    rw [serveOnce_free on op erase]
    simp only [chooseOperation, ta]
  rw [serveStore, once, grantTurn_eq]
  exact serveOnce_busy on nofun

/-- The Waveform Loader is granted next (R179). -/
theorem serveStore_wave (on : s.store.power = .on) (op : s.store.op = none) (erase : s.store.erase = none)
    (ta : s.store.ta = none) (wf : s.store.wf = some p) : serveStore s = grantWave p s := by
  have once : serveOnce s = grantWave p s := by
    rw [serveOnce_free on op erase]
    simp only [chooseOperation, ta, wf]
  rw [serveStore, once]
  exact serveOnce_busy on nofun

/-- The executor is granted where no other client waits (R179). -/
theorem serveStore_executor (on : s.store.power = .on) (op : s.store.op = none) (erase : s.store.erase = none)
    (ta : s.store.ta = none) (wf : s.store.wf = none) (ex : s.store.ex = some r) :
    serveStore s = serveOnce (grantExecutor r s) := by
  rw [serveStore, serveOnce_free on op erase]
  simp only [chooseOperation, ta, wf, ex]

theorem chooseOperation_idle (ta : s.store.ta = none) (wf : s.store.wf = none) (ex : s.store.ex = none) :
    chooseOperation s = s.modStore fun st => { st with idle := st.idle.or (some st.idleTime) } := by
  simp only [chooseOperation, ta, wf, ex]

/-- With nothing waiting the idle timer runs (R167). -/
theorem serveOnce_idle (on : s.store.power = .on) (op : s.store.op = none) (erase : s.store.erase = none)
    (ta : s.store.ta = none) (wf : s.store.wf = none) (ex : s.store.ex = none) :
    serveOnce s = { s with store := { s.store with idle := s.store.idle.or (some s.store.idleTime) } } := by
  rw [serveOnce_free on op erase, chooseOperation_idle ta wf ex]
  rfl

theorem serveStore_idle (on : s.store.power = .on) (op : s.store.op = none) (erase : s.store.erase = none)
    (ta : s.store.ta = none) (wf : s.store.wf = none) (ex : s.store.ex = none) :
    serveStore s = { s with store := { s.store with idle := s.store.idle.or (some s.store.idleTime) } } := by
  have twice : (s.store.idle.or (some s.store.idleTime)).or (some s.store.idleTime) =
      s.store.idle.or (some s.store.idleTime) := by
    cases s.store.idle <;> rfl
  rw [serveStore, serveOnce_idle on op erase ta wf ex]
  refine Eq.trans (serveOnce_idle ?_ ?_ ?_ ?_ ?_ ?_) (congrArg (fun x =>
    { s with store := { s.store with idle := x } }) twice)
  · exact on
  · exact op
  · exact erase
  · exact ta
  · exact wf
  · exact ex

/-! ## The executor's grants (R176, R177) -/

theorem grantExecutor_launches (on : s.store.power = .on) (h : grantExecutor r s =
    s.modStore fun st => { st with ex := none }.launch o) : serveOnce (grantExecutor r s) =
      { s with store := { s.store with op := some o, idle := none, ex := none } } := by
  rw [h]
  exact serveOnce_busy on nofun

end Sys2Proof.Machine
end

section
/-!
PROOFS. Inputs and presses (07, sections 7.1 to 7.3, R134 to R136; 03 R52, R56, R57, R59).
-/

namespace Sys2Proof.Machine

open Sys2Proof

variable {c : Instr} {s t u v : State} {i : InputId} {level : Bool} {r : WakeReason} {k : TurnKey}

/-! ## Inputs -/

theorem Keys.input_setInput_same (k : Keys) (i : InputId) (x : InputState) : (k.setInput i x).input i = x := by
  cases i <;> rfl

theorem Keys.input_setInput_other {i j : InputId} (k : Keys) (h : j ≠ i) (x : InputState) :
    (k.setInput i x).input j = k.input j := by
  cases i <;> cases j <;> first | rfl | exact absurd rfl h

theorem Keys.setInput_counts (k : Keys) (i : InputId) (x : InputState) :
    (k.setInput i x).countFwd = k.countFwd ∧ (k.setInput i x).countBack = k.countBack
      ∧ (k.setInput i x).countMenu = k.countMenu ∧ (k.setInput i x).countPower = k.countPower := by
  cases i <;> exact ⟨rfl, rfl, rfl, rfl⟩

/-- Where a change of a debounced state is handed on to (07 R127, R128; 03 R56). -/
def handedOn (i : InputId) (level : Bool) (u : State) : State :=
  match i with
  | .fwd     => if level then routeTurn .fwd .fwd u else u
  | .back    => if level then routeTurn .back .back u else u
  | .menu    => if level then wakeEvent .menu u else u
  | .power   => if level then wakeEvent .power u else u
  | .cover   => if level then coverClosed u else wakeEvent .coverOpen u
  | .charger => if level then wakeEvent .charger u else u

/-- The debounced state changed (07 R125). -/
def debounced (i : InputId) (level : Bool) (s : State) : State :=
  s.modKeys fun k => k.setInput i { s.keys.input i with debounced := level, settled := true, measuring := none }

theorem restartDoze_eq (s : State) : restartDoze s =
    { s with power := { s.power with dozeTimer := s.power.dozeTimer.map fun _ => s.power.dozeTimeout } } := by
  cases timer : s.power.dozeTimer with
  | none =>
    have same : { s.power with dozeTimer := Option.none } = s.power := by rw [← timer]
    rw [Option.map_none, same]
    simp [restartDoze, State.modPower, timer]
  | some n => simp [restartDoze, State.modPower, timer]

theorem pressFound_eq (i : InputId) (s : State) : pressFound i s =
    { s with
        keys := s.keys.count i
        power := { s.power with dozeTimer := s.power.dozeTimer.map fun _ => s.power.dozeTimeout }
        regs := { s.regs with
          cause := s.regs.cause ||| if s.power.state = .run then causeBit keyCause else 0#13 } } := by
  unfold pressFound
  rw [restartDoze_eq]
  by_cases run : s.power.state = .run
  · rw [if_pos run]
    exact if_pos run
  · rw [if_neg run, BitVec.or_zero]
    exact if_neg run

theorem foundState_press (h : isKeyInput i = true) : foundState i true s = pressFound i (debounced i true s) := by
  rw [pressFound_eq]
  by_cases run : s.power.state = .run
  · cases i with
    | cover => cases h
    | charger => cases h
    | _ => simp [foundState, isKeyInput, debounced, State.modKeys, Keys.count, Keys.setInput, run]
  · cases i with
    | cover => cases h
    | charger => cases h
    | _ => simp [foundState, isKeyInput, debounced, State.modKeys, Keys.count, Keys.setInput, run]

theorem foundState_release (h : i ≠ .cover) : foundState i false s = debounced i false s := by
  cases i with
  | cover => exact absurd rfl h
  | _ => simp [foundState, debounced, State.modKeys, Keys.setInput]

theorem foundState_charger : foundState .charger true s = debounced .charger true s := by
  simp [foundState, isKeyInput, debounced, State.modKeys, Keys.setInput]

theorem foundState_cover : foundState .cover level s =
    if s.power.state = .run then setCause coverCause (debounced .cover level s) else debounced .cover level s := by
  by_cases run : s.power.state = .run
  · simp [foundState, isKeyInput, debounced, State.modKeys, Keys.setInput, if_pos run, setCause, State.modRegs]
  · simp [foundState, isKeyInput, debounced, State.modKeys, Keys.setInput, if_neg run]

theorem inputFound_eq (i : InputId) (level : Bool) (s : State) :
    inputFound i level (debounced i level s) = handedOn i level (foundState i level s) := by
  cases i with
  | cover => rw [foundState_cover]; rfl
  | charger =>
    cases level
    · rw [foundState_release (by simp)]; rfl
    · rw [foundState_charger]; rfl
  | _ =>
    cases level
    · rw [foundState_release (by simp)]; rfl
    · rw [foundState_press rfl]; rfl

/-- The step at which a change of a debounced state is found. -/
theorem changeFound (h : Found i level s) :
    exec (.debounceEnd i) s = commit s (settleAll (handedOn i level (foundState i level s))) := by
  obtain ⟨measuring, settled, before⟩ := h
  have changed : ((s.keys.input i).settled && (s.keys.input i).debounced != level) = true := by
    simp [settled, before]
  have run : exec (.debounceEnd i) s = commit s (settleAll (inputFound i level (debounced i level s))) := by
    simp only [exec, execDebounceEnd, measuring]
    exact if_pos changed
  rw [run, inputFound_eq]

theorem foundState_quiet (h : Quiet s) : Quiet (foundState i level s) :=
  ⟨h.1, h.2.1, h.2.2.1, h.2.2.2⟩

theorem foundState_regs (h : s.power.state ≠ .run) : (foundState i level s).regs = s.regs := by
  simp [foundState, h]

/-- A change that is handed to nobody. -/
theorem changeFound_kept (h : Found i level s) (quiet : Quiet s)
    (kept : handedOn i level (foundState i level s) = foundState i level s) :
    ∃ t, exec (.debounceEnd i) s = .next t ∧ t = { foundState i level s with bus := t.bus } := by
  have run := changeFound h
  rw [kept] at run
  have run := exec_settled run (foundState_quiet quiet)
  exact (exec_asksNothing run rfl).imp fun t ⟨run, eq, _⟩ => ⟨run, eq⟩

theorem inDoze_not {p : PowerState} (h : InDoze s) (hp : p = .run ∨ p = .waking ∨ p = .deepEntry ∨ p = .deep) :
    s.power.state ≠ p := by
  rcases h with h | h | h <;> rw [h] <;> rcases hp with rfl | rfl | rfl | rfl <;> nofun

/-- The changes that the power states hand to nobody. -/
def HandedToNobody (i : InputId) (level : Bool) (s : State) : Prop :=
  (level = false ∧ i ≠ .cover) ∨ (i = .menu ∧ ¬ InDoze s)
    ∨ ((i = .power ∨ i = .charger) ∧ (s.power.state = .run ∨ s.power.state = .waking))
    ∨ ((i = .fwd ∨ i = .back) ∧ (s.power.state = .deepEntry ∨ s.power.state = .deep
        ∨ ((s.power.state = .run ∨ s.power.state = .waking) ∧ s.turn.armed = false)))
    ∨ (i = .cover ∧ (s.power.state = .run ∨ s.power.state = .waking
        ∨ (InDoze s ∧ (level = false ∨ s.power.coverAction = .none))
        ∨ (level = true ∧ (s.power.state = .deepEntry ∨ s.power.state = .deep))))

theorem wakeEvent_awake (s : State) (h : s.power.state = .run ∨ s.power.state = .waking) : wakeEvent r s = s := by
  rcases h with h | h <;> simp only [wakeEvent, h]

theorem wakeEvent_coverOpen (s : State) (h : InDoze s) (calm : s.power.descentPending = false) :
    wakeEvent .coverOpen s = s := by
  rcases h with h | h | h <;> simp [wakeEvent, h, calm]

theorem wakeEvent_menu (s : State) (h : ¬ InDoze s) : wakeEvent .menu s = s := by
  cases p : s.power.state <;> simp_all [wakeEvent, rememberWake, WakeReason.reachesDeep]

theorem routeTurn_deep (s : State) (h : s.power.state = .deepEntry ∨ s.power.state = .deep) : routeTurn k r s = s := by
  rcases h with h | h <;> simp only [routeTurn, h]

theorem routeTurn_disarmed (s : State) (h : s.power.state = .run ∨ s.power.state = .waking)
    (disarmed : s.turn.armed = false) : routeTurn k r s = s := by
  rcases h with h | h <;> simp [routeTurn, h, disarmed]

theorem coverClosed_kept (s : State) (h : ¬ InDoze s ∨ s.power.coverAction = .none) : coverClosed s = s := by
  refine if_neg ?_
  rcases h with h | h
  · cases p : s.power.state <;> simp_all [PowerState.isDoze]
  · simp [h]

theorem handedOn_nobody (u : State) (h : HandedToNobody i level u) (calm : u.power.descentPending = false) :
    handedOn i level u = u := by
  rcases h with ⟨rfl, other⟩ | ⟨rfl, awake⟩ | ⟨named, awake⟩ | ⟨named, elsewhere⟩ | ⟨rfl, state⟩
  · cases i <;> first | rfl | exact absurd rfl other
  · unfold handedOn
    exact ite_eq_right_iff.mpr fun _ => wakeEvent_menu u awake
  · rcases named with rfl | rfl <;> exact ite_eq_right_iff.mpr fun _ => wakeEvent_awake u awake
  · have kept (k : TurnKey) (r : WakeReason) : routeTurn k r u = u := by
      rcases elsewhere with deep | deep | ⟨awake, disarmed⟩
      · exact routeTurn_deep u (.inl deep)
      · exact routeTurn_deep u (.inr deep)
      · exact routeTurn_disarmed u awake disarmed
    rcases named with rfl | rfl <;> exact ite_eq_right_iff.mpr fun _ => kept _ _
  · have split (close : level = true → coverClosed u = u) (opens : level = false → wakeEvent .coverOpen u = u) :
        handedOn .cover level u = u := by
      cases level
      · exact opens rfl
      · exact close rfl
    rcases state with run | waking | ⟨doze, off | none⟩ | ⟨on, deep⟩
    · exact split (fun _ => coverClosed_kept u (.inl fun doze => inDoze_not doze (.inl rfl) run))
        fun _ => wakeEvent_awake u (.inl run)
    · exact split (fun _ => coverClosed_kept u (.inl fun doze => inDoze_not doze (.inr (.inl rfl)) waking))
        fun _ => wakeEvent_awake u (.inr waking)
    · exact split (fun on => absurd (on.symm.trans off) nofun) fun _ => wakeEvent_coverOpen u doze calm
    · exact split (fun _ => coverClosed_kept u (.inr none)) fun _ => wakeEvent_coverOpen u doze calm
    · refine split (fun _ => coverClosed_kept u (.inl fun doze => ?_)) fun off => absurd (on.symm.trans off) nofun
      rcases deep with entry | deep
      · exact inDoze_not doze (.inr (.inr (.inl rfl))) entry
      · exact inDoze_not doze (.inr (.inr (.inr rfl))) deep

/-! ## Wakes -/

/-- The presses and the connection that are wakes in the DOZE states (R127; 03 R52). -/
def WakesDoze (i : InputId) (r : WakeReason) (s : State) : Prop :=
  (i = .menu ∧ r = .menu) ∨ (i = .power ∧ r = .power) ∨ (i = .charger ∧ r = .charger)
    ∨ (i = .fwd ∧ s.turn.armed = false ∧ r = .fwd) ∨ (i = .back ∧ s.turn.armed = false ∧ r = .back)

theorem routeTurn_wakes (u : State) (doze : InDoze u) (disarmed : u.turn.armed = false) :
    routeTurn k r u = wakeEvent r u := by
  rcases doze with h | h | h <;> simp [routeTurn, h, disarmed]

theorem handedOn_wakes (u : State) (doze : InDoze u) (calm : u.power.descentPending = false) (h : WakesDoze i r u) :
    handedOn i true u = wakingFromDoze r u ∧ r ≠ .engineReset ∧ r ≠ .attach := by
  have woken (r : WakeReason) (apart : r ≠ .coverOpen ∧ r ≠ .engineReset) : wakeEvent r u = wakingFromDoze r u := by
    rw [wakeEvent_doze u doze calm apart.1, wakeFromDoze_eq, if_neg (by simp [apart.2])]
  rcases h with ⟨rfl, rfl⟩ | ⟨rfl, rfl⟩ | ⟨rfl, rfl⟩ | ⟨rfl, disarmed, rfl⟩ | ⟨rfl, disarmed, rfl⟩
  · exact ⟨woken _ ⟨nofun, nofun⟩, nofun, nofun⟩
  · exact ⟨woken _ ⟨nofun, nofun⟩, nofun, nofun⟩
  · exact ⟨woken _ ⟨nofun, nofun⟩, nofun, nofun⟩
  · exact ⟨(routeTurn_wakes u doze disarmed).trans (woken _ ⟨nofun, nofun⟩), nofun, nofun⟩
  · exact ⟨(routeTurn_wakes u doze disarmed).trans (woken _ ⟨nofun, nofun⟩), nofun, nofun⟩

theorem wakingFromDoze_quiet (r : WakeReason) (h : Quiet u) : Quiet (wakingFromDoze r u) := by
  rw [wakingFromDoze_eq]
  exact ⟨h.1, h.2.1, h.2.2.1, h.2.2.2⟩

/-- The wakes of DEEP_ENTRY and DEEP that the inputs make (03 R57, R59). -/
def WakesDeep (i : InputId) (level : Bool) (r : WakeReason) : Prop :=
  (i = .power ∧ level = true ∧ r = .power) ∨ (i = .cover ∧ level = false ∧ r = .coverOpen)
    ∨ (i = .charger ∧ level = true ∧ r = .charger)

theorem handedOn_deep (u : State) (h : WakesDeep i level r) :
    handedOn i level u = wakeEvent r u ∧ r.reachesDeep = true ∧ r ≠ .attach := by
  rcases h with ⟨rfl, rfl, rfl⟩ | ⟨rfl, rfl, rfl⟩ | ⟨rfl, rfl, rfl⟩ <;> exact ⟨rfl, rfl, nofun⟩

theorem wakeEvent_ignored (s : State) (deep : s.power.state = .deep) (reaches : r.reachesDeep = true)
    (dead : s.power.cls = .exhausted) (other : r ≠ .charger) : wakeEvent r s =
      { s with power := { s.power with remembered := none }, regs := { s.regs with attachWaits := false } } := by
  have taken : wakeEvent r s = wakeInDeep r s := by simp only [wakeEvent, deep, reaches, if_true]
  rw [taken, wakeInDeep, if_pos ⟨dead, other⟩]
  rfl

theorem wakeEvent_remembered (s : State) (h : s.power.state = .deepEntry) (reaches : r.reachesDeep = true) :
    wakeEvent r s = { s with power := { s.power with remembered := s.power.remembered.or (some r) } } :=
  (wakeEvent_deepEntry s h).trans (if_pos reaches)

/-! ## Presses for the Turn-Ahead Unit -/

/-- What follows a step while no update is pending or offered and no descent waits: the press at the head. -/
theorem settleAll_head (pending : s.panel.pending = []) (turn : s.turn.state ≠ .offering)
    (calm : s.power.descentPending = false) : settleAll s = considerHead s := by
  have descent : finishDescent s = s := by simp [finishDescent, calm]
  rw [settleAll, descent, settlePanel_quiet pending turn]

theorem considerHead_busy (h : s.turn.state ≠ .idle) : considerHead s = s := by
  unfold considerHead
  rw [if_neg (by rintro ⟨idle, -⟩; exact h idle)]

/-- Turns can start: the unit is IDLE with no TURN_LOAD and no clearing TURN_ARM under way, and a press is at the head
(R131, R133, R134). -/
structure HeadWaits (k : TurnKey) (s : State) : Prop where
  idle  : s.turn.state = .idle
  load  : s.turn.load = none
  arm   : s.turn.arm = none
  press : ∃ l, s.turn.queue = k :: l

theorem considerHead_starts {n : Nat} {e : TurnEntry} {f : Frame} (h : HeadWaits k s) (target : s.turn.targetOf k = some n)
    (entry : s.turn.entries[n]? = some e) (good : e.bad = false) (mode : modeInForce e.mode s = true)
    (frame : s.turn.takeFrame = some f) : considerHead s = startTurn k n e f s := by
  obtain ⟨idle, load, arm, l, press⟩ := h
  simp [considerHead, idle, load, arm, press, target, entry, good, mode, frame]

theorem considerHead_waits {n : Nat} {e : TurnEntry} (h : HeadWaits k s) (target : s.turn.targetOf k = some n)
    (entry : s.turn.entries[n]? = some e) (good : e.bad = false) (mode : modeInForce e.mode s = true)
    (frame : s.turn.takeFrame = none) : considerHead s = s := by
  obtain ⟨idle, load, arm, l, press⟩ := h
  simp [considerHead, idle, load, arm, press, target, entry, good, mode, frame]

theorem considerHead_ends (h : HeadWaits k s) (target : s.turn.targetOf k = none) :
    considerHead s = discardPresses turnEndCause .turnEnd s := by
  obtain ⟨idle, load, arm, l, press⟩ := h
  simp [considerHead, idle, load, arm, press, target]

theorem considerHead_fails {n : Nat} {e : TurnEntry} (h : HeadWaits k s) (target : s.turn.targetOf k = some n)
    (entry : s.turn.entries[n]? = some e) (bad : e.bad = true ∨ modeInForce e.mode s = false) :
    considerHead s = discardPresses turnErrorCause .turnError s := by
  obtain ⟨idle, load, arm, l, press⟩ := h
  have fails : (e.bad || !modeInForce e.mode s) = true := by rcases bad with h | h <;> simp [h]
  simp [considerHead, idle, load, arm, press, target, entry, fails]

/-- The place that a press names (R134). -/
def Named (t : Turn) (k : TurnKey) (n : Nat) : Prop :=
  (k = .fwd ∧ n = t.cursor + 1) ∨ (k = .back ∧ t.cursor = n + 1)

theorem Turn.targetOf_named {t : Turn} {n : Nat} (h : Named t k n) (inside : n < t.entries.length) :
    t.targetOf k = some n := by
  rcases h with ⟨rfl, rfl⟩ | ⟨rfl, cursor⟩
  · exact if_pos inside
  · exact (if_pos (by omega)).trans (congrArg some (by omega))

theorem routeTurn_joins (u : State) (armed : u.turn.armed = true) (state : u.power.state ≠ .deepEntry ∧
    u.power.state ≠ .deep) : routeTurn k r u = joinQueue k u := by
  cases p : u.power.state <;> simp_all [routeTurn]

theorem joinQueue_full (full : 4 ≤ u.turn.queue.length) : joinQueue k u = u :=
  if_pos (by simp [Config.keyQueueCapacity, full])

theorem joinQueue_joins (room : u.turn.queue.length < 4) (calm : u.power.descentPending = false)
    (asked : u.power.drainAsked = false) (state : u.power.state ≠ .dozeQuiet) :
    joinQueue k u = u.modTurn fun x => { x with queue := x.queue ++ [k] } := by
  have kept : withdrawDrain (u.modTurn fun x => { x with queue := x.queue ++ [k] }) =
      u.modTurn fun x => { x with queue := x.queue ++ [k] } := if_neg (by simp [asked])
  unfold joinQueue
  rw [if_neg (by simp [Config.keyQueueCapacity, calm, show ¬ 4 ≤ u.turn.queue.length by omega]), kept]
  exact if_neg state

/-- A press that joins in DOZE_QUIET takes the part to DOZE_TURNING (03 R51). -/
theorem joinQueue_dozeQuiet (room : u.turn.queue.length < 4) (calm : u.power.descentPending = false)
    (asked : u.power.drainAsked = false) (state : u.power.state = .dozeQuiet) : joinQueue k u =
      { u with
          wm := u.wm.leave
          power := { u.power with state := .dozeTurning }
          turn := { u.turn with queue := u.turn.queue ++ [k] } } := by
  have kept : withdrawDrain (u.modTurn fun x => { x with queue := x.queue ++ [k] }) =
      u.modTurn fun x => { x with queue := x.queue ++ [k] } := if_neg (by simp [asked])
  have sense : u.sense.changeState u.power.state .dozeTurning = u.sense := Sense.changeState_same (by rw [state]; rfl) _
  unfold joinQueue
  rw [if_neg (by simp [Config.keyQueueCapacity, calm, show ¬ 4 ≤ u.turn.queue.length by omega]), kept]
  refine (if_pos state).trans ?_
  rw [setPower, leaveSelfRefresh]
  exact congrArg (fun n => { u with
    sense := n
    wm := u.wm.leave
    power := { u.power with state := .dozeTurning }
    turn := { u.turn with queue := u.turn.queue ++ [k] } }) sense

theorem handedOn_turn (u : State) (h : (i = .fwd ∧ k = .fwd) ∨ (i = .back ∧ k = .back))
    (armed : u.turn.armed = true) (state : u.power.state ≠ .deepEntry ∧ u.power.state ≠ .deep) :
    handedOn i true u = joinQueue k u := by
  rcases h with ⟨rfl, rfl⟩ | ⟨rfl, rfl⟩
  · exact routeTurn_joins u armed state
  · exact routeTurn_joins u armed state

/-- A turn starts while the array is OFF: its first page powers the array up (R136, R137; 09 R167). -/
theorem startTurn_off (key : TurnKey) (n : Nat) (e : TurnEntry) (f : Frame) (off : s.store.power = .off)
    (asked : s.power.drainAsked = false) : startTurn key n e f s =
      { s with
          turn := { s.turn.setFrame f .filling with
            queue := s.turn.queue.tail, target := n, extentFirst := e.block * 64 + e.first, extentCount := e.count,
            mode := e.mode, key := key, frame := f, state := .reading, nextPage := 1, written := 0, arrived := [] }
          store := { s.store with power := .poweringUp, idle := none, ta := some (e.block * 64 + e.first) } } := by
  unfold startTurn
  refine Eq.trans (serveStore_powersUp ?_ (Store.waiting_iff.mpr (.inl ?_)) ?_) ?_
  · exact off
  · exact nofun
  · exact asked
  · cases f <;> rfl

theorem discardPresses_awake (cause : Cause) (r : WakeReason) (h : s.power.state = .run ∨ s.power.state = .waking) :
    discardPresses cause r s =
      { s with
          turn := { s.turn with queue := [] }
          regs := { s.regs with cause := s.regs.cause ||| causeBit cause } } := by
  exact wakeEvent_awake (setCause cause (s.modTurn fun t => { t with queue := [] })) h

theorem discardPresses_doze (cause : Cause) (doze : InDoze s) (calm : s.power.descentPending = false)
    (apart : r ≠ .coverOpen ∧ r ≠ .engineReset) : discardPresses cause r s =
      wakingFromDoze r { s with
        turn := { s.turn with queue := [] }
        regs := { s.regs with cause := s.regs.cause ||| causeBit cause } } := by
  rw [discardPresses, wakeEvent_doze (setCause cause (s.modTurn fun t => { t with queue := [] })) doze calm apart.1,
    wakeFromDoze_eq, if_neg (by simp [apart.2])]
  rfl

/-! ## The statement, clause by clause -/

theorem inputChanged (h : (s.keys.input i).level ≠ level) : ∃ t, exec (.inputChange i level) s = .next t
    ∧ t = { s with bus := t.bus, keys := s.keys.setInput i { s.keys.input i with
        level := level, measuring :=
          if (s.keys.input i).settled = true ∧ (s.keys.input i).debounced = level then none else some level } }
    ∧ ∀ j, j ≠ i → t.keys.input j = s.keys.input j := by
  have changed : (s.keys.input i).change level = { s.keys.input i with
      level := level, measuring :=
        if (s.keys.input i).settled = true ∧ (s.keys.input i).debounced = level then none else some level } := by
    have same : ((s.keys.input i).settled && level == (s.keys.input i).debounced) =
        decide ((s.keys.input i).settled = true ∧ (s.keys.input i).debounced = level) := by
      rw [Bool.eq_iff_iff, Bool.and_eq_true, beq_iff_eq, decide_eq_true_iff, eq_comm (a := level)]
    rw [InputState.change, if_neg h, same]
    simp only [decide_eq_true_eq]
  have run : exec (.inputChange i level) s = commit s (s.modKeys fun k => k.setInput i ((k.input i).change level)) := rfl
  obtain ⟨t, run, eq, -⟩ := exec_asksNothing run rfl
  refine ⟨t, run, eq.trans (by rw [← changed]; rfl), fun j other => ?_⟩
  rw [congrArg State.keys eq]
  exact Keys.input_setInput_other _ other _

theorem readingSettled (measuring : (s.keys.input i).measuring = some level)
    (same : (s.keys.input i).settled = false ∨ (s.keys.input i).debounced = level) :
    exec (.debounceEnd i) s = commit s (debounced i level s) := by
  have kept : ((s.keys.input i).settled && (s.keys.input i).debounced != level) = false := by
    rcases same with h | h <;> simp [h]
  simp only [exec, execDebounceEnd, measuring]
  exact if_neg (by simp [kept])

theorem foundState_wakes (found : Found i true s) (quiet : Quiet s) (doze : InDoze s) (h : WakesDoze i r s) :
    ∃ t, exec (.debounceEnd i) s = .next t
      ∧ t = { wakingFromDoze r (foundState i true s) with bus := t.bus } ∧ r ≠ .engineReset ∧ r ≠ .attach := by
  have run := changeFound found
  obtain ⟨woken, apart⟩ := handedOn_wakes (foundState i true s) doze quiet.2.2.2 h
  rw [woken] at run
  have run := exec_settled run (wakingFromDoze_quiet r (foundState_quiet quiet))
  exact ⟨_, run, settlePort_eq _ _, apart⟩

/-- A press that joins the queue while a turn reads its extent goes no further (R129, R134). -/
theorem pressJoins {i : InputId} (found : Found i true s) (h : (i = .fwd ∧ k = .fwd) ∨ (i = .back ∧ k = .back))
    (armed : s.turn.armed = true) (pending : s.panel.pending = []) (calm : s.power.descentPending = false)
    (asked : s.power.drainAsked = false) (reading : s.turn.state = .reading)
    (state : s.power.state = .run ∨ s.power.state = .waking ∨ s.power.state = .dozeEntry
      ∨ s.power.state = .dozeTurning) : ∃ t, exec (.debounceEnd i) s = .next t
      ∧ t = { foundState i true s with bus := t.bus, turn := { s.turn with
          queue := if s.turn.queue.length < 4 then s.turn.queue ++ [k] else s.turn.queue } } := by
  have run := changeFound found
  have awake : s.power.state ≠ .deepEntry ∧ s.power.state ≠ .deep ∧ s.power.state ≠ .dozeQuiet := by
    rcases state with h | h | h | h <;> rw [h] <;> exact ⟨nofun, nofun, nofun⟩
  have joined : joinQueue k (foundState i true s) = (foundState i true s).modTurn fun x =>
      { x with queue := if s.turn.queue.length < 4 then s.turn.queue ++ [k] else s.turn.queue } := by
    by_cases room : s.turn.queue.length < 4
    · rw [if_pos room]
      exact joinQueue_joins room calm asked awake.2.2
    · rw [if_neg room]
      exact joinQueue_full (by exact Nat.le_of_not_lt room)
  rw [handedOn_turn (foundState i true s) h armed ⟨awake.1, awake.2.1⟩, joined] at run
  have quiet := settleAll_head (s := (foundState i true s).modTurn fun x =>
      { x with queue := if s.turn.queue.length < 4 then s.turn.queue ++ [k] else s.turn.queue })
    pending (by exact fun h => absurd (reading.symm.trans h) nofun) calm
  rw [quiet, considerHead_busy (by exact fun h => absurd (reading.symm.trans h) nofun)] at run
  exact (exec_asksNothing run rfl).imp fun t ⟨run, eq, _⟩ => ⟨run, eq⟩

/-- The state in which a press stands alone at the head of the queue (03 R51; R129). -/
def headPressed (k : TurnKey) (u : State) : State :=
  { u with
      wm := if u.power.state = .dozeQuiet then u.wm.leave else u.wm
      power := { u.power with state := if u.power.state = .dozeQuiet then .dozeTurning else u.power.state }
      turn := { u.turn with queue := [k] } }

theorem joinQueue_first (u : State) (presses : u.turn.queue = []) (calm : u.power.descentPending = false)
    (asked : u.power.drainAsked = false) : joinQueue k u = headPressed k u := by
  have room : u.turn.queue.length < 4 := by rw [presses]; decide
  by_cases state : u.power.state = .dozeQuiet
  · rw [joinQueue_dozeQuiet room calm asked state, headPressed, if_pos state, if_pos state, presses]
    rfl
  · rw [joinQueue_joins room calm asked state, headPressed, if_neg state, if_neg state, State.modTurn, presses]
    rfl

theorem headPressed_inForce (m : Mode) (u : State) : modeInForce m (headPressed k u) = modeInForce m u := by
  have bank (b : Bank) : (headPressed k u).wm.bank b = u.wm.bank b := by
    unfold headPressed
    dsimp only
    split
    · cases b <;> simp [WorkMem.bank]
    · rfl
  have epoch : (headPressed k u).wm.epoch = u.wm.epoch := by
    unfold headPressed
    dsimp only
    split
    · simp
    · rfl
  have header : activeHeader (headPressed k u) = activeHeader u := by
    refine List.map_congr_left fun n _ => ?_
    unfold WorkMem.bankByte
    rw [epoch, bank]
    rfl
  rw [modeInForce, header]
  rfl

/-- A press with nothing under way is considered at once. -/
theorem pressConsidered {i : InputId} (found : Found i true s) (h : (i = .fwd ∧ k = .fwd) ∨ (i = .back ∧ k = .back))
    (armed : s.turn.armed = true) (pending : s.panel.pending = []) (calm : s.power.descentPending = false)
    (asked : s.power.drainAsked = false) (idle : s.turn.state = .idle) (presses : s.turn.queue = [])
    (state : s.power.state ≠ .deepEntry ∧ s.power.state ≠ .deep) :
    exec (.debounceEnd i) s = commit s (considerHead (headPressed k (foundState i true s))) := by
  have run := changeFound found
  rw [handedOn_turn (foundState i true s) h armed state,
    joinQueue_first (foundState i true s) presses calm asked] at run
  rwa [settleAll_head (s := headPressed k (foundState i true s)) pending
    (by exact fun h => absurd (idle.symm.trans h) nofun) calm] at run

theorem headPressed_waits (u : State) (idle : u.turn.state = .idle) (load : u.turn.load = none)
    (arm : u.turn.arm = none) : HeadWaits k (headPressed k u) := ⟨idle, load, arm, [], rfl⟩

/-- What ends the queue at a press: the list's end, a Bad entry, or a mode not in force (R134, R135). -/
def PressEnds (k : TurnKey) (c : Cause) (r : WakeReason) (s : State) : Prop :=
  (c = turnEndCause ∧ r = .turnEnd ∧ ((k = .fwd ∧ s.turn.entries.length ≤ s.turn.cursor + 1)
      ∨ (k = .back ∧ s.turn.cursor = 0)))
    ∨ (c = turnErrorCause ∧ r = .turnError ∧ ∃ n e, Named s.turn k n
        ∧ s.turn.entries[n]? = some e ∧ (e.bad = true ∨ modeInForce e.mode s = false))

theorem considerHead_discards {c : Cause} (u : State) (waits : HeadWaits k (headPressed k u)) (h : PressEnds k c r u) :
    considerHead (headPressed k u) = discardPresses c r (headPressed k u) ∧ r ≠ .coverOpen ∧ r ≠ .engineReset
      ∧ r ≠ .attach := by
  rcases h with ⟨rfl, rfl, last⟩ | ⟨rfl, rfl, n, e, named, entry, bad⟩
  · refine ⟨considerHead_ends waits ?_, nofun, nofun, nofun⟩
    rcases last with ⟨rfl, last⟩ | ⟨rfl, first⟩
    · exact if_neg (by exact Nat.not_lt_of_le last)
    · exact if_neg (by simp [headPressed, first])
  · have inside : n < u.turn.entries.length := (List.getElem?_eq_some_iff.mp entry).1
    refine ⟨considerHead_fails waits (Turn.targetOf_named named inside) entry ?_, nofun, nofun, nofun⟩
    rw [headPressed_inForce]
    exact bad

theorem headPressed_kept {u : State} (h : u.power.state ≠ .dozeQuiet) :
    headPressed k u = { u with turn := { u.turn with queue := [k] } } := by
  rw [headPressed, if_neg h, if_neg h]

theorem headPressed_doze {u : State} (h : InDoze u) : InDoze (headPressed k u) := by
  by_cases quiet : u.power.state = .dozeQuiet
  · exact .inr (.inr (if_pos quiet))
  · rwa [headPressed_kept quiet]

theorem Turn.queue_empty {x : Turn} (h : x.queue = []) : { x with queue := [] } = x := by rw [← h]

theorem changeWakes (found : Found i level s) (h : WakesDeep i level r) :
    exec (.debounceEnd i) s = commit s (settleAll (wakeEvent r (foundState i level s))) := by
  rw [changeFound found, (handedOn_deep _ h).1]

/-- The cover closes in a DOZE state whose cover action is DEEP_ON_CLOSE (03 R52). -/
theorem coverCloses (found : Found .cover true s) (quiet : Quiet s) (doze : InDoze s)
    (action : s.power.coverAction = .deepOnClose) (engine : s.panel.engine ≠ .halted) :
    exec (.debounceEnd .cover) s = commit s (deepEntered (foundState .cover true s)) := by
  have run := changeFound found
  have closes : handedOn .cover true (foundState .cover true s) = enterDeepEntry (foundState .cover true s) :=
    if_pos (by rcases doze with h | h | h <;> simp [foundState, PowerState.isDoze, h, action, quiet.2.2.2])
  rw [closes, enterDeepEntry_running (by exact engine)] at run
  exact exec_settled run ⟨(Panel.holdCut_pending _).trans quiet.1, quiet.2.1, rfl, rfl⟩

theorem Turn.takeFrame_eq {x : Turn} {f : Frame}
    (h : (x.frameA = .free ∧ f = Frame.a) ∨ (x.frameA ≠ .free ∧ x.frameB = .free ∧ f = .b)) :
    x.takeFrame = some f := by
  rcases h with ⟨free, rfl⟩ | ⟨taken, free, rfl⟩
  · exact if_pos free
  · exact (if_neg taken).trans (if_pos free)

theorem Turn.takeFrame_none {x : Turn} (a : x.frameA ≠ .free) (b : x.frameB ≠ .free) : x.takeFrame = none :=
  (if_neg a).trans (if_neg b)

/-- Settles O28, by what the changed input is handed to. -/
theorem inputsAndPresses : Obligations.InputsAndPresses := by
  refine ⟨fun s i level => ⟨inputChanged, fun measuring same => ?_⟩, ?_⟩
  · refine ⟨_, readingSettled measuring same, ?_⟩
    rw [settlePort_eq]
    obtain ⟨fwd, back, menu, power⟩ := Keys.setInput_counts s.keys i
      { s.keys.input i with debounced := level, settled := true, measuring := none }
    have own : (debounced i level s).keys.input i =
        { s.keys.input i with debounced := level, settled := true, measuring := none } :=
      Keys.input_setInput_same _ _ _
    refine ⟨fun j other => Keys.input_setInput_other _ other _, own, ?_, fwd, back, menu, power⟩
    rw [show ∀ l b, State.keys { debounced i level s with link := l, bus := b } = (debounced i level s).keys from
      fun _ _ => rfl, own]
    rfl
  rintro s i level u found rfl
  refine ⟨fun quiet nobody => ?_, fun r quiet doze on wakes => ?_, fun quiet doze named on action engine => ?_,
    fun r quiet wakes => ⟨fun entry => ?_, fun deep alive => ?_, fun deep dead other => ?_⟩,
    fun k on named armed pending calm asked => ?_⟩
  · exact changeFound_kept found quiet (handedOn_nobody _ nobody quiet.2.2.2)
  · subst on
    obtain ⟨t, run, eq, reset, attach⟩ := foundState_wakes found quiet doze wakes
    have press : isKeyInput i = true ∨ i = .charger := by
      rcases wakes with ⟨rfl, -⟩ | ⟨rfl, -⟩ | ⟨rfl, -⟩ | ⟨rfl, -⟩ | ⟨rfl, -⟩ <;> simp [isKeyInput]
    have regs := foundState_regs (i := i) (level := true) (inDoze_not doze (.inl rfl))
    rw [wakingFromDoze_eq, regs, if_neg attach] at eq
    have power : t.power = { s.power with
        state := .waking, wakeReason := r, dozeTimer := none, wakeTimer := none, drainAsked := false,
        resetPending := false } := by
      rw [congrArg State.power eq, beq_false_of_ne reset]
      rfl
    refine ⟨t, run, ?_, power, ?_⟩
    · rw [eq]
    · rw [eq]
      exact ⟨rfl, WorkMem.leave_selfRefresh, rfl, rfl, rfl, rfl, rfl⟩
  · subst named on
    refine ⟨_, coverCloses found quiet doze action engine, ?_⟩
    rw [settlePort_eq]
    exact ⟨rfl, rfl, rfl, rfl, rfl, foundState_regs (inDoze_not doze (.inl rfl)), rfl, rfl⟩
  · have run := changeWakes found wakes
    rw [wakeEvent_remembered (foundState i level s) entry (handedOn_deep s wakes).2.1] at run
    have run := exec_settled run ⟨quiet.1, quiet.2.1, quiet.2.2.1, quiet.2.2.2⟩
    exact (exec_asksNothing run rfl).imp fun t ⟨run, eq, _⟩ => ⟨run, eq⟩
  · obtain ⟨-, reaches, attach⟩ := handedOn_deep s wakes
    have run := changeWakes found wakes
    rw [wakeEvent_deep (foundState i level s) deep reaches fun dead => alive.resolve_left fun h => h dead] at run
    have run := exec_settled run (by
      refine ⟨?_, ?_, ?_, ?_⟩ <;> rw [wakeFromDeep, recordWake_eq]
      · rfl
      · rfl
      · rfl
      · exact quiet.2.2.2)
    have regs := foundState_regs (s := s) (i := i) (level := level) (by rw [deep]; nofun)
    rw [wakeFromDeep, recordWake_eq, regs, if_neg attach] at run
    exact ⟨_, exec_reset run rfl rfl, rfl, rfl, rfl, rfl, rfl, rfl, rfl, rfl⟩
  · have run := changeWakes found wakes
    rw [wakeEvent_ignored (foundState i level s) deep (handedOn_deep s wakes).2.1 dead other] at run
    have run := exec_settled run ⟨quiet.1, quiet.2.1, quiet.2.2.1, quiet.2.2.2⟩
    exact (exec_asksNothing run rfl).imp fun t ⟨run, eq, _⟩ => ⟨run, eq⟩
  · subst on
    refine ⟨fun reading state => ?_, fun n e f idle presses load arm place entry good mode frame off state => ?_,
      fun n e idle presses load arm place entry good mode busyA busyB run => ?_,
      fun c r idle presses load arm ends => ⟨fun awake => ?_, fun doze => ?_⟩⟩
    · exact pressJoins found named armed pending calm asked reading state
    · have awake : s.power.state ≠ .deepEntry ∧ s.power.state ≠ .deep := by
        rcases state with h | h <;> rw [h] <;> exact ⟨nofun, nofun⟩
      have run := pressConsidered found named armed pending calm asked idle presses awake
      rw [considerHead_starts (headPressed_waits (foundState i true s) idle load arm)
        (Turn.targetOf_named place (List.getElem?_eq_some_iff.mp entry).1) entry good
        ((headPressed_inForce e.mode _).trans mode) (Turn.takeFrame_eq frame),
        startTurn_off (s := headPressed k (foundState i true s)) k n e f off asked] at run
      obtain ⟨t, run, eq, -⟩ := exec_asksNothing run rfl
      have wm : t.wm = (headPressed k (foundState i true s)).wm := by rw [eq]
      refine ⟨t, run, ?_, fun run => ?_, fun quiet sleeps => ?_⟩
      · rw [eq]
        cases f <;> rfl
      · rw [wm]
        exact if_neg (by exact fun h => absurd (run.symm.trans h) nofun)
      · rw [wm]
        exact (if_pos (by exact quiet)).trans (WorkMem.leave_selfRefresh sleeps)
    · have awake : s.power.state ≠ .deepEntry ∧ s.power.state ≠ .deep := by rw [run]; exact ⟨nofun, nofun⟩
      have out : ¬ s.power.state = .dozeQuiet := by rw [run]; nofun
      have run := pressConsidered found named armed pending calm asked idle presses awake
      rw [considerHead_waits (headPressed_waits (foundState i true s) idle load arm)
        (Turn.targetOf_named place (List.getElem?_eq_some_iff.mp entry).1) entry good
        ((headPressed_inForce e.mode _).trans mode) (Turn.takeFrame_none busyA busyB)] at run
      obtain ⟨t, run, eq, -⟩ := exec_asksNothing run rfl
      refine ⟨t, run, eq.trans ?_⟩
      rw [headPressed_kept (u := foundState i true s) out]
      rfl
    · have out : s.power.state ≠ .deepEntry ∧ s.power.state ≠ .deep ∧ s.power.state ≠ .dozeQuiet := by
        rcases awake with h | h <;> rw [h] <;> exact ⟨nofun, nofun, nofun⟩
      have run := pressConsidered found named armed pending calm asked idle presses ⟨out.1, out.2.1⟩
      rw [(considerHead_discards (foundState i true s) (headPressed_waits _ idle load arm) ends).1,
        headPressed_kept (u := foundState i true s) out.2.2, discardPresses_awake _ _ (by exact awake)] at run
      obtain ⟨t, run, eq, -⟩ := exec_asksNothing run rfl
      refine ⟨t, run, eq.trans ?_⟩
      exact congrArg (fun x => { foundState i true s with
        bus := t.bus
        turn := x
        regs := { (foundState i true s).regs with cause := (foundState i true s).regs.cause ||| causeBit c } })
        (Turn.queue_empty presses)
    · have out : s.power.state ≠ .deepEntry ∧ s.power.state ≠ .deep :=
        ⟨inDoze_not doze (.inr (.inr (.inl rfl))), inDoze_not doze (.inr (.inr (.inr rfl)))⟩
      have run := pressConsidered found named armed pending calm asked idle presses out
      obtain ⟨discards, cover, reset, attach⟩ :=
        considerHead_discards (foundState i true s) (headPressed_waits _ idle load arm) ends
      rw [discards, discardPresses_doze c (headPressed_doze (u := foundState i true s) doze) calm ⟨cover, reset⟩,
        wakingFromDoze_eq, if_neg attach] at run
      refine ⟨_, run, ?_⟩
      rw [settlePort_eq]
      refine ⟨rfl, Turn.queue_empty presses, rfl, rfl, ?_⟩
      have regs := foundState_regs (i := i) (level := true) (inDoze_not doze (.inl rfl))
      rw [← regs]
      rfl

end Sys2Proof.Machine
end

section
/-!
PROOFS. The end of a sweep: the supply class, the ambient value, and the range index (02 R33, R34; 03 R41, R42;
05 R92, R93).
-/

namespace Sys2Proof.Machine

open Sys2Proof

variable {c : Instr} {s t u v : State} {b : Bool} {r : WakeReason}

/-! ## What the events of a sweep keep -/

/-- The sense values, apart from the sweep timer, and the ambient value the light holds are those of another state. -/
structure SweepKept (s u : State) : Prop where
  sense : ∃ timer, u.sense = { s.sense with timer := timer }
  held  : u.light.held = s.light.held

theorem SweepKept.of_eq (sense : u.sense = s.sense) (light : u.light.held = s.light.held) : SweepKept s u :=
  ⟨⟨s.sense.timer, sense⟩, light⟩

theorem SweepKept.trans (h : SweepKept s u) (k : SweepKept u v) : SweepKept s v := by
  obtain ⟨⟨_, first⟩, held⟩ := h
  obtain ⟨⟨timer, second⟩, held'⟩ := k
  exact ⟨⟨timer, by rw [second, first]⟩, held'.trans held⟩

theorem SweepKept.from_eq (h : SweepKept u v) (sense : u.sense = s.sense) (light : u.light.held = s.light.held) :
    SweepKept s v := (SweepKept.of_eq sense light).trans h

theorem Sense.changeState_timer (p q : PowerState) (n : Sense) : ∃ timer, n.changeState p q = { n with timer := timer } := by
  unfold Sense.changeState
  split
  · exact ⟨n.timer, rfl⟩
  · exact ⟨_, rfl⟩

theorem beginForcedDescent_sweep (s : State) : SweepKept s (beginForcedDescent s) := by
  obtain ⟨-, -, -, sense, -, -, -, -, -, -, light, -⟩ := forceDescent_keeps s
  obtain ⟨timer, changed⟩ := Sense.changeState_timer (forceDescent s).power.state .deepEntry (forceDescent s).sense
  have held : (forceDescent s).light.held = s.light.held := by rw [light]
  rw [sense] at changed
  rw [beginForcedDescent_eq]
  dsimp only
  split <;> exact ⟨⟨timer, by rw [← changed, ← sense]; rfl⟩, held⟩

theorem exhaustedDescent_sweep (s : State) : SweepKept s (exhaustedDescent s) := by
  unfold exhaustedDescent
  cases s.power.state with
  | run => exact .of_eq (by simp) (by simp)
  | waking => exact .of_eq rfl rfl
  | deep => exact .of_eq rfl rfl
  | deepEntry => exact .of_eq (by simp) (by simp)
  | dozeEntry => exact beginForcedDescent_sweep s
  | dozeQuiet => exact beginForcedDescent_sweep s
  | dozeTurning =>
    dsimp only
    split
    · exact .of_eq rfl rfl
    · exact (beginForcedDescent_sweep _).from_eq rfl rfl

theorem settlePanel_sweep (s : State) : SweepKept s (settlePanel s) := .of_eq (by simp) (by simp)

/-- The class in force, and SUPPLY set. -/
def classMarked (cls : SupplyClass) (s : State) : State :=
  setCause supplyCause ((s.modPower fun p => { p with cls := cls }).modLight (Light.takeClass cls))

theorem changeClass_eq (cls : SupplyClass) (s : State) : changeClass cls s = settlePanel
    (if cls = .exhausted then exhaustedDescent (classMarked cls s)
      else (classMarked cls s).modPower fun p => { p with graceTimer := none }) := rfl

theorem changeClass_sweep (cls : SupplyClass) (s : State) : SweepKept s (changeClass cls s) := by
  rw [changeClass_eq]
  refine SweepKept.trans ?_ (settlePanel_sweep _)
  split
  · exact (exhaustedDescent_sweep _).from_eq rfl rfl
  · exact .of_eq rfl rfl

theorem wakingFromDoze_sweep (r : WakeReason) (s : State) : SweepKept s (wakingFromDoze r s) := by
  rw [wakingFromDoze_eq]
  exact ⟨Sense.changeState_timer _ _ _, rfl⟩

/-- A wake that touches neither DEEP_ENTRY nor DEEP. -/
theorem wakeEvent_sweep (s : State) (soft : r.reachesDeep = false) (apart : r ≠ .engineReset) :
    SweepKept s (wakeEvent r s) := by
  have doze : wakeEvent r s = s ∨ wakeEvent r s = wakingFromDoze r s := by
    have wakes : wakeFromDoze r s = wakingFromDoze r s := by rw [wakeFromDoze_eq, if_neg (by simp [apart])]
    have remembered : rememberWake r s = s := if_neg (by simp [soft])
    rw [wakeEvent, wakes, remembered]
    split
    · exact .inl rfl
    · exact .inl rfl
    · exact .inl rfl
    · exact .inl (if_neg (by simp [soft]))
    all_goals
      split
      · exact .inl rfl
      · split
        · exact .inl rfl
        · exact .inr rfl
  rcases doze with h | h <;> rw [h]
  · exact .of_eq rfl rfl
  · exact wakingFromDoze_sweep r s

theorem discardPresses_sweep (cause : Cause) (s : State) (soft : r.reachesDeep = false) (apart : r ≠ .engineReset) :
    SweepKept s (discardPresses cause r s) :=
  (wakeEvent_sweep _ soft apart).from_eq rfl rfl

theorem considerHead_sweep (s : State) : SweepKept s (considerHead s) := by
  unfold considerHead
  dsimp only
  repeat' split
  all_goals first
    | exact .of_eq rfl rfl
    | exact discardPresses_sweep _ s rfl nofun
    | exact .of_eq (by simp) (by simp)

theorem Passes.seen_kept (h : Passes c s b u) (hc : c ≠ .fullReset) (seen : s.power.seen = true) :
    u.power.seen = true := by
  induction h with
  | start => exact seen
  | protect _ _ _ _ _ _ _ ih => exact ih
  | power f _ calm ih => exact calm.seen ih
  | fullReset e => exact absurd e hc
  | wakeFromDeep r _ _ _ _ _ _ ih => rw [wakeFromDeep_power]; exact ih
  | resetFromDoze _ _ _ _ _ ih => exact ih
  | enterDeep _ _ _ _ _ ih => exact ih
  | engineReset _ _ _ _ ih => exact ih
  | remember r _ _ ih => exact ih
  | grace _ _ _ ih => exact ih
  | drain _ _ _ _ _ ih => exact ih
  | descentWaits _ _ _ _ ih => exact ih
  | dozeEntry _ _ _ ih => exact ih
  | dozeTurning _ _ ih => exact ih
  | run _ _ _ _ ih => exact ih
  | @dozeQuiet u _ ih =>
    unfold reachDozeQuiet
    split
    · simp only [setPower, State.modPower_power, State.modSense_power]
      split <;> exact ih
    · exact ih
  | _ => simp_all

/-! ## The battery new-value event -/

theorem changeClass_passes_marked (cls : SupplyClass) (s : State) :
    ∃ u, Passes .rampTick u false (changeClass cls s) ∧ u.power.seen = s.power.seen ∧ u.power.cls = cls
      ∧ u.regs = (classMarked cls s).regs := by
  rw [changeClass_eq]
  by_cases dead : cls = .exhausted
  · rw [if_pos dead]
    exact ⟨classMarked cls s, settlePanel_passes (exhaustedDescent_passes .start dead), rfl, rfl, rfl⟩
  · rw [if_neg dead]
    exact ⟨_, settlePanel_passes .start, rfl, rfl, rfl⟩

theorem supply_set {x : BitVec 13} (h : x.getLsbD supplyCause = true) :
    x &&& causeBit supplyCause = causeBit supplyCause := by
  refine BitVec.eq_of_getLsbD_eq fun i _ => ?_
  rw [BitVec.getLsbD_and]
  by_cases bit : i = supplyCause
  · rw [bit, h, Bool.true_and]
  · have off : (causeBit supplyCause).getLsbD i = false := by
      rw [causeBit, BitVec.getLsbD_shiftLeft, BitVec.getLsbD_one]
      simp
      omega
    rw [off, Bool.and_false]

/-- What the battery new-value event comes to (03 R41, R42). -/
structure Classified (s u : State) : Prop where
  kept   : SweepKept s u
  seen   : u.power.seen = true
  cls    : u.power.cls = classify s.power s.sense.shown.battery
  supply : u.power.cls ≠ s.power.cls → u.regs.cause.getLsbD supplyCause = true

theorem batteryEvent_classified (s : State) : Classified s (batteryEvent s) := by
  have split : batteryEvent s = if classify s.power s.sense.shown.battery = s.power.cls
      then s.modPower fun p => { p with seen := true }
      else changeClass (classify s.power s.sense.shown.battery) (s.modPower fun p => { p with seen := true }) := rfl
  by_cases same : classify s.power s.sense.shown.battery = s.power.cls
  · rw [split, if_pos same]
    exact ⟨.of_eq rfl rfl, rfl, same.symm, fun other => absurd rfl other⟩
  · rw [split, if_neg same]
    obtain ⟨u, passes, seen, cls, regs⟩ := changeClass_passes_marked (classify s.power s.sense.shown.battery)
      (s.modPower fun p => { p with seen := true })
    refine ⟨(changeClass_sweep _ _).from_eq rfl rfl, passes.seen_kept nofun seen, ?_, fun _ =>
      passes.causesKept rfl nofun nofun _ ?_⟩
    · exact ((passes.cls_kept nofun).resolve_right fun ⟨_, _, _, e, _⟩ => nomatch e).trans cls
    · rw [regs]
      simp [classMarked, setCause, causeBit, supplyCause]

theorem rangeEvent_sweep (s : State) : SweepKept s (rangeEvent s) := .of_eq (by simp) (by simp)

/-- The state in which a sweep's values are presented (02 R33). -/
def sweepPresented (w : Sweep) (raw : Nat) (s : State) : State :=
  s.modSense fun n => { n.take w.chan w.zero raw with sweep := none }.present

theorem sweepEnds {w : Sweep} {raw : BitVec 12} (sweep : s.sense.sweep = some w) (stage : w.stage = .signal)
    (last : w.nextChannel = none) : ∃ t, exec (.conversionEnd raw) s = .next t
      ∧ t.sense = (sweepEvents w.full (sweepPresented w raw.toNat s)).sense.startOwed
          (sweepEvents w.full (sweepPresented w raw.toNat s)).power.state
      ∧ t.power = (sweepEvents w.full (sweepPresented w raw.toNat s)).power
      ∧ t.light = (sweepEvents w.full (sweepPresented w raw.toNat s)).light
      ∧ t.wave = (sweepEvents w.full (sweepPresented w raw.toNat s)).wave
      ∧ t.panel = (sweepEvents w.full (sweepPresented w raw.toNat s)).panel
      ∧ t.regs = (sweepEvents w.full (sweepPresented w raw.toNat s)).regs := by
  have ends : exec (.conversionEnd raw) s =
      commit s ((requestPage (sweepEvents w.full (sweepPresented w raw.toNat s))).modSense
        (Sense.startOwed (requestPage (sweepEvents w.full (sweepPresented w raw.toNat s))).power.state)) := by
    rw [exec_signalSample sweep stage, signalTaken, last]
    rfl
  refine ⟨_, ends, ?_⟩
  generalize sweepEvents w.full (sweepPresented w raw.toNat s) = u
  obtain ⟨regs, sense, power, -⟩ := requestPage_keeps u
  rw [settlePort_eq]
  simp

/-- A sweep starts with what is presented unchanged. -/
theorem Sense.startOwed_shown (p : PowerState) (n : Sense) : (n.startOwed p).shown = n.shown
    ∧ (n.startOwed p).therm = n.therm ∧ (n.startOwed p).amb = n.amb := by
  unfold Sense.startOwed Sense.startSweep
  split <;> exact ⟨rfl, rfl, rfl⟩

/-- The state that the temperature's event of a sweep leads to. -/
def sweepRanged (full : Bool) (s : State) : State := if full && s.power.vddMain then rangeEvent s else s

theorem sweepRanged_keeps (full : Bool) (s : State) : (sweepRanged full s).power = s.power
    ∧ (sweepRanged full s).sense = s.sense ∧ (sweepRanged full s).light = s.light
    ∧ (sweepRanged full s).panel = s.panel := by
  unfold sweepRanged
  split <;> simp

/-- The state that the temperature's and the battery's events of a sweep lead to. -/
def sweepClassified (full : Bool) (s : State) : State :=
  if (batteryEvent (sweepRanged full s)).power.cls = s.power.cls then batteryEvent (sweepRanged full s)
  else considerHead (batteryEvent (sweepRanged full s))

theorem sweepEvents_eq (full : Bool) (s : State) : sweepEvents full s =
    if full then (sweepClassified full s).modLight (Light.takeAmbient (sweepClassified full s).power.cls
      (sweepClassified full s).sense.shown.ambient) else sweepClassified full s := rfl

theorem sweepEvents_keeps_classified (full : Bool) (s : State) :
    (sweepEvents full s).sense = (sweepClassified full s).sense
      ∧ (sweepEvents full s).power = (sweepClassified full s).power
      ∧ (sweepEvents full s).regs = (sweepClassified full s).regs
      ∧ (sweepEvents full s).wave = (sweepClassified full s).wave
      ∧ (sweepEvents full s).panel = (sweepClassified full s).panel := by
  rw [sweepEvents_eq]
  split <;> exact ⟨rfl, rfl, rfl, rfl, rfl⟩

theorem Classified.of_event (h : Classified s u) (passes : Passes .rampTick u false v) (kept : SweepKept u v) :
    Classified s v := by
  have cls : v.power.cls = u.power.cls :=
    (passes.cls_kept nofun).resolve_right fun ⟨_, _, _, e, _⟩ => nomatch e
  exact ⟨h.kept.trans kept, passes.seen_kept nofun h.seen, cls.trans h.cls, fun other =>
    passes.causesKept rfl nofun nofun _ (h.supply (cls ▸ other))⟩

theorem sweepClassified_classified (full : Bool) (s : State) : Classified s (sweepClassified full s) := by
  obtain ⟨power, sense, light, -⟩ := sweepRanged_keeps full s
  have battery : Classified s (batteryEvent (sweepRanged full s)) := by
    obtain ⟨kept, seen, cls, supply⟩ := batteryEvent_classified (sweepRanged full s)
    rw [power] at supply
    exact ⟨kept.from_eq sense (congrArg Light.held light), seen, cls.trans (by rw [power, sense]), supply⟩
  unfold sweepClassified
  split
  · exact battery
  · exact battery.of_event (considerHead_passes .start) (considerHead_sweep _)

theorem takeAmbient_held (cls : SupplyClass) (a : Nat) (l : Light) : (l.takeAmbient cls a).held = some a := by
  unfold Light.takeAmbient
  split <;> rfl

theorem classify_first {p : Power} (h : p.seen = false) (v : Nat) : classify p v =
    if v < p.eExhausted then .exhausted else if v < p.eCritical then .critical
      else if v < p.eReduced then .reduced else .normal := by
  simp [classify, h, downTarget]

/-- What the end of a sweep leaves of what it presented. -/
theorem sweepEnds_classified {w : Sweep} {raw : BitVec 12} (sweep : s.sense.sweep = some w) (stage : w.stage = .signal)
    (last : w.nextChannel = none) : ∃ t, exec (.conversionEnd raw) s = .next t
      ∧ t.sense.shown = (sweepPresented w raw.toNat s).sense.shown
      ∧ t.sense.therm = (sweepPresented w raw.toNat s).sense.therm
      ∧ t.sense.amb = (sweepPresented w raw.toNat s).sense.amb
      ∧ t.power.seen = true
      ∧ t.power.cls = classify s.power (sweepPresented w raw.toNat s).sense.shown.battery
      ∧ t.light.held = (if w.full then some (sweepPresented w raw.toNat s).sense.shown.ambient else s.light.held)
      ∧ (t.power.cls ≠ s.power.cls → t.regs.cause &&& causeBit supplyCause = causeBit supplyCause) := by
  obtain ⟨t, run, sense, power, light, -, -, regs⟩ := sweepEnds (raw := raw) sweep stage last
  obtain ⟨same, powers, causes, -, -⟩ := sweepEvents_keeps_classified w.full (sweepPresented w raw.toNat s)
  obtain ⟨⟨⟨timer, kept⟩, held⟩, seen, cls, supply⟩ :=
    sweepClassified_classified w.full (sweepPresented w raw.toNat s)
  have owed := Sense.startOwed_shown (sweepEvents w.full (sweepPresented w raw.toNat s)).power.state
    (sweepEvents w.full (sweepPresented w raw.toNat s)).sense
  rw [← sense, same, kept] at owed
  obtain ⟨shown, therm, amb⟩ := owed
  rw [powers] at power
  rw [causes] at regs
  refine ⟨t, run, shown, therm, amb, by rw [power, seen], by rw [power, cls]; rfl, ?_, fun other => ?_⟩
  · rw [light, sweepEvents_eq]
    by_cases full : w.full = true
    · rw [if_pos full, if_pos full]
      exact (takeAmbient_held _ _ _).trans (by rw [kept])
    · rw [if_neg full, if_neg full]
      exact held
  · rw [regs]
    exact supply_set (supply (by rwa [power] at other))

/-- Settles O16. -/
theorem sweepEndClassifies : Obligations.SweepEndClassifies := by
  refine fun s w raw sweep stage => ⟨fun chan full => ?_, fun chan part => ?_, fun first v => classify_first first v⟩
  · have last : w.nextChannel = none := by rw [Sweep.nextChannel, chan]
    obtain ⟨t, run, shown, -, -, seen, cls, held, supply⟩ := sweepEnds_classified (raw := raw) sweep stage last
    rw [sweepPresented, chan] at shown cls held
    rw [if_pos full] at held
    exact ⟨t, run, seen, cls, held, shown, supply⟩
  · have last : w.nextChannel = none := by rw [Sweep.nextChannel, chan, part]; rfl
    obtain ⟨t, run, shown, therm, amb, seen, cls, held, supply⟩ := sweepEnds_classified (raw := raw) sweep stage last
    rw [sweepPresented, chan] at shown cls therm amb
    rw [if_neg (by simp [part])] at held
    exact ⟨t, run, seen, cls, held, therm, amb, congrArg Presented.battery shown, supply⟩

/-! ## The range index -/

theorem candidate_spec (h : List Byte) (T : Int) : ∀ n, 1 ≤ n → candidate h T n < n
    ∧ (candidate h T n ≠ 0 → setLower h (candidate h T n) ≤ T)
    ∧ ∀ k, candidate h T n < k → k < n → T < setLower h k
  | n + 1, _ => by
    rw [candidate]
    by_cases reached : setLower h n ≤ T
    · rw [if_pos reached]
      exact ⟨by omega, fun _ => reached, fun k low high => by omega⟩
    · rw [if_neg reached]
      rcases Nat.eq_zero_or_pos n with rfl | some
      · exact ⟨by simp [candidate], fun h => absurd rfl h, fun k low high => absurd high (by omega)⟩
      · obtain ⟨below, bound, above⟩ := candidate_spec h T n some
        refine ⟨by omega, bound, fun k low high => ?_⟩
        rcases Nat.lt_succ_iff_lt_or_eq.mp high with less | rfl
        · exact above k low less
        · omega

theorem selectRange_held {h : List Byte} {T : Int} {v : Wave} {i : Nat} (range : v.range = some i)
    (own : v.fromDefault = false) : (selectRange h T v).range =
      if i < candidate h T (setRanges h) then some (candidate h T (setRanges h))
      else if candidate h T (setRanges h) < i && T < setLower h i - 10 then some (candidate h T (setRanges h))
      else some i := by
  simp only [selectRange, range, own, Bool.false_eq_true, if_false]
  split
  · rfl
  · split
    · rfl
    · exact range

theorem rangeEvent_warm {T : Int} (warm : s.sense.shown.temperature = some T) (valid : s.wave.valid s.wave.active = true) :
    rangeEvent s = s.modWave (selectRange (s.wm.header s.wave.active) T) := by
  rw [rangeEvent, warm]
  exact if_pos valid

theorem rangeEvent_kept (h : s.sense.shown.temperature = none ∨ s.wave.valid s.wave.active = false) : rangeEvent s = s := by
  have off (valid : s.wave.valid s.wave.active = false) : ¬ s.wave.inForce = true := by simp [Wave.inForce, valid]
  unfold rangeEvent
  rcases h with cold | valid
  · rw [cold]
  · split
    · rfl
    · rw [if_neg (off valid)]

/-- A sweep that leaves the class as it is leaves the set in force and the panel to the temperature's event. -/
theorem sweepClassified_same {full : Bool} (h : classify s.power s.sense.shown.battery = s.power.cls) :
    sweepClassified full s = (sweepRanged full s).modPower fun p => { p with seen := true } := by
  obtain ⟨power, sense, -⟩ := sweepRanged_keeps full s
  have event : batteryEvent (sweepRanged full s) = (sweepRanged full s).modPower fun p => { p with seen := true } :=
    if_pos (by rw [power, sense]; exact h)
  rw [sweepClassified, event]
  exact if_pos (congrArg Power.cls power)

theorem sweepEnds_same {w : Sweep} {raw : BitVec 12} (sweep : s.sense.sweep = some w) (stage : w.stage = .signal)
    (last : w.nextChannel = none)
    (same : classify s.power (sweepPresented w raw.toNat s).sense.shown.battery = s.power.cls) :
    ∃ t, exec (.conversionEnd raw) s = .next t
      ∧ t.wave = (sweepRanged w.full (sweepPresented w raw.toNat s)).wave ∧ t.panel = s.panel := by
  obtain ⟨t, run, -, -, -, wave, panel, -⟩ := sweepEnds (raw := raw) sweep stage last
  obtain ⟨-, -, -, waves, panels⟩ := sweepEvents_keeps_classified w.full (sweepPresented w raw.toNat s)
  rw [sweepClassified_same same] at waves panels
  exact ⟨t, run, wave.trans waves, panel.trans (panels.trans (sweepRanged_keeps _ _).2.2.2)⟩

/-- Settles O33. -/
theorem rangeFollowsTemperature : Obligations.RangeFollowsTemperature := by
  refine ⟨fun s w raw sweep stage => ⟨fun chan full same main => ⟨fun T warm valid => ?_, fun out => ?_⟩,
    fun chan part same => ?_⟩, fun h T v i range default => ?_,
    fun h T v i some range own => ⟨?_, fun up => ?_, fun down cold => ?_, fun down held => ?_, fun stays => ?_⟩⟩
  · have last : w.nextChannel = none := by rw [Sweep.nextChannel, chan]
    obtain ⟨t, run, wave, panel⟩ := sweepEnds_same (raw := raw) sweep stage last
      (by rw [sweepPresented, chan]; exact same)
    rw [sweepRanged, if_pos (by rw [full]; exact main)] at wave
    refine ⟨t, run, wave.trans ?_, panel⟩
    exact congrArg State.wave (rangeEvent_warm (s := sweepPresented w raw.toNat s)
      (by rw [sweepPresented, chan]; exact warm) valid)
  · have last : w.nextChannel = none := by rw [Sweep.nextChannel, chan]
    obtain ⟨t, run, wave, panel⟩ := sweepEnds_same (raw := raw) sweep stage last
      (by rw [sweepPresented, chan]; exact same)
    rw [sweepRanged, if_pos (by rw [full]; exact main)] at wave
    refine ⟨t, run, wave.trans ?_, panel⟩
    rw [rangeEvent_kept (s := sweepPresented w raw.toNat s) (by rw [sweepPresented, chan]; exact out)]
    rfl
  · have last : w.nextChannel = none := by rw [Sweep.nextChannel, chan, part]; rfl
    obtain ⟨t, run, wave, -⟩ := sweepEnds_same (raw := raw) sweep stage last
      (by rw [sweepPresented, chan]; exact same.symm)
    rw [sweepRanged, if_neg (by simp [part])] at wave
    exact ⟨t, run, wave⟩
  · simp [selectRange, range, default]
  · rintro j rfl
    exact candidate_spec h T _ some
  · rw [selectRange_held range own, if_pos up]
  · rw [selectRange_held range own, if_neg (by omega), if_pos (by simp [down, cold])]
  · rw [selectRange_held range own, if_neg (by omega), if_neg (by simp; omega)]
  · rw [selectRange_held range own, if_neg (by omega), if_neg (by simp; omega)]

end Sys2Proof.Machine
end

section
/-!
PROOFS. The Waveform Unit's load (05 R81 to R93).
-/

namespace Sys2Proof.Machine

open Sys2Proof

variable {c : Instr} {s t u v : State} {r : RecordCopy} {l : Load} {st : Store} {e : Erase} {res : ResultCode}

/-- What the port was asked for, read off its queue before the step's end. -/
theorem settled_asks {l : List BusAccess} (bus : t.bus = (settlePort s u).bus) (queue : u.bus.queue = s.bus.queue ++ l)
    (transfers : u.bus.transfers = s.bus.transfers) : Asks s t l := by
  have asked : PortAsked s.bus.queue s.bus.transfers (settlePort s u) l := settlePort_asked queue transfers
  unfold PortAsked at asked
  rwa [← bus] at asked

/-! ## The record and its stages -/

theorem loadInRange_iff (b : List Byte) : loadInRange b = true ↔ half b 32 ≤ 4095 ∧ byteAt b 34 ≤ 63 ∧ 1 ≤ half b 36
    ∧ half b 36 ≤ 256 ∧ half b 32 * 64 + byteAt b 34 + half b 36 ≤ 262144 := by
  simp [loadInRange, and_assoc]

theorem loadChecks_range (h : loadInRange r.bytes = false) :
    loadChecks r s = completeRecord .display r.addr .range 0#32 0 s := by
  simp [loadChecks, h]

theorem loadChecks_lowSupply (inside : loadInRange r.bytes = true) (h : s.power.forced = true) :
    loadChecks r s = completeRecord .display r.addr .lowSupply 0#32 0 s := by
  simp [loadChecks, inside, h]

theorem loadChecks_halted (inside : loadInRange r.bytes = true) (calm : s.power.forced = false)
    (h : s.panel.engine = .halted) : loadChecks r s = completeRecord .display r.addr .panelHalted 0#32 0 s := by
  simp [loadChecks, inside, calm, h]

theorem loadChecks_waits (inside : loadInRange r.bytes = true) (calm : s.power.forced = false)
    (h : s.panel.engine ≠ .halted) : loadChecks r s = s.modWave fun v => { v with load := some (loadOf r) } := by
  simp [loadChecks, inside, calm, h]

theorem exec_waveformLoad (s : State) : exec .waveformLoad s = onRecord .waveformLoad loadChecks s := rfl

/-- What the arbiter makes of the loader's request. -/
theorem requestLoadPage_asks (h : LoaderAsks s l.nextPage st) : requestLoadPage l s = { s with store := st } := by
  unfold requestLoadPage
  rcases h with ⟨power, rfl⟩ | ⟨off, calm, rfl⟩ | ⟨on, busy, rfl⟩ | ⟨on, op, erase, ta, rfl⟩
  · exact serveStore_poweringUp power
  · exact serveStore_powersUp off (Store.waiting_iff.mpr (.inr (.inl nofun))) calm
  · exact serveStore_busy on busy
  · exact serveStore_wave on op erase ta rfl

theorem bankReferenced_other (h : ∀ e, e ∈ s.panel.slots → e.2.state = .clearing ∨ e.2.bank = .a) :
    bankReferenced .b s = false := by
  rw [bankReferenced, List.any_eq_false]
  intro e mem
  rcases h e mem with clearing | bank
  · simp [Slot.references, clearing]
  · simp [Slot.references, bank]

theorem exec_bankFree (load : s.wave.load = some l) (stage : l.stage = .bankWait)
    (other : bankReferenced s.wave.active.other s = false) : exec .waveformBankFree s = commit s (requestLoadPage l
      (s.modWave fun v => (v.setValid v.active.other false).modLoad fun l => { l with stage := .reading })) := by
  simp only [exec, execWaveformBankFree, load]
  exact if_pos ⟨stage, other⟩

/-- Settles O31. -/
theorem waveformLoadBegins : Obligations.WaveformLoadBegins := by
  refine fun s r => ⟨fun ready res out => ?_, fun ready inside calm engine => ?_, fun l load stage pending => ?_,
    fun l load stage active free st asks => ?_⟩
  · have done : loadChecks r (accepted .waveformLoad r s) =
        completeRecord Kind.waveformLoad.lane r.addr res 0#32 0 (accepted .waveformLoad r s) := by
      rcases out with ⟨rfl, out⟩ | ⟨inside, ⟨rfl, forced⟩ | ⟨rfl, calm, halted⟩⟩
      · refine loadChecks_range (Bool.eq_false_iff.mpr fun inside => ?_)
        have := (loadInRange_iff r.bytes).mp inside
        omega
      · exact loadChecks_lowSupply inside forced
      · exact loadChecks_halted inside calm halted
    obtain ⟨t, run, asks, eq⟩ := exec_readyDone id (exec_waveformLoad s) ready done rfl rfl
    exact ⟨t, run, eq, asks⟩
  · obtain ⟨t, run, asks, eq⟩ := exec_readyWaits (fun u => u.modWave fun v => { v with load := some (loadOf r) })
      (exec_waveformLoad s) ready (loadChecks_waits (s := accepted .waveformLoad r s) inside calm engine) rfl
    exact ⟨t, run, asks, eq⟩
  · have run : exec .waveformListEmpty s =
        commit s (s.modWave fun v => v.modLoad fun l => { l with stage := .bankWait }) :=
      if_pos (by simp [load, stage, pending])
    obtain ⟨t, run, eq, asks⟩ := exec_asksNothing run rfl
    refine ⟨t, run, asks, eq.trans ?_⟩
    simp [State.modWave, Wave.modLoad, load]
  · have other : bankReferenced s.wave.active.other s = false := by
      rw [active]
      exact bankReferenced_other free
    have run := exec_bankFree load stage other
    rw [requestLoadPage_asks (s := s.modWave fun v =>
      (v.setValid v.active.other false).modLoad fun l => { l with stage := .reading }) asks] at run
    obtain ⟨t, run, eq, asks⟩ := exec_asksNothing run rfl
    refine ⟨t, run, asks, eq.trans ?_⟩
    simp [State.modWave, Wave.modLoad, load, active, Wave.setValid, Bank.other]

/-! ## The contents of working memory -/

/-- Two states of working memory with the same contents. -/
structure SameContents (w w' : WorkMem) : Prop where
  panel  : w'.panel = w.panel
  frameA : w'.frameA = w.frameA
  frameB : w'.frameB = w.frameB
  bankA  : w'.bankA = w.bankA
  bankB  : w'.bankB = w.bankB
  decode : w'.decode = w.decode
  epoch  : w'.epoch = w.epoch

theorem SameContents.refl (w : WorkMem) : SameContents w w := ⟨rfl, rfl, rfl, rfl, rfl, rfl, rfl⟩

theorem SameContents.trans {w w' w'' : WorkMem} (h : SameContents w w') (k : SameContents w' w'') :
    SameContents w w'' :=
  ⟨k.1.trans h.1, k.2.trans h.2, k.3.trans h.3, k.4.trans h.4, k.5.trans h.5, k.6.trans h.6, k.7.trans h.7⟩

theorem SameContents.bank {w w' : WorkMem} (h : SameContents w w') (b : Bank) : w'.bank b = w.bank b := by
  cases b
  · exact h.bankA
  · exact h.bankB

theorem SameContents.bankByte {w w' : WorkMem} (h : SameContents w w') (b : Bank) (i : Nat) :
    w'.bankByte b i = w.bankByte b i := by
  unfold WorkMem.bankByte
  rw [h.bank, h.epoch]

theorem SameContents.header {w w' : WorkMem} (h : SameContents w w') (b : Bank) : w'.header b = w.header b :=
  List.map_congr_left fun i _ => h.bankByte b i

theorem WorkMem.leave_contents (w : WorkMem) : SameContents w w.leave := by
  obtain ⟨panel, frameA, frameB, bankA, bankB, decode, epoch, -⟩ := w.leave_keeps
  exact ⟨panel, frameA, frameB, bankA, bankB, decode, epoch⟩

theorem WorkMem.decide_contents (w : WorkMem) : SameContents w w.decide := by
  obtain ⟨panel, frameA, frameB, bankA, bankB, decode, epoch, -⟩ := w.decide_keeps
  exact ⟨panel, frameA, frameB, bankA, bankB, decode, epoch⟩

theorem WorkMem.wait_contents (w : WorkMem) (x : WmClient) : SameContents w (w.wait x) := by
  obtain ⟨panel, frameA, frameB, bankA, bankB, decode, epoch, -⟩ := w.wait_keeps x
  exact ⟨panel, frameA, frameB, bankA, bankB, decode, epoch⟩

theorem wmRequest_contents (x : WmClient) (s : State) : SameContents s.wm (wmRequest x s).wm := by
  unfold wmRequest
  rw [State.modWm_wm]
  split
  · exact .refl _
  · exact (s.wm.wait_contents x).trans (WorkMem.decide_contents _)

theorem wmRequest_state (x : WmClient) (s : State) : (wmRequest x s).wm.state = s.wm.state := by
  unfold wmRequest
  rw [State.modWm_wm]
  split
  · rfl
  · simp

theorem wmDrop_contents (x : WmClient) (s : State) : SameContents s.wm (wmDrop x s).wm :=
  ⟨rfl, rfl, rfl, rfl, rfl, rfl, rfl⟩

/-- A client that asks an idle memory alone is granted its burst. -/
theorem wmRequest_granted (x : WmClient) (serves : s.wm.serves = true) (debt : s.wm.debt < 8) (free : s.wm.running = none)
    (alone : s.wm.waiting = []) : (wmRequest x s).wm.running = some (.burst x) := by
  have powered : s.wm.state ≠ .unpowered := by
    rcases WorkMem.serves_iff.mp serves with h | h <;> rw [h] <;> nofun
  have waits : s.wm.wait x = { s.wm with waiting := [x] } := by simp [WorkMem.wait, alone]
  have asked : (wmRequest x s).wm = (s.wm.wait x).decide := if_neg powered
  rw [asked, waits]
  by_cases scan : x = .frameScan
  · subst scan
    rw [WorkMem.decide_scan (by exact serves) (by exact free) (by exact debt) List.mem_cons_self]
    rfl
  · rw [WorkMem.decide_client (d := x) (by exact serves) (by exact free) (by exact debt) (by simp [Ne.symm scan]) ?_]
    · rfl
    · cases h : s.wm.rr <;> cases x <;> simp [WorkMem.nextClient, h, roundRobinAfter] at scan ⊢

/-! ## Requests of the internal readers -/

/-- What a state and another share where only the Store Controller and the Turn-Ahead Unit have moved, a drain
withdrawn with it (03 R49). -/
structure StoreMoves (s u : State) : Prop where
  memory : SameContents s.wm u.wm
  calm   : s.power.drainAsked = false → u.wm = s.wm ∧ u.power = s.power
  rest   : u.regs = s.regs ∧ u.link = s.link ∧ u.bus = s.bus ∧ u.wave = s.wave ∧ u.panel = s.panel
    ∧ u.light = s.light ∧ u.shared = s.shared

theorem StoreMoves.of_store (st : Store) (x : Turn) (s : State) : StoreMoves s { s with store := st, turn := x } :=
  ⟨.refl _, fun _ => ⟨rfl, rfl⟩, rfl, rfl, rfl, rfl, rfl, rfl, rfl⟩

theorem StoreMoves.trans (h : StoreMoves s u) (k : StoreMoves u v) : StoreMoves s v := by
  obtain ⟨memory, calm, regs, link, bus, wave, panel, light, shared⟩ := h
  obtain ⟨memory', calm', regs', link', bus', wave', panel', light', shared'⟩ := k
  refine ⟨memory.trans memory', fun asked => ?_, regs'.trans regs, link'.trans link, bus'.trans bus, wave'.trans wave,
    panel'.trans panel, light'.trans light, shared'.trans shared⟩
  obtain ⟨wm, power⟩ := calm asked
  obtain ⟨wm', power'⟩ := calm' (by rw [power, asked])
  exact ⟨wm'.trans wm, power'.trans power⟩

theorem withdrawDrain_moves (s : State) : StoreMoves s (withdrawDrain s) := by
  unfold withdrawDrain
  split
  · next asked =>
    exact ⟨s.wm.leave_contents, fun calm => absurd (asked.symm.trans calm) nofun, rfl, rfl, rfl, rfl, rfl, rfl, rfl⟩
  · exact ⟨.refl _, fun _ => ⟨rfl, rfl⟩, rfl, rfl, rfl, rfl, rfl, rfl, rfl⟩

theorem chooseDuringErase_moves (h : s.store.erase = some e) (on : s.store.power = .on) :
    StoreMoves s (chooseDuringErase e s) ∧ (chooseDuringErase e s).store.power = .on
      ∧ (chooseDuringErase e s).store.erase ≠ none := by
  have erasing : s.store.erase ≠ none := by rw [h]; nofun
  unfold chooseDuringErase
  split
  · exact ⟨.of_store _ _ _, on, erasing⟩
  · split
    · exact ⟨.of_store _ _ _, on, nofun⟩
    · exact ⟨.of_store _ _ _, on, erasing⟩
  · exact ⟨.of_store _ _ _, on, erasing⟩
  · rw [grantTurn_eq]
    exact ⟨.of_store _ _ _, on, erasing⟩
  · rw [grantWave_eq]
    exact ⟨.of_store _ _ _, on, erasing⟩
  · exact ⟨.of_store _ _ _, on, nofun⟩

/-- The array powers up, or is ON with an operation or an erase under way: the executor is granted nothing. -/
def StoreTaken (st : Store) : Prop := st.power = .poweringUp ∨ (st.power = .on ∧ (st.op ≠ none ∨ st.erase ≠ none))

theorem serveOnce_taken (h : StoreTaken s.store) : StoreMoves s (serveOnce s) ∧ StoreTaken (serveOnce s).store := by
  rcases h with up | ⟨on, busy⟩
  · rw [serveOnce_poweringUp up]
    exact ⟨.of_store _ _ _, .inl up⟩
  · cases op : s.store.op with
    | some o =>
      have busy : s.store.op ≠ none := by rw [op]; nofun
      rw [serveOnce_busy on busy]
      exact ⟨.of_store _ _ _, .inr ⟨on, .inl busy⟩⟩
    | none =>
      obtain ⟨e, erase⟩ := Option.ne_none_iff_exists'.mp (busy.resolve_left fun h => h op)
      rw [serveOnce_erasing on op erase]
      obtain ⟨moves, on, erasing⟩ := chooseDuringErase_moves erase on
      exact ⟨moves, .inr ⟨on, .inr erasing⟩⟩

theorem serveOnce_moves (waits : s.store.ta ≠ none ∨ s.store.wf ≠ none) :
    StoreMoves s (serveOnce s) ∧ StoreTaken (serveOnce s).store := by
  cases power : s.store.power with
  | poweringUp => exact serveOnce_taken (.inl power)
  | off =>
    have asked : s.store.waiting = true := Store.waiting_iff.mpr (waits.imp_right .inl)
    have once : serveOnce s = withdrawDrain (s.modStore fun st => { st with power := .poweringUp, idle := none }) := by
      simp only [serveOnce, power, asked, if_true]
    rw [once]
    refine ⟨(StoreMoves.of_store _ s.turn s).trans (withdrawDrain_moves _), .inl ?_⟩
    unfold withdrawDrain
    split <;> rfl
  | on =>
    by_cases busy : s.store.op ≠ none ∨ s.store.erase ≠ none
    · exact serveOnce_taken (.inr ⟨power, busy⟩)
    · obtain ⟨op, erase⟩ := not_or.mp busy
      rw [serveOnce_free power (Classical.not_not.mp op) (Classical.not_not.mp erase)]
      cases ta : s.store.ta with
      | some p =>
        simp only [chooseOperation, ta, grantTurn_eq]
        exact ⟨.of_store _ _ _, .inr ⟨power, .inl nofun⟩⟩
      | none =>
        obtain ⟨p, wf⟩ := Option.ne_none_iff_exists'.mp (waits.resolve_left fun h => h ta)
        simp only [chooseOperation, ta, wf, grantWave_eq]
        exact ⟨.of_store _ _ _, .inr ⟨power, .inl nofun⟩⟩

/-- While an internal reader waits the executor is granted nothing (R179). -/
theorem serveStore_moves (waits : s.store.ta ≠ none ∨ s.store.wf ≠ none) : StoreMoves s (serveStore s) := by
  obtain ⟨moves, taken⟩ := serveOnce_moves waits
  exact moves.trans (serveOnce_taken taken).1

theorem requestLoadPage_moves (l : Load) (s : State) : StoreMoves s (requestLoadPage l s) :=
  (StoreMoves.of_store { s.store with wf := some l.nextPage } s.turn s).trans (serveStore_moves (.inr nofun))

/-! ## Pages and the check -/

/-- The pages that a load needs, once its first page has been read (R85). -/
def pagesNeeded (l : Load) (h : List Byte) : Nat := if l.progress = 1 then setPages h else l.needed

theorem pageLoaded_bad (load : s.wave.load = some l)
    (bad : l.progress = 1 ∧ headerOk (s.wm.header s.wave.active.other) l.count = false) :
    pageLoaded s = endLoad .badWaveform s := by
  simp only [pageLoaded, load]
  exact if_pos bad

theorem pageLoaded_next (load : s.wave.load = some l)
    (good : ¬ (l.progress = 1 ∧ headerOk (s.wm.header s.wave.active.other) l.count = false))
    (more : l.progress < pagesNeeded l (s.wm.header s.wave.active.other)) :
    pageLoaded s = requestLoadPage l (s.modWave fun v =>
      { v with load := some { l with needed := pagesNeeded l (s.wm.header s.wave.active.other) } }) := by
  simp only [pageLoaded, load, if_neg good]
  refine (if_pos more).trans ?_
  simp only [State.modWave, Wave.modLoad, load]
  rfl

theorem pageLoaded_last (load : s.wave.load = some l)
    (good : ¬ (l.progress = 1 ∧ headerOk (s.wm.header s.wave.active.other) l.count = false))
    (last : pagesNeeded l (s.wm.header s.wave.active.other) ≤ l.progress) :
    pageLoaded s = wmRequest .waveformLoader (s.modWave fun v =>
      { v with load := some { l with
          needed := pagesNeeded l (s.wm.header s.wave.active.other), stage := .checking } }) := by
  simp only [pageLoaded, load, if_neg good]
  refine (if_neg (Nat.not_lt.mpr last)).trans ?_
  simp only [State.modWave, Wave.modLoad, load]
  rfl

/-- What a page that has been written leaves as it is. -/
structure PageKept (s u : State) : Prop where
  memory : SameContents s.wm u.wm
  panel  : u.panel = s.panel
  active : u.wave.active = s.wave.active
  shared : u.shared = s.shared
  light  : u.light = s.light
  calm   : s.power.drainAsked = false → u.wm.state = s.wm.state ∧ u.power = s.power

theorem pageLoaded_kept (load : s.wave.load = some l) : PageKept s (pageLoaded s) := by
  by_cases bad : l.progress = 1 ∧ headerOk (s.wm.header s.wave.active.other) l.count = false
  · rw [pageLoaded_bad load bad, endLoad_eq load]
    obtain ⟨-, -, -, -, power, wm, wave, panel, -, -, -, light, -, -, shared, -⟩ := completeRecord_keeps .display l.addr
      .badWaveform l.detail l.progress (s.modWave fun v => { v with load := none })
    exact ⟨by rw [wm]; exact .refl _, panel, by rw [wave]; rfl, shared, light, fun _ =>
      ⟨congrArg WorkMem.state wm, power⟩⟩
  · by_cases more : l.progress < pagesNeeded l (s.wm.header s.wave.active.other)
    · rw [pageLoaded_next load bad more]
      obtain ⟨memory, calm, -, -, -, wave, panel, light, shared⟩ := requestLoadPage_moves l (s.modWave fun v =>
        { v with load := some { l with needed := pagesNeeded l (s.wm.header s.wave.active.other) } })
      exact ⟨memory, panel, by rw [wave]; rfl, shared, light, fun asked =>
        ⟨congrArg WorkMem.state (calm asked).1, (calm asked).2⟩⟩
    · rw [pageLoaded_last load bad (Nat.le_of_not_lt more)]
      exact ⟨wmRequest_contents _ _, rfl, rfl, rfl, rfl, fun _ => ⟨wmRequest_state _ _, rfl⟩⟩

theorem endLoad_writable (load : s.wave.load = some l) (writable : Writable .display l.addr s) : endLoad res s =
    { s with
        wave := { s.wave with load := none }
        bus := { s.bus with queue := s.bus.queue ++ doneAccesses .display l.addr res l.detail l.progress } } := by
  rw [endLoad_eq load, completeRecord_writable (writable.congr (by rfl))]
  rfl

theorem pageLoaded_link (load : s.wave.load = some l) (writable : Writable .display l.addr s) :
    (pageLoaded s).regs = s.regs ∧ (pageLoaded s).link = s.link := by
  by_cases bad : l.progress = 1 ∧ headerOk (s.wm.header s.wave.active.other) l.count = false
  · rw [pageLoaded_bad load bad, endLoad_writable load writable]
    exact ⟨rfl, rfl⟩
  · by_cases more : l.progress < pagesNeeded l (s.wm.header s.wave.active.other)
    · rw [pageLoaded_next load bad more]
      obtain ⟨-, -, regs, link, -⟩ := requestLoadPage_moves l (s.modWave fun v =>
        { v with load := some { l with needed := pagesNeeded l (s.wm.header s.wave.active.other) } })
      exact ⟨regs, link⟩
    · rw [pageLoaded_last load bad (Nat.le_of_not_lt more)]
      exact ⟨rfl, rfl⟩

/-- What a page that is not refused leads to: the request for the next one, or the check. -/
structure PageGoesOn (l : Load) (p : Nat) (s u : State) : Prop where
  port   : u.regs = s.regs ∧ u.link = s.link ∧ u.bus = s.bus
  next   : l.progress < p → ∀ st, LoaderAsks s l.nextPage st →
    u.store = st ∧ u.turn = s.turn ∧ u.wave = { s.wave with load := some { l with needed := p } }
  checks : p ≤ l.progress → u.store = s.store ∧ u.turn = s.turn
    ∧ u.wave = { s.wave with load := some { l with needed := p, stage := .checking } }
  grant  : p ≤ l.progress → s.wm.state = .active → s.wm.debt < 8 → s.wm.running = none → s.wm.waiting = [] →
    u.wm.running = some (.burst .waveformLoader)

theorem pageLoaded_goesOn (load : s.wave.load = some l)
    (good : ¬ (l.progress = 1 ∧ headerOk (s.wm.header s.wave.active.other) l.count = false)) :
    PageGoesOn l (pagesNeeded l (s.wm.header s.wave.active.other)) s (pageLoaded s) := by
  by_cases more : l.progress < pagesNeeded l (s.wm.header s.wave.active.other)
  · rw [pageLoaded_next load good more]
    obtain ⟨-, -, regs, link, bus, -⟩ := requestLoadPage_moves l (s.modWave fun v =>
      { v with load := some { l with needed := pagesNeeded l (s.wm.header s.wave.active.other) } })
    refine ⟨⟨regs, link, bus⟩, fun _ st asks => ?_, fun last => by omega, fun last => by omega⟩
    rw [requestLoadPage_asks (s := s.modWave fun v =>
      { v with load := some { l with needed := pagesNeeded l (s.wm.header s.wave.active.other) } }) asks]
    exact ⟨rfl, rfl, rfl⟩
  · rw [pageLoaded_last load good (Nat.le_of_not_lt more)]
    exact ⟨⟨rfl, rfl, rfl⟩, fun less => absurd less more, fun _ => ⟨rfl, rfl, rfl⟩, fun _ active debt free alone =>
      wmRequest_granted _ (WorkMem.serves_iff.mpr (.inl active)) debt free alone⟩

/-- The state in which a page stands in its bank (R84). -/
def pageWrittenState (l : Load) (data : List Byte) (s : State) : State :=
  (wmDrop .waveformLoader (s.modWm fun w => w.writeBank s.wave.active.other (l.progress * 4096) data)).modWave fun v =>
    { v with load := some { l with progress := l.progress + 1, page := none } }

theorem exec_pageWritten {data : List Byte} (load : s.wave.load = some l) (page : l.page = some data)
    (serves : s.wm.state = .active ∨ s.wm.state = .entering) :
    exec .waveformPageWritten s = commit s (pageLoaded (pageWrittenState l data s)) := by
  simp only [exec, execWaveformPageWritten, load, page, WorkMem.serves_iff.mpr serves, if_true]
  simp [pageWrittenState, Wave.modLoad, State.modWave, load]

theorem pageWritten_banks (w : WorkMem) (b : Bank) (off : Nat) (data : List Byte) :
    (w.writeBank b.other off data).bank b.other = overlay (w.bank b.other) off data
      ∧ (w.writeBank b.other off data).bank b = w.bank b := by
  cases b <;> exact ⟨rfl, rfl⟩

theorem flip_load : (flip s).wave.load = s.wave.load := by
  cases h : s.wave.active <;> simp [flip, Wave.setValid, h, Bank.other]

theorem flip_wave (s : State) : (flip s).wave.active = s.wave.active.other
    ∧ (flip s).wave.valid s.wave.active.other = true
    ∧ (flip s).wave.valid s.wave.active = s.wave.valid s.wave.active
    ∧ (flip s).wave.range = some (match s.sense.shown.temperature with
      | some T => candidate (s.wm.header s.wave.active.other) T (setRanges (s.wm.header s.wave.active.other))
      | none   => setDefault (s.wm.header s.wave.active.other))
    ∧ (bankReferenced s.wave.active s = false → (flip s).wave.period = setPeriod (s.wm.header s.wave.active.other))
    ∧ (bankReferenced s.wave.active s = true → (flip s).wave.period = s.wave.period) := by
  refine ⟨rfl, ?_, ?_, rfl, fun free => ?_, fun held => ?_⟩
  · cases h : s.wave.active <;> simp [flip, Wave.setValid, h, Bank.other, Wave.valid]
  · cases h : s.wave.active <;> simp [flip, Wave.setValid, h, Bank.other, Wave.valid]
  · exact if_neg (by simp [free])
  · refine (if_pos held).trans ?_
    cases h : s.wave.active.other <;> rfl

theorem exec_crcCheckEnd (load : s.wave.load = some l) (stage : l.stage = .checking)
    (serves : s.wm.state = .active ∨ s.wm.state = .entering) : exec .waveformCrcCheckEnd s =
      commit s (if bankCrcOk s then endLoad .ok (flip (wmDrop .waveformLoader s))
        else endLoad .badWaveform (wmDrop .waveformLoader s)) :=
  if_pos (by simp [load, stage, WorkMem.serves_iff.mpr serves])

/-- Settles O32: the pages, by what the header says, and the check. -/
theorem waveformPagesAndFlip : Obligations.WaveformPagesAndFlip := by
  refine ⟨fun s l data load page serves => ?_, fun s l load stage serves writable => ⟨fun sound => ?_, fun bad => ?_⟩⟩
  · refine ⟨_, exec_pageWritten load page serves, ?_⟩
    have written : (pageWrittenState l data s).wave.load =
      some { l with progress := l.progress + 1, page := none } := rfl
    obtain ⟨memory, panel, active, shared, light, calm⟩ := pageLoaded_kept written
    obtain ⟨new, old⟩ := pageWritten_banks s.wm s.wave.active (l.progress * 4096) data
    obtain ⟨wpanel, frameA, frameB, decode, epoch, state, owed, waits, runs⟩ :=
      s.wm.writeBank_keeps s.wave.active.other (l.progress * 4096) data
    have header : (pageLoaded (pageWrittenState l data s)).wm.header s.wave.active.other =
        (pageWrittenState l data s).wm.header s.wave.active.other := memory.header _
    rw [settlePort_eq]
    refine ⟨(memory.bank _).trans new, (memory.bank _).trans old, memory.panel.trans wpanel,
      memory.frameA.trans frameA, memory.frameB.trans frameB, memory.decode.trans decode, memory.epoch.trans epoch,
      panel, active, shared, light, fun asked => ⟨(calm asked).1.trans state, (calm asked).2⟩,
      fun writable => pageLoaded_link written (writable.congr rfl), fun first writable bad => ?_, fun p pages => ?_⟩
    · have bad : headerOk ((pageWrittenState l data s).wm.header s.wave.active.other) l.count = false := by
        rw [← header]
        exact bad
      have loaded := (pageLoaded_bad written ⟨congrArg (· + 1) first, bad⟩).trans
        (endLoad_writable written (writable.congr rfl))
      rw [loaded, first]
      refine ⟨rfl, rfl, rfl, settled_asks (u := pageLoaded (pageWrittenState l data s)) ?_ ?_ ?_⟩
      · rw [loaded, first]
      · rw [loaded, first]
        rfl
      · rw [loaded]
        rfl
    · have needed : (l.progress = 0 → headerOk ((pageWrittenState l data s).wm.header s.wave.active.other) l.count = true)
          ∧ pagesNeeded { l with progress := l.progress + 1, page := none }
            ((pageWrittenState l data s).wm.header s.wave.active.other) = p := by
        rw [← header]
        rcases pages with ⟨first, good, rfl⟩ | ⟨later, rfl⟩
        · exact ⟨fun _ => good, if_pos (congrArg (· + 1) first)⟩
        · exact ⟨fun first => by omega, if_neg (by dsimp only; omega)⟩
      obtain ⟨good, rfl⟩ := needed
      have sound : ¬ (l.progress + 1 = 1 ∧
          headerOk ((pageWrittenState l data s).wm.header s.wave.active.other) l.count = false) := by
        rintro ⟨first, bad⟩
        exact absurd ((good (by omega)).symm.trans bad) nofun
      obtain ⟨⟨regs, link, bus⟩, next, checks, grant⟩ := pageLoaded_goesOn written sound
      exact ⟨regs, link, settled_asks rfl (by rw [bus, List.append_nil]; rfl) (by rw [bus]; rfl),
        fun st more asks => next more st asks, fun last => ⟨(checks last).1, (checks last).2.1, (checks last).2.2,
          fun active debt free alone => grant last (state.trans active) (Nat.lt_of_le_of_lt (Nat.le_of_eq owed) debt) (runs.trans free) (by
            exact (congrArg (List.erase · WmClient.waveformLoader) (waits.trans alone)))⟩⟩
  · have run := exec_crcCheckEnd load stage serves
    rw [if_pos sound, endLoad_writable (s := flip (wmDrop .waveformLoader s)) (flip_load.trans load)
      (writable.congr rfl)] at run
    obtain ⟨t, run, eq, asks⟩ := exec_asks run rfl rfl
    obtain ⟨active, valid, other, range, free, held⟩ := flip_wave (wmDrop .waveformLoader s)
    have wave : t.wave = { (flip (wmDrop .waveformLoader s)).wave with load := none } := by rw [eq]
    refine ⟨t, run, ?_⟩
    rw [wave]
    refine ⟨active, valid, other, fun cold => range.trans ?_, fun T warm => range.trans ?_, free, held, rfl, asks, ?_⟩
    · rw [show (wmDrop .waveformLoader s).sense.shown.temperature = none from cold]
      rfl
    · rw [show (wmDrop .waveformLoader s).sense.shown.temperature = some T from warm]
      rfl
    · rw [eq]
      rfl
  · have run := exec_crcCheckEnd load stage serves
    rw [if_neg (by simp [bad]), endLoad_writable (s := wmDrop .waveformLoader s) load (writable.congr rfl)] at run
    obtain ⟨t, run, eq, asks⟩ := exec_asks run rfl rfl
    refine ⟨t, run, ?_, ?_, asks⟩ <;> rw [eq] <;> rfl

end Sys2Proof.Machine
end

section
/-!
PROOFS. The array arbiter's grants, page reads, surveys and the idle timer (09 R167, R170, R175, R179).
-/

namespace Sys2Proof.Machine

open Sys2Proof

variable {c : Instr} {s t u v : State} {a : ArrayClient} {p n : Nat} {page : RawPage} {second erased : Bool}
  {d : List Byte} {l : Load} {o : ArrayOp} {why : RawWhy} {f : Fill}

/-! ## An operation in flight -/

theorem Store.op_none {st : Store} (h : st.op = none) : { st with op := none } = st := by rw [← h]

theorem endOp_placed (h : s.store.op = none) (o : ArrayOp) :
    endOp { s with store := { s.store with op := some o } } = s := by
  have same := Store.op_none h
  exact congrArg (fun st => { s with store := st }) same

/-- With nothing waiting and nothing under way the idle timer starts (R167). -/
theorem serveStore_free (free : ArrayFree s) (idle : s.store.idle = none) :
    serveStore s = { s with store := { s.store with idle := some s.store.idleTime } } := by
  obtain ⟨on, op, erase, ta, wf, ex⟩ := free
  rw [serveStore_idle on op erase ta wf ex, idle]
  rfl

/-- A request that the executor posts at an array that is free is granted at once (R179). -/
theorem serveStore_posted {r : ExRequest} (free : ArrayFree s) (grant : grantExecutor r (postRequest r s) =
    (postRequest r s).modStore fun st => { st with ex := none }.launch o) :
    serveStore (postRequest r s) = { s with store := { s.store with op := some o, idle := none } } := by
  obtain ⟨on, op, erase, ta, wf, ex⟩ := free
  rw [serveStore_executor (s := postRequest r s) on op erase ta wf rfl,
    grantExecutor_launches (s := postRequest r s) on grant]
  exact congrArg (fun x => { s with store := { s.store with op := some o, idle := none, ex := x } }) ex.symm

theorem ArrayFree.congr (h : ArrayFree s) (store : u.store = s.store) : ArrayFree u := by
  unfold ArrayFree
  rwa [store]

/-! ## Page reads -/

/-- What a page read that does not mismatch returns, and the indication that the page is erased (R175). -/
def ReadReturns (page : RawPage) (d : List Byte) (erased : Bool) : Prop :=
  (pageErased page = true ∧ d = List.replicate 4096 0xFF#8 ∧ erased = true)
    ∨ (pageErased page = false ∧ crc32 page.data = page.pageCrc ∧ d = page.data ∧ erased = false)

theorem readReturns_warns {w : Word}
    (h : (pageErased page = true ∧ d = List.replicate 4096 0xFF#8 ∧ w = warnErased)
      ∨ (pageErased page = false ∧ crc32 page.data = page.pageCrc ∧ d = page.data ∧ w = 0#32)) :
    ReadReturns page d (pageErased page) ∧ w = warnIf (pageErased page) warnErased := by
  rcases h with ⟨ones, rfl, rfl⟩ | ⟨written, crc, rfl, rfl⟩
  · rw [ones]
    exact ⟨.inl ⟨ones, rfl, rfl⟩, rfl⟩
  · rw [written]
    exact ⟨.inr ⟨written, crc, rfl, rfl⟩, rfl⟩

theorem exec_pageRead (op : s.store.op = some (.read a p second)) (wf : (Instr.pageReadEnd page).wellFormed = true)
    (h : ReadReturns page d erased) : exec (.pageReadEnd page) s = commit s (finishRead a (some d) erased s) := by
  rcases h with ⟨ones, rfl, rfl⟩ | ⟨written, crc, rfl, rfl⟩
  · have kind : classifyPage page = .erased := if_pos ones
    simp only [exec, execPageReadEnd, op, kind]
  · have kind : classifyPage page = .sound := by simp [classifyPage, written, crc]
    have length : page.data.length = 4096 := by
      have checked : page.wellFormed = true := wf
      simp only [RawPage.wellFormed, Bool.and_eq_true, beq_iff_eq] at checked
      exact checked.1
    have whole : sized 4096 page.data = page.data := by simp [sized, ← length]
    simp only [exec, execPageReadEnd, op, kind, whole]

theorem exec_pageRead_mismatch (op : s.store.op = some (.read a p second)) (written : pageErased page = false)
    (crc : crc32 page.data ≠ page.pageCrc) :
    exec (.pageReadEnd page) s = commit s (readMismatch a p second s) := by
  have kind : classifyPage page = .mismatch := by simp [classifyPage, written, crc]
  simp only [exec, execPageReadEnd, op, kind]

theorem exec_readTimesOut (op : s.store.op = some (.read a p second)) :
    exec .busyLimitExpiry s = commit s (readMismatch a p second s) := by
  simp only [exec, execBusyLimitExpiry, op]

/-- A read that fails for the second time, by a mismatch or at its busy limit. -/
theorem exec_readFails (op : s.store.op = some (.read a p true))
    (h : c = .busyLimitExpiry ∨ (c = .pageReadEnd page ∧ pageErased page = false ∧ crc32 page.data ≠ page.pageCrc)) :
    exec c s = commit s (finishRead a none false s) := by
  rcases h with rfl | ⟨rfl, written, crc⟩
  · exact (exec_readTimesOut op).trans (congrArg (commit s) (if_pos rfl))
  · exact (exec_pageRead_mismatch op written crc).trans (congrArg (commit s) (if_pos rfl))

theorem finishRead_placed (h : s.store.op = none) (x : Option (List Byte)) :
    finishRead a x erased { s with store := { s.store with op := some o } } = serveStore (deliverRead a x erased s) := by
  rw [finishRead, endOp_placed h]

/-! ## Grants at power-up -/

theorem exec_powerUp (h : s.store.power = .poweringUp) :
    exec .arrayPowerUpEnd s = commit s (serveStore (s.modStore fun st => { st with power := .on })) := if_pos h

/-! ## Surveys -/

theorem exec_rawRead (op : s.store.op = some (.raw p why second)) :
    exec (.rawReadEnd page) s = commit s (serveStore (surveyPage p why page (endOp s))) := by
  simp only [exec, execRawReadEnd, op]

theorem surveyPage_settles (h : (p % 64 = 0 ∧ page.retired = true ∧ f = .retired)
    ∨ (¬ (p % 64 = 0 ∧ page.retired = true) ∧ why ≠ .erase
        ∧ ((pageErased page = true ∧ f = .mark (p % 64)) ∨ (pageErased page = false ∧ p % 64 = 63 ∧ f = .mark 64)))) :
    surveyPage p why page s = settleFill (p / 64) f why s := by
  unfold surveyPage
  rcases h with ⟨first, retired, rfl⟩ | ⟨sound, survey, ⟨ones, rfl⟩ | ⟨written, last, rfl⟩⟩
  · exact if_pos (by simp [first, retired])
  · rw [if_neg (by simpa using sound), if_neg survey, if_pos ones]
  · rw [if_neg (by simpa using sound), if_neg survey, if_neg (by simp [written]), if_pos last]

theorem surveyPage_reads (sound : ¬ (p % 64 = 0 ∧ page.retired = true)) (survey : why ≠ .erase)
    (written : pageErased page = false) (more : p % 64 ≠ 63) :
    surveyPage p why page s = postRequest (.raw (p + 1) why) s := by
  unfold surveyPage
  rw [if_neg (by simpa using sound), if_neg survey, if_neg (by simp [written]), if_neg more]

theorem settleFill_blocks (b : Nat) (f : Fill) (why : RawWhy) (s : State) :
    (settleFill b f why s).store.blocks = (s.store.setFill b f).blocks := by
  unfold settleFill
  rw [show ∀ x, (surveySettled why x).store.blocks = x.store.blocks from fun x => by simp]
  rfl

theorem deliverTurn_some (d : List Byte) (erased : Bool) (s : State) : deliverRead .turnAhead (some d) erased s =
    { s with
        wm := (wmRequest .storeReader s).wm
        turn := { s.turn with arrived := s.turn.arrived ++ [some d] } } := rfl

theorem deliverTurn_none (erased : Bool) (ta : s.store.ta = none) : deliverRead .turnAhead none erased s =
    { s with turn := { s.turn with arrived := s.turn.arrived ++ [none] } } := by
  have same : { s.store with ta := none } = s.store := by rw [← ta]
  exact congrArg (fun st => { s with store := st, turn := { s.turn with arrived := s.turn.arrived ++ [none] } }) same

theorem deliverWave_some (d : List Byte) (erased : Bool) (load : s.wave.load = some l) :
    deliverRead .waveform (some d) erased s = { s with
      wm := (wmRequest .waveformLoader s).wm
      wave := { s.wave with
        load := some { l with page := some d, detail := l.detail ||| warnIf erased warnErased } } } := by
  have mapped : (s.wave.load.map fun l =>
      { l with page := some d, detail := l.detail ||| warnIf erased warnErased }) =
      some { l with page := some d, detail := l.detail ||| warnIf erased warnErased } := by rw [load]; rfl
  exact congrArg (fun x => { s with
    wm := (wmRequest .waveformLoader s).wm
    wave := { s.wave with load := x } }) mapped

/-- The outcome of a turn's page read stands among its pages (07 R137). -/
theorem turnRead_ends {x : Option (List Byte)} (free : ArrayFree s) (idle : s.store.idle = none)
    (run : exec c { s with store := { s.store with op := some (.read .turnAhead p second) } } =
      commit { s with store := { s.store with op := some (.read .turnAhead p second) } }
        (finishRead .turnAhead x erased { s with store := { s.store with op := some (.read .turnAhead p second) } })) :
    ∃ t, exec c { s with store := { s.store with op := some (.read .turnAhead p second) } } = .next t
      ∧ t = { s with bus := t.bus, wm := t.wm, turn := { s.turn with arrived := s.turn.arrived ++ [x] },
                     store := { s.store with idle := some s.store.idleTime } } := by
  rw [finishRead_placed free.2.1] at run
  cases x with
  | some d =>
    rw [deliverTurn_some, serveStore_free (s := { s with
      wm := (wmRequest .storeReader s).wm
      turn := { s.turn with arrived := s.turn.arrived ++ [some d] } }) free idle] at run
    exact (exec_asksNothing run rfl).imp fun t ⟨run, eq, _⟩ => ⟨run, eq.trans (by rw [eq])⟩
  | none =>
    rw [deliverTurn_none erased free.2.2.2.1, serveStore_free (s := { s with
      turn := { s.turn with arrived := s.turn.arrived ++ [none] } }) free idle] at run
    exact (exec_asksNothing run rfl).imp fun t ⟨run, eq, _⟩ => ⟨run, eq.trans (by rw [eq])⟩

/-- Settles O46, by what stood in flight. -/
theorem arrayServesReads : Obligations.ArrayServesReads := by
  refine fun s op erase => ⟨fun up => ⟨fun a p waits => ?_, fun ta wf ex idle => ?_⟩, fun on idle => ?_,
    fun a p page u h => ?_, fun free idle p second page u wf h d returns => ?_,
    fun on p n second page d u wf h returns => ?_, fun free idle p second page l u wf load h => ?_,
    fun free idle p second page u wf reading h => ?_, fun free wf p why second page u h => ?_⟩
  · have run := exec_powerUp up
    rcases waits with ⟨rfl, ta⟩ | ⟨rfl, ta, wf⟩ | ⟨rfl, ta, wf, ex⟩
    · rw [serveStore_turn (s := s.modStore fun st => { st with power := .on }) rfl op erase ta, grantTurn_eq] at run
      obtain ⟨t, run, eq, asks⟩ := exec_asksNothing run rfl
      exact ⟨t, run, asks, eq⟩
    · rw [serveStore_wave (s := s.modStore fun st => { st with power := .on }) rfl op erase ta wf, grantWave_eq] at run
      obtain ⟨t, run, eq, asks⟩ := exec_asksNothing run rfl
      refine ⟨t, run, asks, eq.trans ?_⟩
      rw [← ta]
      rfl
    · rw [serveStore_executor (s := s.modStore fun st => { st with power := .on }) rfl op erase ta wf ex,
        grantExecutor_launches (o := .read .executor p false) rfl rfl] at run
      obtain ⟨t, run, eq, asks⟩ := exec_asksNothing run rfl
      refine ⟨t, run, asks, eq.trans ?_⟩
      rw [← ta]
      rfl
  · have run := exec_powerUp up
    rw [serveStore_idle (s := s.modStore fun st => { st with power := .on }) rfl op erase ta wf ex] at run
    obtain ⟨t, run, eq, asks⟩ := exec_asksNothing run rfl
    refine ⟨t, run, asks, eq.trans ?_⟩
    rw [State.modStore, idle]
    rfl
  · have run : exec .arrayIdleTimerExpiry s = commit s (powerOffArray s) :=
      if_pos ⟨on, Option.isSome_iff_ne_none.mpr idle⟩
    exact (exec_asksNothing run rfl).imp fun t ⟨run, eq, _⟩ => ⟨run, eq⟩
  · subst h
    have again : exec .busyLimitExpiry _ = commit _ _ := exec_readTimesOut (a := a) (p := p) (second := false)
      (s := { s with store := { s.store with op := some (.read a p false) } }) rfl
    refine ⟨?_, fun written crc => ?_⟩
    · exact (exec_asksNothing again rfl).imp fun t ⟨run, eq, _⟩ => ⟨run, eq⟩
    · have run := exec_pageRead_mismatch (page := page) (a := a) (p := p) (second := false)
        (s := { s with store := { s.store with op := some (.read a p false) } }) rfl written crc
      exact (exec_asksNothing run rfl).imp fun t ⟨run, eq, _⟩ => ⟨run, eq⟩
  · subst h
    rcases returns with ⟨ones, rfl⟩ | ⟨written, crc, rfl⟩ | ⟨written, crc, rfl, rfl⟩
    · exact turnRead_ends free idle (exec_pageRead rfl wf (.inl ⟨ones, rfl, rfl⟩))
    · exact turnRead_ends free idle (exec_pageRead rfl wf (.inr ⟨written, crc, rfl, rfl⟩))
    · exact turnRead_ends free idle (exec_readFails rfl (.inr ⟨rfl, written, crc⟩))
  · subst h
    have read := exec_pageRead (d := d) (erased := pageErased page) (a := .turnAhead) (p := p) (second := second)
      (s := { s with store := { s.store with op := some (.read .turnAhead p second), ta := some n } }) rfl wf (by
        rcases returns with ⟨ones, rfl⟩ | ⟨written, crc, rfl⟩
        · exact .inl ⟨ones, rfl, ones⟩
        · exact .inr ⟨written, crc, rfl, written⟩)
    have ended : endOp { s with store := { s.store with op := some (.read .turnAhead p second), ta := some n } } =
        { s with store := { s.store with ta := some n } } :=
      congrArg (fun x => { s with store := { s.store with op := x, ta := some n } }) op.symm
    rw [finishRead, ended, deliverTurn_some,
      serveStore_turn (s := { s with
        store := { s.store with ta := some n }
        wm := (wmRequest .storeReader { s with store := { s.store with ta := some n } }).wm
        turn := { s.turn with arrived := s.turn.arrived ++ [some d] } }) on op erase rfl, grantTurn_eq] at read
    exact (exec_asksNothing read rfl).imp fun t ⟨run, eq, _⟩ => ⟨run, eq.trans (by rw [eq]; rfl)⟩
  · subst h
    refine ⟨fun d w returns => ?_, fun writable twice c fails => ?_⟩
    · obtain ⟨returned, warns⟩ := readReturns_warns returns
      have run := exec_pageRead (a := .waveform) (p := p) (second := second)
        (s := { s with store := { s.store with op := some (.read .waveform p second) } }) rfl wf returned
      rw [finishRead_placed free.2.1, deliverWave_some d _ load, ← warns,
        serveStore_free (s := { s with
          wm := (wmRequest .waveformLoader s).wm
          wave := { s.wave with load := some { l with page := some d, detail := l.detail ||| w } } }) free idle] at run
      exact (exec_asksNothing run rfl).imp fun t ⟨run, eq, _⟩ => ⟨run, eq.trans (by rw [eq])⟩
    · subst twice
      have run := exec_readFails (s := { s with store := { s.store with op := some (.read .waveform p true) } })
        (a := .waveform) rfl fails
      have failed : deliverRead .waveform none false s = endLoad .readError s := rfl
      rw [finishRead_placed free.2.1, failed, endLoad_writable load writable,
        serveStore_free (s := { s with
          wave := { s.wave with load := none }
          bus := { s.bus with
            queue := s.bus.queue ++ doneAccesses .display l.addr .readError l.detail l.progress } }) free idle] at run
      obtain ⟨t, run, eq, asks⟩ := exec_asks run rfl rfl
      refine ⟨t, run, ?_, ?_, asks⟩
      · rw [eq]
      · rw [eq]
  · subst h
    refine ⟨fun d w returns => ?_, fun writable twice c fails => ?_⟩
    · obtain ⟨returned, warns⟩ := readReturns_warns returns
      have run := exec_pageRead (a := .executor) (p := p) (second := second)
        (s := { s with store := { s.store with op := some (.read .executor p second) } }) rfl wf returned
      have done : deliverRead .executor (some d) (pageErased page) s = { s with
          bus := { s.bus with queue := s.bus.queue ++
            [.buffer .destination (wordNat s.executor.record.bytes 36 + s.executor.page * 4096) 4096] }
          executor := { s.executor with buf := d, detail := s.executor.detail ||| w } } := by
        rw [warns]
        rfl
      rw [finishRead_placed free.2.1, done, serveStore_free (s := { s with
        bus := { s.bus with queue := s.bus.queue ++
          [.buffer .destination (wordNat s.executor.record.bytes 36 + s.executor.page * 4096) 4096] }
        executor := { s.executor with buf := d, detail := s.executor.detail ||| w } }) free idle] at run
      obtain ⟨t, run, eq, asks⟩ := exec_asks run rfl rfl
      exact ⟨t, run, eq, asks⟩
    · subst twice
      have run := exec_readFails (s := { s with store := { s.store with op := some (.read .executor p true) } })
        (a := .executor) rfl fails
      have failed : deliverRead .executor none false s =
        finishExecutor .readError s.executor.detail s.executor.progress s := rfl
      rw [finishRead_placed free.2.1, failed, finishExecutor_writable writable,
        serveStore_free (s := { s with
          bus := { s.bus with
            queue := s.bus.queue ++ (doneAccesses .store s.executor.record.addr .readError s.executor.detail
              s.executor.progress) }
          executor := { Executor.reset with block := s.executor.block, progress := s.executor.progress } })
          free idle] at run
      obtain ⟨t, run, eq, asks⟩ := exec_asks run rfl rfl
      refine ⟨t, run, ?_, ?_, ?_, ?_, asks⟩ <;> rw [eq] <;> rfl
  · subst h
    have run := exec_rawRead (page := page) (p := p) (why := why) (second := second)
      (s := { s with store := { s.store with op := some (.raw p why second) } }) rfl
    rw [endOp_placed free.2.1] at run
    refine ⟨fun f settles => ?_, fun sound survey written more => ?_⟩
    · rw [surveyPage_settles settles] at run
      have blocks : (serveStore (settleFill (p / 64) f why s)).store.blocks = (s.store.setFill (p / 64) f).blocks := by
        rw [← settleFill_blocks _ _ why]
        simp
      refine ⟨_, run, ?_⟩
      rw [settlePort_eq]
      refine ⟨?_, fun b other => ?_, by simp⟩
      · exact (Store.block_congr blocks _).trans (Store.block_setFill_same wf _ f)
      · exact (Store.block_congr blocks _).trans (Store.block_setFill_other _ other f)
    · rw [surveyPage_reads sound survey written more] at run
      rw [serveStore_posted free (o := .raw (p + 1) why false) rfl] at run
      exact (exec_asksNothing run rfl).imp fun t ⟨run, eq, _⟩ => ⟨run, eq⟩

end Sys2Proof.Machine
end

section
/-!
PROOFS. Programs, erases, mark writes and suspensions (09 R164, R170 to R172, R176 to R181; 10 R192).
-/

namespace Sys2Proof.Machine

open Sys2Proof

variable {c : Instr} {s t u v : State} {a : ArrayClient} {p n : Nat} {page : RawPage} {second erased ok : Bool}
  {d : List Byte} {l : Load} {o : ArrayOp} {e : Erase} {k : TurnKey}

/-! ## The arbiter after a write -/

/-- With nothing waiting and nothing under way the arbiter moves the idle timer alone. -/
theorem serveStore_quiet (free : ArrayFree s) : serveStore s =
    { s with store := { s.store with idle := s.store.idle.or (some s.store.idleTime) } } := by
  obtain ⟨on, op, erase, ta, wf, ex⟩ := free
  exact serveStore_idle on op erase ta wf ex

/-- The arbiter leaves the executor's count as it is, also where it refuses its request. -/
theorem serveOnce_progress (s : State) : (serveOnce s).executor.progress = s.executor.progress := by
  unfold serveOnce
  split
  · rfl
  · split
    · simp
    · rfl
  · split
    · rfl
    · split
      · unfold chooseDuringErase
        split
        case h_2 => split <;> rfl
        all_goals simp [grantTurn_eq, grantWave_eq]
      · unfold chooseOperation
        split
        · simp [grantTurn_eq]
        · rfl
        · unfold grantExecutor
          repeat' split
          all_goals rfl
        · rfl

theorem serveStore_progress (s : State) : (serveStore s).executor.progress = s.executor.progress :=
  (serveOnce_progress _).trans (serveOnce_progress s)

theorem chooseDuringErase_running {b n : Nat} (waits : s.store.ta ≠ none ∨ s.store.wf ≠ none) :
    chooseDuringErase { block := b, phase := .running, count := n } s =
      if n < 16 then s.modStore fun st => { st with erase := some { block := b, phase := .suspending, count := n } }
      else s := by
  cases ta : s.store.ta with
  | some p => simp only [chooseDuringErase, ta] <;> rfl
  | none =>
    obtain ⟨p, wf⟩ := Option.ne_none_iff_exists'.mp (waits.resolve_left fun h => h ta)
    simp only [chooseDuringErase, ta, wf] <;> rfl

/-- A running erase gives way to a waiting read while its count allows it (R180). -/
theorem serveStore_suspends {b n : Nat} (on : s.store.power = .on) (op : s.store.op = none)
    (erase : s.store.erase = some { block := b, phase := .running, count := n })
    (waits : s.store.ta ≠ none ∨ s.store.wf ≠ none) : serveStore s =
      { s with store := { s.store with
          erase := some { block := b, phase := if n < 16 then .suspending else .running, count := n } } } := by
  by_cases room : n < 16
  · have once : serveOnce s =
        s.modStore fun st => { st with erase := some { block := b, phase := .suspending, count := n } } := by
      rw [serveOnce_erasing on op erase, chooseDuringErase_running waits, if_pos room]
    rw [serveStore, once, if_pos room]
    exact serveOnce_erasing (e := { block := b, phase := .suspending, count := n }) on op rfl
  · have once : serveOnce s = s := by
      rw [serveOnce_erasing on op erase, chooseDuringErase_running waits, if_neg room]
    rw [serveStore, once, once, if_neg room, ← erase]

/-- A suspended erase lets the Turn-Ahead reader read. -/
theorem serveStore_suspendedTurn {b n : Nat} (on : s.store.power = .on) (op : s.store.op = none)
    (erase : s.store.erase = some { block := b, phase := .suspended, count := n }) (ta : s.store.ta = some p) :
    serveStore s = grantTurn p s := by
  have once : serveOnce s = grantTurn p s := by
    rw [serveOnce_erasing on op erase]
    simp only [chooseDuringErase, ta]
  rw [serveStore, once, grantTurn_eq]
  exact serveOnce_busy on nofun

theorem serveStore_suspendedWave {b n : Nat} (on : s.store.power = .on) (op : s.store.op = none)
    (erase : s.store.erase = some { block := b, phase := .suspended, count := n }) (ta : s.store.ta = none)
    (wf : s.store.wf = some p) : serveStore s = grantWave p s := by
  have once : serveOnce s = grantWave p s := by
    rw [serveOnce_erasing on op erase]
    simp only [chooseDuringErase, ta, wf]
  rw [serveStore, once]
  exact serveOnce_busy on nofun

theorem serveOnce_erases {b n : Nat} (on : s.store.power = .on) (op : s.store.op = none)
    (erase : s.store.erase = some { block := b, phase := .running, count := n }) (ta : s.store.ta = none)
    (wf : s.store.wf = none) : serveOnce s = s := by
  rw [serveOnce_erasing on op erase]
  simp only [chooseDuringErase, ta, wf]

/-- A suspended erase is resumed where no read waits (R180). -/
theorem serveStore_resumes {b n : Nat} (on : s.store.power = .on) (op : s.store.op = none)
    (erase : s.store.erase = some { block := b, phase := .suspended, count := n }) (ta : s.store.ta = none)
    (wf : s.store.wf = none) : serveStore s =
      { s with store := { s.store with erase := some { block := b, phase := .running, count := n } } } := by
  have once : serveOnce s =
      s.modStore fun st => { st with erase := some { block := b, phase := .running, count := n } } := by
    rw [serveOnce_erasing on op erase]
    simp only [chooseDuringErase, ta, wf]
  rw [serveStore, once]
  exact serveOnce_erases on op rfl ta wf

/-! ## The ends of writes -/

theorem exec_programEnd (op : s.store.op = some (.program p d)) : exec (.pageProgramEnd ok) s =
    commit s (serveStore (if ok then programSucceeded p d (endOp s) else programFailed p (endOp s))) := by
  simp only [exec, execPageProgramEnd, op]

theorem exec_programFails (op : s.store.op = some (.program p d))
    (h : c = .pageProgramEnd false ∨ c = .busyLimitExpiry) :
    exec c s = commit s (serveStore (programFailed p (endOp s))) := by
  rcases h with rfl | rfl
  · exact exec_programEnd op
  · simp only [exec, execBusyLimitExpiry, op]

theorem runningErase_eq (op : s.store.op = none) (erase : s.store.erase = some e) (phase : e.phase ≠ .suspended) :
    runningErase s.store = some e := by
  simp [runningErase, op, erase, phase]

theorem exec_eraseEnd (op : s.store.op = none) (erase : s.store.erase = some e) (phase : e.phase ≠ .suspended) :
    exec (.eraseEnd ok) s =
      commit s (serveStore (if ok then eraseSucceeded e.block s else eraseFailed e.block s)) := by
  simp only [exec, execEraseEnd, runningErase_eq op erase phase]

theorem exec_eraseFails (op : s.store.op = none) (erase : s.store.erase = some e) (phase : e.phase ≠ .suspended)
    (h : c = .eraseEnd false ∨ c = .busyLimitExpiry) : exec c s = commit s (serveStore (eraseFailed e.block s)) := by
  rcases h with rfl | rfl
  · exact exec_eraseEnd op erase phase
  · simp only [exec, execBusyLimitExpiry, op, runningErase_eq op erase phase]

theorem exec_eraseSuspended (erase : s.store.erase = some e) (phase : e.phase = .suspending) :
    exec .eraseSuspended s = commit s (serveStore (s.modStore fun st =>
      { st with erase := some { e with phase := .suspended, count := e.count + 1 } })) := by
  simp only [exec, execEraseSuspended, erase, phase, if_true]

theorem exec_markEnd {b : Nat} (op : s.store.op = some (.mark b)) :
    exec (.markWriteEnd ok) s = commit s (serveStore (markEnded b ok (endOp s))) := by
  simp only [exec, execMarkWriteEnd, op]

/-! ## What the executor makes of them -/

theorem ingestPageDone_kept (s : State) : (ingestPageDone s).store = s.store ∧ (ingestPageDone s).shared = s.shared
    ∧ (ingestPageDone s).executor.progress = s.executor.progress + 1 := by
  unfold ingestPageDone
  dsimp only
  split
  · exact ⟨rfl, rfl, rfl⟩
  · simp [finishExecutor]

theorem startBlock_progress (b : Nat) (s : State) : (startBlock b s).executor.progress = s.executor.progress := by
  unfold startBlock
  dsimp only
  repeat' split
  all_goals rfl

theorem blockErased_kept (s : State) : (blockErased s).store.array = s.store.array
    ∧ (blockErased s).store.blocks = s.store.blocks ∧ (blockErased s).executor.progress = s.executor.progress + 1 := by
  unfold blockErased
  dsimp only
  split
  · exact ⟨by simp, by simp, (startBlock_progress _ _).trans rfl⟩
  · simp [finishExecutor]

theorem Store.page_congr {st st' : Store} (h : st'.array = st.array) (x : Nat) : st'.page x = st.page x := by
  rw [Store.page_eq, Store.page_eq, h]

theorem serveStore_array (s : State) : (serveStore s).store.array = s.store.array
    ∧ (serveStore s).store.blocks = s.store.blocks ∧ (serveStore s).shared = s.shared := by
  simp

/-- The array after one page of it has been written. -/
theorem Store.page_put {st st' : Store} {y : ArrayPage} (h : st'.array = sparsePut p y st.array) :
    st'.page p = y ∧ ∀ x, x ≠ p → st'.page x = st.page x := by
  refine ⟨?_, fun x other => ?_⟩
  · rw [Store.page_eq, h, pageIn_put, if_pos rfl]
  · rw [Store.page_eq, h, pageIn_put, if_neg other]
    rfl

/-- The array after every page of a block has been written. -/
theorem Store.page_fill {st st' : Store} {y : ArrayPage} {b : Nat} (wf : sparseWf st.array = true)
    (h : st'.array = fillBlock b y st.array) :
    (∀ i, i < 64 → st'.page (b * 64 + i) = y) ∧ ∀ x, x / 64 ≠ b → st'.page x = st.page x := by
  refine ⟨fun i less => ?_, fun x other => ?_⟩
  · rw [Store.page_eq, h, pageIn_fill wf, if_pos (by omega)]
  · rw [Store.page_eq, h, pageIn_fill wf, if_neg other]
    rfl

/-- The block table after the fill of one block has been entered. -/
theorem Store.block_fill {st st' : Store} {b : Nat} {f : Fill} (wf : sparseWf st.blocks = true)
    (h : st'.blocks = (st.setFill b f).blocks) :
    st'.block b = { st.block b with fill := f } ∧ ∀ x, x ≠ b → st'.block x = st.block x :=
  ⟨(Store.block_congr h b).trans (Store.block_setFill_same wf b f),
    fun x other => (Store.block_congr h x).trans (Store.block_setFill_other st other f)⟩

/-- After a failed write the executor asks at once for the mark of its block (10 R192). -/
theorem serveStore_retires (free : ArrayFree s) (b : Nat) : serveStore (beginRetiring b s) =
    { s with
        executor := { s.executor with phase := .retiring, block := b }
        store := { s.store with op := some (.mark b), idle := none } } :=
  serveStore_posted (s := s.modExecutor fun x => { x with phase := .retiring, block := b }) free rfl

/-- A page read ends with its data: the client has them, and the arbiter chooses again. -/
theorem exec_pageRead_placed (op : s.store.op = none) (wf : (Instr.pageReadEnd page).wellFormed = true)
    (h : ReadReturns page d erased) :
    exec (.pageReadEnd page) { s with store := { s.store with op := some (.read a p second) } } =
      commit { s with store := { s.store with op := some (.read a p second) } }
        (serveStore (deliverRead a (some d) erased s)) := by
  rw [exec_pageRead rfl wf h, finishRead_placed op]

/-- The state with an erase under way. -/
def erasing (e : Erase) (s : State) : State := { s with store := { s.store with erase := some e } }

theorem program_succeeds (free : ArrayFree s) (wf : sparseWf s.store.blocks = true) (p : Nat) (d : List Byte) :
    ∃ t, exec (.pageProgramEnd true) { s with store := { s.store with op := some (.program p d) } } = .next t
      ∧ t.store.page p = { s.store.page p with data := .written d (crc32 d) }
      ∧ (∀ x, x ≠ p → t.store.page x = s.store.page x)
      ∧ t.store.block (p / 64) = { s.store.block (p / 64) with fill := .mark (p % 64 + 1) }
      ∧ (∀ b, b ≠ p / 64 → t.store.block b = s.store.block b) ∧ t.executor.progress = s.executor.progress + 1
      ∧ t.shared = s.shared := by
  have run := exec_programEnd (ok := true) (s := { s with store := { s.store with op := some (.program p d) } }) rfl
  rw [endOp_placed free.2.1, if_pos rfl] at run
  refine ⟨_, run, ?_⟩
  rw [settlePort_eq]
  obtain ⟨store, shared, progress⟩ := ingestPageDone_kept (s.modStore fun st =>
    { st.setFill (p / 64) (.mark (p % 64 + 1)) with
        array := sparsePut p { st.page p with data := .written d (crc32 d) } st.array })
  obtain ⟨array, blocks, same⟩ := serveStore_array (programSucceeded p d s)
  obtain ⟨own, others⟩ := Store.page_put (array.trans (congrArg Store.array store))
  obtain ⟨block, apart⟩ := Store.block_fill wf (f := .mark (p % 64 + 1)) (blocks.trans (by
    rw [programSucceeded, store]
    rfl))
  exact ⟨own, others, block, apart, (serveStore_progress _).trans progress, same.trans shared⟩

theorem program_fails (free : ArrayFree s) (p : Nat) (d : List Byte)
    (h : c = .pageProgramEnd false ∨ c = .busyLimitExpiry) :
    ∃ t, exec c { s with store := { s.store with op := some (.program p d) } } = .next t
      ∧ t = { s with bus := t.bus, executor := { s.executor with phase := .retiring, block := p / 64 },
                     store := { s.store with op := some (.mark (p / 64)), idle := none, array := t.store.array } }
      ∧ t.store.page p = { data := .undefined, field := .undefined }
      ∧ ∀ x, x ≠ p → t.store.page x = s.store.page x := by
  have run := exec_programFails (s := { s with store := { s.store with op := some (.program p d) } }) rfl h
  rw [endOp_placed free.2.1, programFailed, serveStore_retires
    (s := s.modStore fun st => { st with array := sparsePut p .undefined st.array }) free] at run
  obtain ⟨t, run, eq, -⟩ := exec_asksNothing run rfl
  have array : t.store.array = sparsePut p .undefined s.store.array := by rw [eq]; rfl
  obtain ⟨own, others⟩ := Store.page_put array
  refine ⟨t, run, eq.trans ?_, own, others⟩
  rw [array]
  rfl

theorem erase_succeeds (arrayWf : sparseWf s.store.array = true) (blocksWf : sparseWf s.store.blocks = true)
    (op : s.store.op = none) (runs : e.phase ≠ .suspended) : ∃ t, exec (.eraseEnd true) (erasing e s) = .next t
      ∧ (∀ i, i < 64 → t.store.page (e.block * 64 + i) = { data := .erased, field := .blank })
      ∧ (∀ x, x / 64 ≠ e.block → t.store.page x = s.store.page x)
      ∧ t.store.block e.block = { s.store.block e.block with fill := .mark 0 }
      ∧ (∀ c, c ≠ e.block → t.store.block c = s.store.block c)
      ∧ t.executor.progress = s.executor.progress + 1 := by
  have run := exec_eraseEnd (ok := true) (s := erasing e s) op rfl runs
  rw [if_pos rfl] at run
  obtain ⟨array, blocks, progress⟩ := blockErased_kept ((erasing e s).modStore fun st =>
    { st.setFill e.block (.mark 0) with erase := none, array := fillBlock e.block .erased st.array })
  obtain ⟨array', blocks', -⟩ := serveStore_array (eraseSucceeded e.block (erasing e s))
  obtain ⟨own, others⟩ := Store.page_fill arrayWf (array'.trans array)
  obtain ⟨block, apart⟩ := Store.block_fill (st := s.store) (b := e.block) (f := .mark 0) blocksWf
    (blocks'.trans blocks)
  refine ⟨_, run, ?_⟩
  rw [settlePort_eq]
  exact ⟨own, others, block, apart, (serveStore_progress _).trans progress⟩

theorem erase_fails (free : ArrayFree s) (arrayWf : sparseWf s.store.array = true) (runs : e.phase ≠ .suspended)
    (h : c = .eraseEnd false ∨ c = .busyLimitExpiry) : ∃ t, exec c (erasing e s) = .next t
      ∧ t = { s with bus := t.bus, executor := { s.executor with phase := .retiring, block := e.block },
                     store := { s.store with op := some (.mark e.block), idle := none, array := t.store.array } }
      ∧ (∀ i, i < 64 → t.store.page (e.block * 64 + i) = { data := .undefined, field := .undefined })
      ∧ ∀ x, x / 64 ≠ e.block → t.store.page x = s.store.page x := by
  obtain ⟨on, op, erase, ta, wf, ex⟩ := free
  have run := exec_eraseFails (s := erasing e s) op rfl runs h
  rw [eraseFailed, serveStore_retires (s := (erasing e s).modStore fun st =>
    { st with erase := none, array := fillBlock e.block .undefined st.array }) ⟨on, op, rfl, ta, wf, ex⟩] at run
  obtain ⟨t, run, eq, -⟩ := exec_asksNothing run rfl
  have array : t.store.array = fillBlock e.block .undefined s.store.array := by rw [eq]; rfl
  obtain ⟨own, others⟩ := Store.page_fill arrayWf array
  refine ⟨t, run, eq.trans ?_, own, others⟩
  rw [array, ← erase]
  rfl

theorem suspended_turn {b n p : Nat} {w : Option Nat} (free : ArrayFree s) :
    ∃ t, exec .eraseSuspended { s with store := { s.store with
        ta := some p, wf := w, erase := some { block := b, phase := .suspending, count := n } } } = .next t
      ∧ t = { s with bus := t.bus, turn := turnAsked s.turn, store := { s.store with
          erase := some { block := b, phase := .suspended, count := n + 1 },
          op := some (.read .turnAhead p false), idle := none, ta := nextTurnPage s.turn, wf := w } } := by
  obtain ⟨on, op, -⟩ := free
  have run := exec_eraseSuspended (s := { s with store := { s.store with
    ta := some p, wf := w, erase := some { block := b, phase := .suspending, count := n } } }) rfl rfl
  rw [serveStore_suspendedTurn (by exact on) (by exact op) rfl rfl, grantTurn_eq] at run
  exact (exec_asksNothing run rfl).imp fun t ⟨run, eq, _⟩ => ⟨run, eq⟩

theorem suspended_wave {b n p : Nat} (free : ArrayFree s) :
    ∃ t, exec .eraseSuspended { s with store := { s.store with
        wf := some p, erase := some { block := b, phase := .suspending, count := n } } } = .next t
      ∧ t = { s with bus := t.bus, store := { s.store with
          erase := some { block := b, phase := .suspended, count := n + 1 },
          op := some (.read .waveform p false), idle := none } } := by
  obtain ⟨on, op, -, ta, wf, -⟩ := free
  have run := exec_eraseSuspended (s := { s with store := { s.store with
    wf := some p, erase := some { block := b, phase := .suspending, count := n } } }) rfl rfl
  rw [serveStore_suspendedWave (by exact on) (by exact op) rfl (by exact ta) rfl, grantWave_eq] at run
  refine (exec_asksNothing run rfl).imp fun t ⟨run, eq, _⟩ => ⟨run, eq.trans ?_⟩
  rw [← wf]
  rfl

theorem turnRead_resumes {b n : Nat} (free : ArrayFree s) (wf : (Instr.pageReadEnd page).wellFormed = true)
    (h : ReadReturns page d erased) :
    ∃ t, exec (.pageReadEnd page) { s with store := { s.store with
        op := some (.read .turnAhead p second),
        erase := some { block := b, phase := .suspended, count := n } } } = .next t
      ∧ t = { s with bus := t.bus, wm := t.wm, turn := { s.turn with arrived := s.turn.arrived ++ [some d] },
                     store := { s.store with erase := some { block := b, phase := .running, count := n } } } := by
  obtain ⟨on, op, -, ta, wf', -⟩ := free
  have run := exec_pageRead_placed (s := erasing { block := b, phase := .suspended, count := n } s) (a := .turnAhead)
    (p := p) (second := second) op wf h
  rw [deliverTurn_some, serveStore_resumes (by exact on) (by exact op) rfl (by exact ta) (by exact wf')] at run
  exact (exec_asksNothing run rfl).imp fun t ⟨run, eq, _⟩ => ⟨run, eq.trans (by rw [eq]; rfl)⟩

theorem turnRead_reads {b n m : Nat} {w : Option Nat} (free : ArrayFree s)
    (wf : (Instr.pageReadEnd page).wellFormed = true) (h : ReadReturns page d erased) :
    ∃ t, exec (.pageReadEnd page) { s with store := { s.store with
        op := some (.read .turnAhead p second), ta := some m, wf := w,
        erase := some { block := b, phase := .suspended, count := n } } } = .next t
      ∧ t = { s with bus := t.bus, wm := t.wm,
                     turn := { turnAsked s.turn with arrived := s.turn.arrived ++ [some d] },
                     store := { s.store with
                       idle := none, op := some (.read .turnAhead m false), ta := nextTurnPage s.turn, wf := w,
                       erase := some { block := b, phase := .suspended, count := n } } } := by
  obtain ⟨on, op, -⟩ := free
  have run := exec_pageRead_placed (s := erasing { block := b, phase := .suspended, count := n }
    { s with store := { s.store with ta := some m, wf := w } }) (a := .turnAhead)
    (p := p) (second := second) op wf h
  rw [deliverTurn_some, serveStore_suspendedTurn (by exact on) (by exact op) rfl rfl, grantTurn_eq] at run
  exact (exec_asksNothing run rfl).imp fun t ⟨run, eq, _⟩ => ⟨run, eq.trans (by rw [eq]; rfl)⟩

theorem waveRead_resumes {b n : Nat} (free : ArrayFree s) (wf : (Instr.pageReadEnd page).wellFormed = true)
    (h : ReadReturns page d false) (load : s.wave.load = some l) :
    ∃ t, exec (.pageReadEnd page) { s with store := { s.store with
        op := some (.read .waveform p second),
        erase := some { block := b, phase := .suspended, count := n } } } = .next t
      ∧ t = { s with bus := t.bus, wm := t.wm, wave := { s.wave with load := some { l with page := some d } },
                     store := { s.store with erase := some { block := b, phase := .running, count := n } } } := by
  obtain ⟨on, op, -, ta, wf', -⟩ := free
  have run := exec_pageRead_placed (s := erasing { block := b, phase := .suspended, count := n } s) (a := .waveform)
    (p := p) (second := second) op wf h
  have plain : l.detail ||| warnIf false warnErased = l.detail := BitVec.or_zero
  rw [deliverWave_some _ _ (by exact load), plain, serveStore_resumes (by exact on) (by exact op) rfl (by exact ta)
    (by exact wf')] at run
  exact (exec_asksNothing run rfl).imp fun t ⟨run, eq, _⟩ => ⟨run, eq.trans (by rw [eq]; rfl)⟩

/-- A turn starts while an erase runs: its first page waits, and the erase gives way to it (R180). -/
theorem startTurn_suspends {b n target : Nat} {x : TurnEntry} {f : Frame} (key : TurnKey) (on : s.store.power = .on)
    (op : s.store.op = none) (erase : s.store.erase = some { block := b, phase := .running, count := n }) :
    (startTurn key target x f s).turn.state = .reading ∧ (startTurn key target x f s).turn.target = target
      ∧ (startTurn key target x f s).turn.queue = s.turn.queue.tail
      ∧ (startTurn key target x f s).store = { s.store with
          ta := some (x.block * 64 + x.first)
          erase := some { block := b, phase := if n < 16 then .suspending else .running, count := n } } := by
  unfold startTurn
  dsimp only
  rw [serveStore_suspends (by exact on) (by exact op) (by exact erase) (.inl (Option.some_ne_none _))]
  exact ⟨rfl, rfl, rfl, rfl⟩

theorem modeInForce_congr (m : Mode) (wave : u.wave = s.wave) (wm : u.wm = s.wm) :
    modeInForce m u = modeInForce m s := by
  unfold modeInForce activeHeader
  rw [wave, wm]

/-- The state with an erase running, the idle timer stopped. -/
def eraseRuns (b n : Nat) (s : State) : State :=
  { s with store := { s.store with idle := none, erase := some { block := b, phase := .running, count := n } } }

/-- The state once a TURN_ARM that clears the armed flag has completed (07 R133). -/
def armCompleted (addr : Word) (s : State) : State :=
  completeRecord .control addr .ok 0#32 0 (s.modTurn fun t => { t with arm := none })

theorem armCompletes_starts {b n target : Nat} {key : TurnKey} {more : List TurnKey} {x : TurnEntry} {f : Frame}
    {addr : Word} (free : ArrayFree s) (idle : s.turn.state = .idle) (load : s.turn.load = none)
    (arm : s.turn.arm = some addr) (queue : s.turn.queue = key :: more) (place : s.turn.targetOf key = some target)
    (entry : s.turn.entries[target]? = some x) (good : x.bad = false) (mode : modeInForce x.mode s = true)
    (frame : s.turn.takeFrame = some f) : ∃ t, exec .turnArmComplete (eraseRuns b n s) = .next t
      ∧ t.turn.state = .reading ∧ t.turn.target = target ∧ t.turn.queue = more
      ∧ t.store = { s.store with
          idle := none, ta := some (x.block * 64 + x.first),
          erase := some { block := b, phase := if n < 16 then .suspending else .running, count := n } } := by
  have run : exec .turnArmComplete (eraseRuns b n s) =
      commit (eraseRuns b n s) (considerHead (armCompleted addr (eraseRuns b n s))) := by
    have armed : (eraseRuns b n s).turn.arm = some addr := arm
    simp only [exec, execTurnArmComplete, armed]
    exact if_pos idle
  obtain ⟨-, -, -, -, -, wm, wave, -, -, -, turn, -, store, -⟩ :=
    completeRecord_keeps .control addr .ok 0#32 0 ((eraseRuns b n s).modTurn fun t => { t with arm := none })
  have waits : HeadWaits key (armCompleted addr (eraseRuns b n s)) := by
    constructor <;> rw [armCompleted, turn]
    · exact idle
    · exact load
    · rfl
    · exact ⟨more, queue⟩
  rw [considerHead_starts waits (by rw [armCompleted, turn]; exact place) (by rw [armCompleted, turn]; exact entry) good
    ((modeInForce_congr (s := s) x.mode wave wm).trans mode) (by rw [armCompleted, turn]; exact frame)] at run
  obtain ⟨state, reached, presses, stores⟩ := startTurn_suspends key (target := target) (x := x) (f := f)
    (b := b) (n := n) (s := armCompleted addr (eraseRuns b n s)) (by rw [armCompleted, store]; exact free.1)
    (by rw [armCompleted, store]; exact free.2.1) (by rw [armCompleted, store]; rfl)
  refine ⟨_, run, ?_⟩
  rw [settlePort_eq]
  refine ⟨state, reached, presses.trans ?_, stores.trans ?_⟩
  · rw [armCompleted, turn]
    exact congrArg List.tail queue
  · rw [armCompleted, store]
    rfl

theorem bankFree_suspends {b n : Nat} (free : ArrayFree s) (load : s.wave.load = some l) (stage : l.stage = .bankWait)
    (bank : bankReferenced s.wave.active.other s = false) :
    ∃ t, exec .waveformBankFree (eraseRuns b n s) = .next t
      ∧ t.store = { s.store with
          idle := none, wf := some (l.block * 64 + l.first + l.progress),
          erase := some { block := b, phase := if n < 16 then .suspending else .running, count := n } } := by
  refine ⟨_, exec_bankFree (s := eraseRuns b n s) load stage bank, ?_⟩
  rw [settlePort_eq, requestLoadPage, serveStore_suspends (by exact free.1) (by exact free.2.1) rfl
    (.inr (Option.some_ne_none _))]
  rfl

/-- The state once a block has its mark, or its field is undefined, and STORE_WORN is set (09 R178; 10 R192). -/
def blockMarked (b : Nat) (ok : Bool) (s : State) : State :=
  setCause storeWornCause (s.modStore fun st =>
    { st.setFill b .retired with array := st.setField b (if ok then .marked else .undefined) })

theorem mark_ends {b : Nat} (free : ArrayFree s) (blocksWf : sparseWf s.store.blocks = true)
    (writable : Writable .store s.executor.record.addr s) :
    ∃ t, exec (.markWriteEnd ok) { s with store := { s.store with op := some (.mark b) } } = .next t
      ∧ t.store.block b = { s.store.block b with fill := .retired }
      ∧ (∀ c, c ≠ b → t.store.block c = s.store.block c) ∧ (∀ x, x ≠ b * 64 → t.store.page x = s.store.page x)
      ∧ t.store.page (b * 64) = { s.store.page (b * 64) with field := if ok then .marked else .undefined }
      ∧ t.regs = { s.regs with cause := s.regs.cause ||| causeBit storeWornCause } ∧ t.executor.phase = .idle
      ∧ Asks s t (doneAccesses .store s.executor.record.addr
          (if s.executor.kind = some .storeIngest then .programFail else .eraseFail) 0#32 s.executor.progress) := by
  have run := exec_markEnd (ok := ok) (s := { s with store := { s.store with op := some (.mark b) } }) rfl
  have retired : markEnded b ok s = finishExecutor
      (if (blockMarked b ok s).executor.kind = some .storeIngest then .programFail else .eraseFail) 0#32
      (blockMarked b ok s).executor.progress (blockMarked b ok s) := rfl
  rw [endOp_placed free.2.1, retired, finishExecutor_writable (s := blockMarked b ok s) (writable.congr rfl),
    serveStore_quiet (by exact free)] at run
  obtain ⟨t, run, eq, asks⟩ := exec_asks run rfl rfl
  have array : t.store.array =
      sparsePut (b * 64) { s.store.page (b * 64) with field := if ok then .marked else .undefined } s.store.array := by
    rw [eq]
    rfl
  have blocks : t.store.blocks = (s.store.setFill b .retired).blocks := by
    rw [eq]
    rfl
  obtain ⟨own, others⟩ := Store.page_put array
  obtain ⟨block, apart⟩ := Store.block_fill blocksWf blocks
  refine ⟨t, run, block, apart, others, own, ?_, ?_, asks⟩
  · rw [eq]
    rfl
  · rw [eq]
    rfl

/-- Settles O47, by the operation that ends. -/
theorem arrayWritesEnd : Obligations.ArrayWritesEnd := by
  intro s free arrayWf blocksWf
  refine ⟨fun p d u h => ⟨?_, fun c fails => ?_⟩, fun b n phase u runs h => ⟨?_, fun c fails => ?_⟩,
    fun b n p w u h => ?_, fun b n p u h => ?_, fun b n p second page u wf written crc h => ?_,
    fun b n p m w second page u wf written crc h => ?_, fun b n p l second page u wf written crc load h => ?_,
    fun b n key more target e f a u idle load arm queue place entry good mode frame h => ?_,
    fun b n l u load stage bank h => ?_, fun b ok u writable kind h => ?_⟩
  · subst h
    exact program_succeeds free blocksWf p d
  · subst h
    exact program_fails free p d fails
  · subst h
    exact erase_succeeds (e := { block := b, phase := phase, count := n }) arrayWf blocksWf free.2.1 runs
  · subst h
    exact erase_fails (e := { block := b, phase := phase, count := n }) free arrayWf runs fails
  · subst h
    exact suspended_turn free
  · subst h
    exact suspended_wave free
  · subst h
    exact turnRead_resumes free wf (.inr ⟨written, crc, rfl, rfl⟩)
  · subst h
    exact turnRead_reads free wf (.inr ⟨written, crc, rfl, rfl⟩)
  · subst h
    exact waveRead_resumes free wf (.inr ⟨written, crc, rfl, rfl⟩) load
  · subst h
    exact armCompletes_starts free idle load arm queue place entry good mode frame
  · subst h
    exact bankFree_suspends free load stage bank
  · subst h
    exact mark_ends free blocksWf writable

end Sys2Proof.Machine
end

section
/-!
PROOFS. The executor's records (10 R184 to R186), and STORE_ERASE (10 R195).
-/

namespace Sys2Proof.Machine

open Sys2Proof

variable {c : Instr} {s t u v : State} {r : RecordCopy} {k : Kind} {checks : State → State} {res : ResultCode}
  {n b : Nat} {q : ExRequest} {o : ArrayOp} {x y : Executor}

/-! ## A record that the executor has accepted -/

/-- The executor once it has accepted a record (10 R184). -/
def acceptedExecutor (k : Kind) (r : RecordCopy) : Executor :=
  { Executor.reset with phase := .checking, kind := some k, record := r, block := half r.bytes 32 }

/-- The state with the record taken and the executor as given. -/
def begun (k : Kind) (r : RecordCopy) (x : Executor) (s : State) : State := { accepted k r s with executor := x }

theorem beginExecutor_accepted (k : Kind) (r : RecordCopy) (s : State) :
    beginExecutor k r (accepted k r s) = begun k r (acceptedExecutor k r) s := rfl

theorem exec_begun (row : exec c s = onRecord k (fun r t => serveStore (checks (beginExecutor k r t))) s)
    (h : Ready k r s) : exec c s = commit s (serveStore (checks (begun k r (acceptedExecutor k r) s))) := by
  rw [exec_readyAccepted (effect := fun r t => serveStore (checks (beginExecutor k r t))) row h, beginExecutor_accepted]

theorem begun_free (free : ArrayFree s) (x : Executor) : ArrayFree (begun k r x s) := free

theorem begun_writable (h : Ready k r s) (lane : k.lane = .store) (own : x.record.addr = r.addr) :
    Writable .store (begun k r x s).executor.record.addr (begun k r x s) := by
  rw [show (begun k r x s).executor.record.addr = r.addr from own, ← lane]
  exact writable_accepted h rfl

/-- The executor refuses or ends its record before it asks the array for anything. -/
theorem executor_ends (row : exec c s = onRecord k (fun r t => serveStore (checks (beginExecutor k r t))) s)
    (h : Ready k r s) (lane : k.lane = .store) (free : ArrayFree s) (own : x.record.addr = r.addr)
    (ends : checks (begun k r (acceptedExecutor k r) s) = finishExecutor res 0#32 n (begun k r x s)) :
    ∃ t, exec c s = .next t
      ∧ t = { s with
          bus := t.bus, link := takenLink k r s
          executor := { Executor.reset with block := x.block, progress := n }
          store := { s.store with idle := s.store.idle.or (some s.store.idleTime) } }
      ∧ Asks s t (takenAccesses k r s ++ doneAccesses .store r.addr res 0#32 n) := by
  have writable := begun_writable h lane own
  have run := exec_begun row h
  rw [ends, finishExecutor_writable writable, serveStore_quiet (by exact free),
    show (begun k r x s).executor.record.addr = r.addr from own] at run
  obtain ⟨t, run, eq, asks⟩ := exec_asks run (List.append_assoc ..) rfl
  exact ⟨t, run, eq, asks⟩

/-- The executor asks the array, which grants it at once. -/
theorem executor_launches (row : exec c s = onRecord k (fun r t => serveStore (checks (beginExecutor k r t))) s)
    (h : Ready k r s) (free : ArrayFree s)
    (posts : checks (begun k r (acceptedExecutor k r) s) = postRequest q (begun k r x s))
    (grant : grantExecutor q (postRequest q (begun k r x s)) =
      (postRequest q (begun k r x s)).modStore fun st => { st with ex := none }.launch o) :
    ∃ t, exec c s = .next t
      ∧ t = { s with
          bus := t.bus, link := takenLink k r s, executor := x
          store := { s.store with op := some o, idle := none } }
      ∧ Asks s t (takenAccesses k r s) := by
  have run := exec_begun row h
  rw [posts, serveStore_posted (begun_free free x) grant] at run
  obtain ⟨t, run, eq, asks⟩ := exec_asks run rfl rfl
  exact ⟨t, run, eq, asks⟩

/-! ## STORE_ERASE -/

theorem exec_storeErase (s : State) :
    exec .storeErase s = onRecord .storeErase (fun r t => serveStore (eraseChecks (beginExecutor .storeErase r t))) s := rfl

/-- The executor at the start of an erase's first block (10 R195). -/
def erasingFirst (r : RecordCopy) : Executor :=
  { acceptedExecutor .storeErase r with phase := .erasing, block := half r.bytes 32, recheck := false }

theorem eraseChecks_count (h : half r.bytes 34 = 0 ∨ 64 < half r.bytes 34) :
    eraseChecks (begun .storeErase r (acceptedExecutor .storeErase r) s) =
      finishExecutor .range 0#32 0 (begun .storeErase r (acceptedExecutor .storeErase r) s) :=
  if_neg (by
    change ¬ (decide (1 ≤ half r.bytes 34) && decide (half r.bytes 34 ≤ 64)) = true
    simp
    omega)

theorem eraseChecks_starts (low : 1 ≤ half r.bytes 34) (high : half r.bytes 34 ≤ 64) :
    eraseChecks (begun .storeErase r (acceptedExecutor .storeErase r) s) =
      startBlock (half r.bytes 32) (begun .storeErase r (acceptedExecutor .storeErase r) s) :=
  if_pos (by
    change (decide (1 ≤ half r.bytes 34) && decide (half r.bytes 34 ≤ 64)) = true
    simp [low, high])

/-- The four checks at the start of a block, in order (10 R195). -/
theorem startBlock_begun (r : RecordCopy) (s : State) :
    startBlock (half r.bytes 32) (begun .storeErase r (acceptedExecutor .storeErase r) s) =
      let w := begun .storeErase r (erasingFirst r) s
      if 4095 < half r.bytes 32 then finishExecutor .range 0#32 0 w
      else if s.power.forced || s.power.cls == .exhausted || s.power.cls == .critical then
        finishExecutor .lowSupply 0#32 0 w
      else if !(s.store.block (half r.bytes 32)).prot.writable then finishExecutor .protectedBlock 0#32 0 w
      else if s.turn.names (half r.bytes 32) then finishExecutor .conflict 0#32 0 w
      else postRequest (.erase (half r.bytes 32) false) w := rfl

theorem eraseGrant_refused (w : State) (h : eraseCheck w.store b = some res) :
    grantExecutor (.erase b false) (postRequest (.erase b false) w) = refuseGrant res (postRequest (.erase b false) w) := by
  have refused : eraseCheck (postRequest (.erase b false) w).store b = some res := h
  simp only [grantExecutor, refused]

theorem eraseGrant_checks (w : State) (h : eraseCheck w.store b = none) (unknown : (w.store.block b).fill = .unknown) :
    grantExecutor (.erase b false) (postRequest (.erase b false) w) =
      (postRequest (.erase b false) w).modStore fun st => { st with ex := none }.launch (.raw (b * 64) .erase false) := by
  have passes : eraseCheck (postRequest (.erase b false) w).store b = none := h
  simp only [grantExecutor, passes]
  exact if_pos (by
    change ((w.store.block b).fill == .unknown && true) = true
    simp [unknown])

theorem eraseGrant_starts (w : State) (h : eraseCheck w.store b = none) (known : (w.store.block b).fill ≠ .unknown) :
    grantExecutor (.erase b false) (postRequest (.erase b false) w) =
      (postRequest (.erase b false) w).modStore fun st =>
        { st with ex := none, idle := none, erase := some { block := b, phase := .running, count := 0 } } := by
  have passes : eraseCheck (postRequest (.erase b false) w).store b = none := h
  simp only [grantExecutor, passes]
  exact if_neg (by
    change ¬ ((w.store.block b).fill == .unknown && true) = true
    simp [known])

/-- The erase of a block whose fill is known starts at its grant (R177). -/
theorem serveStore_erases (free : ArrayFree s) (h : eraseCheck s.store b = none)
    (known : (s.store.block b).fill ≠ .unknown) : serveStore (postRequest (.erase b false) s) =
      { s with store := { s.store with
          erase := some { block := b, phase := .running, count := 0 }, idle := none } } := by
  obtain ⟨on, op, erase, ta, wf, ex⟩ := free
  rw [serveStore_executor (s := postRequest (.erase b false) s) on op erase ta wf rfl, eraseGrant_starts s h known,
    serveOnce_erases (by exact on) (by exact op) rfl (by exact ta) (by exact wf)]
  exact congrArg (fun x => { s with store := { s.store with
    erase := some { block := b, phase := .running, count := 0 }, idle := none, ex := x } }) ex.symm

theorem eraseCheck_retired {st : Store} (writable : (st.block b).prot.writable = true)
    (fill : (st.block b).fill = .retired) : eraseCheck st b = some .retiredBlock := by
  simp [eraseCheck, writable, fill]

theorem eraseCheck_passes {st : Store} (writable : (st.block b).prot.writable = true)
    (fill : (st.block b).fill ≠ .retired) : eraseCheck st b = none := by
  simp only [eraseCheck, writable, Bool.not_true, Bool.false_eq_true, if_false]
  split
  · next retired => exact absurd retired fill
  · rfl
  · rfl

theorem turn_names_iff (x : Turn) (b : Nat) : x.names b = false ↔ ∀ e, e ∈ x.entries → e.touches b = false := by
  simp [Turn.names]

theorem eraseSupplied (h : s.power.forced = false) (exhausted : s.power.cls ≠ .exhausted)
    (critical : s.power.cls ≠ .critical) :
    (s.power.forced || s.power.cls == .exhausted || s.power.cls == .critical) = false := by
  simp [h, exhausted, critical]

/-- A STORE_ERASE whose count and first block pass the checks before the array's own asks for the erase. -/
theorem eraseChecks_posts (low : 1 ≤ half r.bytes 34) (high : half r.bytes 34 ≤ 64) (inside : half r.bytes 32 ≤ 4095)
    (forced : s.power.forced = false) (exhausted : s.power.cls ≠ .exhausted) (critical : s.power.cls ≠ .critical)
    (writable : (s.store.block (half r.bytes 32)).prot.writable = true)
    (free : ∀ x, x ∈ s.turn.entries → x.touches (half r.bytes 32) = false) :
    eraseChecks (begun .storeErase r (acceptedExecutor .storeErase r) s) =
      postRequest (.erase (half r.bytes 32) false) (begun .storeErase r (erasingFirst r) s) := by
  rw [eraseChecks_starts low high, startBlock_begun]
  dsimp only
  rw [if_neg (by omega), eraseSupplied forced exhausted critical, if_neg (by simp), if_neg (by simp [writable]),
    if_neg (by simp [(turn_names_iff s.turn _).mpr free])]

/-- The refusals before the array is asked (10 R195). -/
def EraseRefused (s : State) (r : RecordCopy) (res : ResultCode) : Prop :=
  (res = .range ∧ (half r.bytes 34 = 0 ∨ 64 < half r.bytes 34 ∨ 4095 < half r.bytes 32))
    ∨ (1 ≤ half r.bytes 34 ∧ half r.bytes 34 ≤ 64 ∧ half r.bytes 32 ≤ 4095 ∧
        ((res = .lowSupply ∧ (s.power.forced = true ∨ s.power.cls = .exhausted ∨ s.power.cls = .critical))
          ∨ (s.power.forced = false ∧ s.power.cls ≠ .exhausted ∧ s.power.cls ≠ .critical ∧
              ((res = .protectedBlock ∧ (s.store.block (half r.bytes 32)).prot.writable = false)
                ∨ ((s.store.block (half r.bytes 32)).prot.writable = true ∧ res = .conflict
                    ∧ ∃ x, x ∈ s.turn.entries ∧ x.touches (half r.bytes 32) = true)))))

theorem eraseChecks_refused (h : EraseRefused s r res) : ∃ x : Executor, x.record.addr = r.addr ∧
    eraseChecks (begun .storeErase r (acceptedExecutor .storeErase r) s) =
      finishExecutor res 0#32 0 (begun .storeErase r x s) := by
  by_cases count : half r.bytes 34 = 0 ∨ 64 < half r.bytes 34
  · obtain rfl : res = .range := by
      rcases h with ⟨rfl, -⟩ | ⟨low, high, -⟩
      · rfl
      · omega
    exact ⟨_, rfl, eraseChecks_count count⟩
  · refine ⟨erasingFirst r, rfl, ?_⟩
    rw [eraseChecks_starts (by omega) (by omega), startBlock_begun]
    dsimp only
    rcases h with ⟨rfl, outside⟩ | ⟨-, -, inside, h⟩
    · rw [if_pos (by omega)]
    · rw [if_neg (by omega)]
      rcases h with ⟨rfl, supply⟩ | ⟨forced, exhausted, critical, h⟩
      · rw [if_pos (by rcases supply with h | h | h <;> simp [h])]
      · rw [eraseSupplied forced exhausted critical, if_neg (by simp)]
        rcases h with ⟨rfl, closed⟩ | ⟨writable, rfl, conflict⟩
        · rw [if_pos (by simp [closed])]
        · have names : s.turn.names (half r.bytes 32) = true := by simpa [Turn.names] using conflict
          rw [if_neg (by simp [writable]), if_pos names]

/-- The array refuses the executor's request at its grant: the record ends, and the idle timer starts anew (R167). -/
theorem serveStore_refuses (free : ArrayFree s)
    (grant : grantExecutor q (postRequest q s) = refuseGrant res (postRequest q s))
    (writable : Writable .store s.executor.record.addr s) : serveStore (postRequest q s) =
      { s with
          bus := { s.bus with
            queue := s.bus.queue ++ (doneAccesses .store s.executor.record.addr res 0#32 s.executor.progress) }
          executor := { Executor.reset with block := s.executor.block, progress := s.executor.progress }
          store := { s.store with idle := some s.store.idleTime } } := by
  obtain ⟨on, op, erase, ta, wf, ex⟩ := free
  have refused : refuseGrant res (postRequest q s) = finishExecutor res 0#32 s.executor.progress
      { s with store := { s.store with idle := none, ex := none } } := rfl
  rw [serveStore_executor (s := postRequest q s) on op erase ta wf rfl, grant, refused,
    finishExecutor_writable (s := { s with store := { s.store with idle := none, ex := none } }) (writable.congr rfl),
    serveOnce_idle (by exact on) (by exact op) (by exact erase) (by exact ta) (by exact wf) rfl, ← ex]
  rfl

/-- Settles O51. -/
theorem eraseSteps : Obligations.EraseSteps := by
  rintro s r b e ready free rfl rfl
  refine ⟨fun res refused => ?_, fun low high inside forced supply writable apart fill => ?_⟩
  · have plain (refused : EraseRefused s r res) (other : res ≠ .retiredBlock) : ∃ t, exec .storeErase s = .next t
        ∧ t.executor.phase = .idle ∧ t.store.erase = none ∧ t.store.op = none ∧ t.store.blocks = s.store.blocks
        ∧ t.store.array = s.store.array ∧ (res = .retiredBlock → t.store.idle = some s.store.idleTime)
        ∧ Asks s t (takenAccesses .storeErase r s ++ doneAccesses .store r.addr res 0#32 0) := by
      obtain ⟨x, own, ends⟩ := eraseChecks_refused refused
      obtain ⟨t, run, eq, asks⟩ := executor_ends (exec_storeErase s) ready rfl free own ends
      have store : t.store = { s.store with idle := s.store.idle.or (some s.store.idleTime) } := by rw [eq]
      refine ⟨t, run, by rw [eq]; rfl, ?_⟩
      rw [store]
      exact ⟨free.2.2.1, free.2.1, rfl, rfl, fun retired => absurd retired other, asks⟩
    rcases refused with ⟨rfl, range⟩ | ⟨low, high, inside, ⟨rfl, supply⟩ | ⟨forced, exhausted, critical,
      ⟨rfl, closed⟩ | ⟨writable, ⟨rfl, conflict⟩ | ⟨apart, rfl, fill⟩⟩⟩⟩
    · exact plain (.inl ⟨rfl, range⟩) nofun
    · exact plain (.inr ⟨low, high, inside, .inl ⟨rfl, supply⟩⟩) nofun
    · exact plain (.inr ⟨low, high, inside, .inr ⟨forced, exhausted, critical, .inl ⟨rfl, closed⟩⟩⟩) nofun
    · exact plain (.inr ⟨low, high, inside, .inr ⟨forced, exhausted, critical, .inr ⟨writable, rfl, conflict⟩⟩⟩) nofun
    · have run := exec_begun (exec_storeErase s) ready
      rw [eraseChecks_posts low high inside forced exhausted critical writable apart, serveStore_refuses
        (s := begun .storeErase r (erasingFirst r) s) (begun_free free _)
        (eraseGrant_refused _ (eraseCheck_retired writable fill)) (begun_writable ready rfl rfl)] at run
      obtain ⟨t, run, eq, asks⟩ := exec_asks run (List.append_assoc ..) rfl
      have store : t.store = { s.store with idle := some s.store.idleTime } := by rw [eq]; rfl
      refine ⟨t, run, by rw [eq]; rfl, ?_⟩
      rw [store]
      exact ⟨free.2.2.1, free.2.1, rfl, rfl, fun _ => rfl, asks⟩
  · have exhausted : s.power.cls ≠ .exhausted := by rcases supply with h | h <;> rw [h] <;> nofun
    have critical : s.power.cls ≠ .critical := by rcases supply with h | h <;> rw [h] <;> nofun
    have posts := eraseChecks_posts (s := s) low high inside forced exhausted critical writable apart
    have passes : eraseCheck s.store (half r.bytes 32) = none := eraseCheck_passes writable fill
    by_cases unknown : (s.store.block (half r.bytes 32)).fill = .unknown
    · obtain ⟨t, run, eq, asks⟩ := executor_launches (exec_storeErase s) ready free posts
        (o := .raw (half r.bytes 32 * 64) .erase false) (eraseGrant_checks _ passes unknown)
      refine ⟨t, run, asks, ?_⟩
      rw [eq]
      exact ⟨rfl, rfl, fun known => absurd unknown known, fun _ => rfl⟩
    · have run := exec_begun (exec_storeErase s) ready
      rw [posts, serveStore_erases (begun_free free _) passes unknown] at run
      obtain ⟨t, run, eq, asks⟩ := exec_asks run rfl rfl
      refine ⟨t, run, asks, ?_⟩
      rw [eq]
      exact ⟨rfl, rfl, fun _ => rfl, fun is => absurd is unknown⟩

end Sys2Proof.Machine
end

section
/-!
PROOFS. STORE_INGEST (10 R187 to R191).
-/

namespace Sys2Proof.Machine

open Sys2Proof

variable {c : Instr} {s t u v : State} {r : RecordCopy} {k : Kind} {res : ResultCode} {n p : Nat} {d : List Byte}
  {use : BufferUse} {x : Executor}

/-! ## The ends of buffer accesses -/

theorem endTransfer_found {a : BusAccess} (mem : a ∈ s.bus.transfers) (own : a.isBuffer use = true) :
    endTransfer (BusAccess.isBuffer use) s = some (s.modBus fun b =>
      { b with transfers := b.transfers.filter fun a => !a.isBuffer use }) :=
  if_pos (List.any_eq_true.mpr ⟨a, mem, own⟩)

theorem endBuffer_head {addr len : Nat} {q : List BusAccess} (h : s.bus.queue = .buffer use addr len :: q) :
    endAccess (BusAccess.isBuffer use) s = some (.buffer use addr len, s.popped q) :=
  endAccess_head h (beq_self_eq_true use)

theorem sized_whole (h : d.length = n) : sized n d = d := by
  simp [sized, ← h]

/-! ## The checks -/

theorem exec_storeIngest (s : State) :
    exec .storeIngest s = onRecord .storeIngest (fun r t => serveStore (ingestChecks (beginExecutor .storeIngest r t))) s :=
  rfl

/-- The checks of an ingest in order, up to the survey (10 R187). -/
theorem ingestChecks_begun (r : RecordCopy) (s : State) :
    ingestChecks (begun .storeIngest r (acceptedExecutor .storeIngest r) s) =
      let w := begun .storeIngest r (acceptedExecutor .storeIngest r) s
      let e := s.store.block (half r.bytes 32)
      if !ingestInRange r.bytes then finishExecutor .range 0#32 0 w
      else if startRefused .storeIngest s then finishExecutor .lowSupply 0#32 0 w
      else if !e.prot.writable then finishExecutor .protectedBlock 0#32 0 w
      else if e.fill = .unknown then postRequest (.raw (half r.bytes 32 * 64) .ingest) w
      else ingestKnown w := rfl

theorem ingestKnown_begun (r : RecordCopy) (s : State) :
    ingestKnown (begun .storeIngest r (acceptedExecutor .storeIngest r) s) =
      let w := begun .storeIngest r (acceptedExecutor .storeIngest r) s
      match (s.store.block (half r.bytes 32)).fill with
      | .retired => finishExecutor .retiredBlock 0#32 0 w
      | .mark m  =>
        if ingestFirst r.bytes = m then
          askBuffer .payload (ingestBuffer r.bytes) (ingestLength r.bytes)
            (w.modExecutor fun x => { x with phase := .verifying })
        else finishExecutor .orderViolation 0#32 m w
      | .unknown => finishExecutor .readError 0#32 0 w := rfl

theorem startRefused_writing (h : k = .storeIngest ∨ k = .storeErase) : startRefused k s = true ↔
    s.power.forced = true ∨ s.power.cls = .exhausted ∨ s.power.cls = .critical := by
  rcases h with rfl | rfl <;> simp [startRefused, or_assoc]

/-- The refusals of an ingest, with the count each reports (10 R187). -/
def IngestRefused (s : State) (r : RecordCopy) (res : ResultCode) (n : Nat) : Prop :=
  (res = .range ∧ n = 0 ∧ ingestInRange r.bytes = false)
    ∨ (ingestInRange r.bytes = true ∧
        ((res = .lowSupply ∧ n = 0 ∧ (s.power.forced = true ∨ s.power.cls = .exhausted ∨ s.power.cls = .critical))
          ∨ (s.power.forced = false ∧ s.power.cls ≠ .exhausted ∧ s.power.cls ≠ .critical ∧
              ((res = .protectedBlock ∧ n = 0 ∧ (s.store.block (half r.bytes 32)).prot.writable = false)
                ∨ ((s.store.block (half r.bytes 32)).prot.writable = true
                    ∧ ((res = .retiredBlock ∧ n = 0 ∧ (s.store.block (half r.bytes 32)).fill = .retired)
                      ∨ (res = .orderViolation ∧ (s.store.block (half r.bytes 32)).fill = .mark n
                          ∧ n ≠ byteAt r.bytes 34)))))))

theorem ingestChecks_refused (h : IngestRefused s r res n) :
    ingestChecks (begun .storeIngest r (acceptedExecutor .storeIngest r) s) =
      finishExecutor res 0#32 n (begun .storeIngest r (acceptedExecutor .storeIngest r) s) := by
  rw [ingestChecks_begun]
  dsimp only
  rcases h with ⟨rfl, rfl, range⟩ | ⟨range, ⟨rfl, rfl, supply⟩ | ⟨forced, exhausted, critical, h⟩⟩
  · rw [if_pos (by simp [range])]
  · rw [if_neg (by simp [range]), if_pos ((startRefused_writing (.inl rfl)).mpr supply)]
  · rw [if_neg (by simp [range]), if_neg (by simp [startRefused_writing, forced, exhausted, critical])]
    rcases h with ⟨rfl, rfl, closed⟩ | ⟨writable, ⟨rfl, rfl, fill⟩ | ⟨rfl, fill, other⟩⟩
    · rw [if_pos (by simp [closed])]
    · rw [if_neg (by simp [writable]), if_neg (by rw [fill]; nofun), ingestKnown_begun, fill]
    · rw [if_neg (by simp [writable]), if_neg (by rw [fill]; nofun), ingestKnown_begun, fill]
      exact if_neg (by exact fun h => other h.symm)

/-- A block with its first page at the fill mark, or UNKNOWN (10 R187, R188). -/
theorem ingestChecks_accepts (range : ingestInRange r.bytes = true) (forced : s.power.forced = false)
    (supply : s.power.cls = .normal ∨ s.power.cls = .reduced)
    (writable : (s.store.block (half r.bytes 32)).prot.writable = true) :
    ingestChecks (begun .storeIngest r (acceptedExecutor .storeIngest r) s) =
      if (s.store.block (half r.bytes 32)).fill = .unknown then
        postRequest (.raw (half r.bytes 32 * 64) .ingest) (begun .storeIngest r (acceptedExecutor .storeIngest r) s)
      else ingestKnown (begun .storeIngest r (acceptedExecutor .storeIngest r) s) := by
  rw [ingestChecks_begun]
  dsimp only
  have started : ¬ startRefused .storeIngest s = true := by
    rw [startRefused_writing (.inl rfl)]
    rcases supply with h | h <;> simp [forced, h]
  rw [if_neg (by simp [range]), if_neg started, if_neg (by simp [writable])]

theorem ingest_refused (ready : Ready .storeIngest r s) (free : ArrayFree s) (h : IngestRefused s r res n) :
    ∃ t, exec .storeIngest s = .next t ∧ t.executor.phase = .idle ∧ t.store.blocks = s.store.blocks
      ∧ t.store.array = s.store.array ∧ t.store.op = none ∧ t.link = takenLink .storeIngest r s
      ∧ t.executor.progress = n
      ∧ Asks s t (takenAccesses .storeIngest r s ++ doneAccesses .store r.addr res 0#32 n) := by
  obtain ⟨t, run, eq, asks⟩ := executor_ends (exec_storeIngest s) ready rfl free rfl (ingestChecks_refused h)
  refine ⟨t, run, ?_, ?_, ?_, ?_, ?_, ?_, asks⟩ <;> rw [eq]
  · rfl
  · exact free.2.1

/-- The executor while it verifies an ingest (10 R188). -/
def verifyingIngest (r : RecordCopy) : Executor := { acceptedExecutor .storeIngest r with phase := .verifying }

/-- The state with the executor as given and the payload's read asked for (10 R188). -/
def payloadAsked (r : RecordCopy) (s : State) : State :=
  askBuffer .payload (ingestBuffer r.bytes) (ingestLength r.bytes) (begun .storeIngest r (verifyingIngest r) s)

theorem ingestKnown_verifies (h : (s.store.block (half r.bytes 32)).fill = .mark (byteAt r.bytes 34)) :
    ingestKnown (begun .storeIngest r (acceptedExecutor .storeIngest r) s) = payloadAsked r s := by
  rw [ingestKnown_begun, h]
  exact if_pos rfl

theorem ingest_starts (ready : Ready .storeIngest r s) (free : ArrayFree s) (range : ingestInRange r.bytes = true)
    (forced : s.power.forced = false) (supply : s.power.cls = .normal ∨ s.power.cls = .reduced)
    (writable : (s.store.block (half r.bytes 32)).prot.writable = true)
    (fill : (s.store.block (half r.bytes 32)).fill = .unknown
      ∨ (s.store.block (half r.bytes 32)).fill = .mark (byteAt r.bytes 34)) :
    ∃ t, exec .storeIngest s = .next t ∧ t.executor.record = r ∧ t.executor.kind = some .storeIngest
      ∧ ((s.store.block (half r.bytes 32)).fill = .unknown → Asks s t (takenAccesses .storeIngest r s)
          ∧ t.executor.phase = .checking ∧ t.store.op = some (.raw (half r.bytes 32 * 64) .ingest false))
      ∧ ((s.store.block (half r.bytes 32)).fill ≠ .unknown → Asks s t (takenAccesses .storeIngest r s
            ++ [.buffer .payload (wordNat r.bytes 40) (wordNat r.bytes 36)])
          ∧ t.executor.phase = .verifying ∧ t.store.op = none) := by
  have checked := ingestChecks_accepts (s := s) range forced supply writable
  rcases fill with unknown | marked
  · rw [if_pos unknown] at checked
    obtain ⟨t, run, eq, asks⟩ := executor_launches (exec_storeIngest s) ready free checked
      (o := .raw (half r.bytes 32 * 64) .ingest false) rfl
    refine ⟨t, run, ?_⟩
    rw [eq]
    exact ⟨rfl, rfl, fun _ => ⟨eq ▸ asks, rfl, rfl⟩, fun known => absurd unknown known⟩
  · have known : ¬ (s.store.block (half r.bytes 32)).fill = .unknown := by rw [marked]; nofun
    have run := exec_begun (exec_storeIngest s) ready
    rw [checked, if_neg known, ingestKnown_verifies marked, serveStore_quiet (s := payloadAsked r s) free] at run
    obtain ⟨t, run, eq, asks⟩ := exec_asks run (List.append_assoc ..) rfl
    refine ⟨t, run, ?_⟩
    rw [eq]
    exact ⟨rfl, rfl, fun unknown => absurd unknown known, fun _ => ⟨eq ▸ asks, rfl, free.2.1⟩⟩

/-! ## The payload -/

/-- The state once the transfer of a buffer's use has ended. -/
def transferred (use : BufferUse) (s : State) : State :=
  s.modBus fun b => { b with transfers := b.transfers.filter fun a => !a.isBuffer use }

/-- The outcome of the first pass (10 R186, R188). -/
def verifyOutcome (a : BusRead) (s : State) : State :=
  match a with
  | .busError => finishExecutor .badAddress 0#32 0 s
  | .data d   => ingestVerified d s

theorem exec_verifyEnd {a : BusRead} {y z : Nat} (mem : .buffer .payload y z ∈ s.bus.transfers)
    (phase : s.executor.phase = .verifying) :
    exec (.ingestVerifyEnd a) s = commit s (verifyOutcome a (transferred .payload s)) := by
  have found : endTransfer (BusAccess.isBuffer .payload) s = some (transferred .payload s) :=
    endTransfer_found mem (beq_self_eq_true _)
  cases a <;> exact (by simp only [exec, execIngestVerifyEnd, found, phase, if_true, verifyOutcome])

theorem askPayloadPage_first (page : s.executor.page = 0) : askPayloadPage s =
    askBuffer .payloadPage (wordNat s.executor.record.bytes 40) (min 4096 (wordNat s.executor.record.bytes 36)) s := by
  simp [askPayloadPage, ingestPageSize, ingestBuffer, ingestLength, page]

theorem ingestVerified_transferred (record : s.executor.record = r) (length : d.length = wordNat r.bytes 36) :
    ingestVerified d (transferred .payload s) =
      if crc32 d = word r.bytes 44 then askPayloadPage ((transferred .payload s).modExecutor fun x =>
        { x with phase := .programming, page := 0, progress := 0, crc := crcInit, buf := [] })
      else finishExecutor .checksumMismatch 0#32 0 (transferred .payload s) := by
  subst record
  have whole : sized (ingestLength (transferred .payload s).executor.record.bytes) d = d := sized_whole length
  rw [ingestVerified, whole]
  rfl

/-- The first pass ends a record: its transfer is over, and the completion is asked for (10 R188). -/
theorem verify_ends (record : s.executor.record = r) (writable : Writable .store r.addr s)
    (run : exec c s = commit s (finishExecutor res 0#32 0 (transferred .payload s))) : ∃ t, exec c s = .next t
      ∧ t.executor.phase = .idle ∧ t.store = s.store
      ∧ PortAsked s.bus.queue (s.bus.transfers.filter fun a => !a.isBuffer .payload) t
          (doneAccesses .store r.addr res 0#32 0) := by
  subst record
  rw [finishExecutor_writable (s := transferred .payload s) (writable.congr rfl)] at run
  refine ⟨_, run, ?_, ?_, settlePort_asked rfl rfl⟩ <;> rw [settlePort_eq] <;> rfl

theorem ingest_verified {y z : Nat} {tr : List BusAccess} (record : s.executor.record = r)
    (phase : s.executor.phase = .verifying) (mem : .buffer .payload y z ∈ s.bus.transfers)
    (rest : tr = s.bus.transfers.filter fun a => !a.isBuffer .payload) (writable : Writable .store r.addr s) :
    (∃ t, exec (.ingestVerifyEnd .busError) s = .next t ∧ t.executor.phase = .idle ∧ t.store = s.store
        ∧ PortAsked s.bus.queue tr t (doneAccesses .store r.addr .badAddress 0#32 0))
      ∧ ∀ payload, payload.length = wordNat r.bytes 36 →
        (crc32 payload = word r.bytes 44 → ∃ t, exec (.ingestVerifyEnd (.data payload)) s = .next t
          ∧ PortAsked s.bus.queue tr t [.buffer .payloadPage (wordNat r.bytes 40) (min 4096 (wordNat r.bytes 36))]
          ∧ t = { s with bus := t.bus, executor := { s.executor with
              phase := .programming, page := 0, progress := 0, crc := crcInit, buf := [] } })
        ∧ (crc32 payload ≠ word r.bytes 44 → ∃ t, exec (.ingestVerifyEnd (.data payload)) s = .next t
          ∧ t.executor.phase = .idle ∧ t.store = s.store
          ∧ PortAsked s.bus.queue tr t (doneAccesses .store r.addr .checksumMismatch 0#32 0)) := by
  subst rest
  refine ⟨verify_ends record writable (exec_verifyEnd mem phase), fun payload length => ⟨fun crc => ?_, fun crc => ?_⟩⟩
  · have run := exec_verifyEnd (a := .data payload) mem phase
    rw [verifyOutcome, ingestVerified_transferred record length, if_pos crc, askPayloadPage_first rfl] at run
    subst record
    exact ⟨_, run, settlePort_asked rfl rfl, settlePort_eq ..⟩
  · have run := exec_verifyEnd (a := .data payload) mem phase
    rw [verifyOutcome, ingestVerified_transferred record length, if_neg crc] at run
    exact verify_ends record writable run

/-! ## The pages -/

/-- The outcome of the read of a page's payload (10 R186, R189). -/
def pageOutcome (a : BusRead) (s : State) : State :=
  match a with
  | .busError => finishExecutor .badAddress 0#32 s.executor.progress s
  | .data d   => serveStore (ingestPageRead d s)

theorem exec_pageData {a : BusRead} {y z : Nat} {q : List BusAccess}
    (queue : s.bus.queue = .buffer .payloadPage y z :: q) (phase : s.executor.phase = .programming)
    (empty : s.executor.buf = []) :
    exec (.ingestPageDataRead a) s = commit s (pageOutcome a (s.popped q)) := by
  have head := endBuffer_head queue
  cases a <;> exact (by
    simp only [exec, execIngestPageDataRead, head, phase, empty, and_self, if_true, pageOutcome] <;> rfl)

/-- The executor with a page's payload in its buffer, padded (10 R189). -/
def payloadLoaded (d : List Byte) (x : Executor) : Executor :=
  { x with buf := d ++ List.replicate (4096 - d.length) 0xFF#8, crc := crcUpdate x.crc d }

/-- The state once the last page's record is written Running (10 R189). -/
def pageAsked (d : List Byte) (s : State) : State :=
  let l : List BusAccess := if s.executor.page + 1 = ingestPages s.executor.record.bytes then
    [.stateWrite .store s.executor.record.addr .running] else []
  { s with
    executor := payloadLoaded d s.executor
    bus := { s.bus with queue := s.bus.queue ++ l } }

theorem ingestPageRead_loads (length : d.length = ingestPageSize s.executor.record.bytes s.executor.page)
    (place : p = half s.executor.record.bytes 32 * 64 + byteAt s.executor.record.bytes 34 + s.executor.page)
    (writable : Writable .store s.executor.record.addr s) :
    ingestPageRead d s = postRequest (.program p (payloadLoaded d s.executor).buf) (pageAsked d s) := by
  subst place
  have whole := sized_whole length
  unfold ingestPageRead
  dsimp only
  rw [whole]
  by_cases last : s.executor.page + 1 = ingestPages s.executor.record.bytes
  · rw [if_pos last, markRunning_writable (Writable.congr (u := s.modExecutor _) writable rfl), pageAsked, if_pos last]
    rfl
  · rw [if_neg last, pageAsked, if_neg last, List.append_nil]
    rfl

theorem programGrant_starts (writable : (s.store.block (p / 64)).prot.writable = true)
    (fill : (s.store.block (p / 64)).fill = .mark (p % 64)) :
    grantExecutor (.program p d) (postRequest (.program p d) s) =
      (postRequest (.program p d) s).modStore fun st => { st with ex := none }.launch (.program p d) := by
  have passes : programCheck (postRequest (.program p d) s).store p = none := by
    change programCheck s.store p = none
    simp only [programCheck, writable, fill]
    simp
  simp only [grantExecutor, passes]
  exact if_neg (by
    change ¬ (s.store.block (p / 64)).fill = .unknown
    rw [fill]
    nofun)

theorem programGrant_refused (closed : (s.store.block (p / 64)).prot.writable = false) :
    grantExecutor (.program p d) (postRequest (.program p d) s) =
      refuseGrant .protectedBlock (postRequest (.program p d) s) := by
  have refused : programCheck (postRequest (.program p d) s).store p = some .protectedBlock := by
    change programCheck s.store p = _
    simp [programCheck, closed]
  simp only [grantExecutor, refused]

theorem ingest_pageRead {y z : Nat} {q : List BusAccess} (record : s.executor.record = r)
    (phase : s.executor.phase = .programming) (empty : s.executor.buf = [])
    (queue : s.bus.queue = .buffer .payloadPage y z :: q) (writable : Writable .store r.addr s) (free : ArrayFree s) :
    (∃ t, exec (.ingestPageDataRead .busError) s = .next t ∧ t.executor.phase = .idle ∧ t.store = s.store
        ∧ AsksAfter s q t (doneAccesses .store r.addr .badAddress 0#32 s.executor.progress))
      ∧ ∀ payload p, payload.length = ingestPageSize r.bytes s.executor.page →
          p = half r.bytes 32 * 64 + byteAt r.bytes 34 + s.executor.page →
        ((s.store.block (p / 64)).prot.writable = true → (s.store.block (p / 64)).fill = .mark (p % 64) → ∃ t,
          exec (.ingestPageDataRead (.data payload)) s = .next t
          ∧ t = { s with bus := t.bus, store := t.store, executor := t.executor }
          ∧ t.executor = { s.executor with
              buf := payload ++ List.replicate (4096 - payload.length) 0xFF#8, crc := crcUpdate s.executor.crc payload }
          ∧ t.store = { s.store with idle := none, op := some (.program p t.executor.buf) }
          ∧ AsksAfter s q t
              (if s.executor.page + 1 = ingestPages r.bytes then [.stateWrite .store r.addr .running] else []))
        ∧ ((s.store.block (p / 64)).prot.writable = false → ∃ t, exec (.ingestPageDataRead (.data payload)) s = .next t
          ∧ t.executor.phase = .idle ∧ t.executor.progress = s.executor.progress
          ∧ t.store = { s.store with idle := some s.store.idleTime }
          ∧ AsksAfter s q t
              ((if s.executor.page + 1 = ingestPages r.bytes then [.stateWrite .store r.addr .running] else [])
                ++ doneAccesses .store r.addr .protectedBlock 0#32 s.executor.progress)) := by
  subst record
  have row := fun a => exec_pageData (a := a) queue phase empty
  have kept : Writable .store s.executor.record.addr (s.popped q) := writable.congr rfl
  refine ⟨?_, fun payload p length place => ?_⟩
  · have run := row .busError
    rw [pageOutcome, finishExecutor_writable (s := s.popped q) kept] at run
    obtain ⟨t, run, eq, asks⟩ := exec_asksAfter run rfl rfl
    refine ⟨t, run, ?_, ?_, asks⟩ <;> rw [eq] <;> rfl
  · have run := row (.data payload)
    rw [pageOutcome, ingestPageRead_loads (s := s.popped q) length place kept] at run
    refine ⟨fun opened fill => ?_, fun closed => ?_⟩
    · rw [serveStore_posted (s := pageAsked payload (s.popped q)) free (programGrant_starts opened fill)] at run
      obtain ⟨t, run, eq, asks⟩ := exec_asksAfter run rfl rfl
      refine ⟨t, run, ?_, ?_, ?_, asks⟩ <;> rw [eq] <;> rfl
    · rw [serveStore_refuses (s := pageAsked payload (s.popped q)) free (programGrant_refused closed)
        (Writable.congr (s := s) writable rfl)] at run
      obtain ⟨t, run, eq, asks⟩ := exec_asksAfter run (List.append_assoc ..) rfl
      refine ⟨t, run, ?_, ?_, ?_, asks⟩ <;> rw [eq] <;> rfl

/-! ## The end of a page's program -/

/-- The executor once one more page is programmed (10 R189). -/
def pageCounted (x : Executor) : Executor := { x with page := x.page + 1, progress := x.progress + 1, buf := [] }

/-- The state once a page's program has succeeded and the executor has counted it (09 R176, 10 R189). -/
def programmed (p : Nat) (d : List Byte) (s : State) : State :=
  { s with
    executor := pageCounted s.executor
    store := { s.store.setFill (p / 64) (.mark (p % 64 + 1)) with
      array := sparsePut p { s.store.page p with data := .written d (crc32 d) } s.store.array } }

theorem programSucceeded_eq (p : Nat) (d : List Byte) (s : State) : programSucceeded p d s =
    if s.executor.page + 1 < ingestPages s.executor.record.bytes then askPayloadPage (programmed p d s)
    else finishExecutor (if crcResult s.executor.crc = ingestCrc s.executor.record.bytes then .ok
      else .checksumMismatch) 0#32 (s.executor.progress + 1) (programmed p d s) := rfl

theorem ingest_programmed (record : s.executor.record = r) (free : ArrayFree s)
    (h : u = { s with store := { s.store with op := some (.program p d) } }) :
    (s.executor.page + 1 < ingestPages r.bytes → ∃ t, exec (.pageProgramEnd true) u = .next t
        ∧ t.executor = { s.executor with
            page := s.executor.page + 1, progress := s.executor.progress + 1, buf := [] }
        ∧ t.store.op = none
        ∧ Asks s t [.buffer .payloadPage (wordNat r.bytes 40 + (s.executor.page + 1) * 4096)
            (min 4096 (wordNat r.bytes 36 - (s.executor.page + 1) * 4096))])
      ∧ (Writable .store r.addr s → ingestPages r.bytes ≤ s.executor.page + 1 → ∃ t,
        exec (.pageProgramEnd true) u = .next t ∧ t.executor.phase = .idle
        ∧ t.executor.progress = s.executor.progress + 1
        ∧ Asks s t (doneAccesses .store r.addr (if crcResult s.executor.crc = word r.bytes 44 then .ok
            else .checksumMismatch) 0#32 (s.executor.progress + 1))) := by
  subst record h
  have run := exec_programEnd (ok := true) (s := { s with store := { s.store with op := some (.program p d) } }) rfl
  rw [endOp_placed free.2.1, if_pos rfl, programSucceeded_eq] at run
  refine ⟨fun more => ?_, fun writable last => ?_⟩
  · rw [if_pos more, serveStore_quiet (s := askPayloadPage (programmed p d s)) free] at run
    obtain ⟨t, run, eq, asks⟩ := exec_asks run rfl rfl
    refine ⟨t, run, ?_, ?_, asks⟩
    · rw [eq]
      rfl
    · rw [eq]
      exact free.2.1
  · rw [if_neg (Nat.not_lt.mpr last), finishExecutor_writable (s := programmed p d s) (writable.congr rfl),
      serveStore_quiet (by exact free)] at run
    obtain ⟨t, run, eq, asks⟩ := exec_asks run rfl rfl
    refine ⟨t, run, ?_, ?_, asks⟩ <;> rw [eq] <;> rfl

/-- Settles O49, phase by phase. -/
theorem ingestSteps : Obligations.IngestSteps := by
  rintro s r b e rfl rfl
  exact ⟨fun ready free res n refused => ingest_refused ready free refused,
    fun ready free range forced supply writable fill => ingest_starts ready free range forced supply writable fill,
    fun x y tr own phase mem rest writable => ingest_verified own phase mem rest writable,
    fun x y q own phase buf queue writable free => ingest_pageRead own phase buf queue writable free,
    fun p d u own free h => ingest_programmed own free h⟩

end Sys2Proof.Machine
end

section
/-!
PROOFS. STORE_READ and STORE_SURVEY (10 R186, R193, R194, R199 to R201).
-/

namespace Sys2Proof.Machine

open Sys2Proof

variable {c : Instr} {s t u v : State} {r : RecordCopy} {k : Kind} {res : ResultCode} {i n p : Nat} {d : List Byte}
  {x : Executor} {q : List BusAccess}

/-! ## What both kinds refuse -/

/-- A record whose fields are out of range, or that the supply refuses (10 R185, R193, R199). -/
def ReadingRefused (inRange : Bool) (s : State) (res : ResultCode) : Prop :=
  (res = .range ∧ inRange = false)
    ∨ (res = .lowSupply ∧ inRange = true ∧ (s.power.forced = true ∨ s.power.cls = .exhausted))

theorem startRefused_reading (h : k = .storeRead ∨ k = .storeSurvey) :
    startRefused k s = true ↔ s.power.forced = true ∨ s.power.cls = .exhausted := by
  rcases h with rfl | rfl <;> simp [startRefused]

/-- A record that is refused by its checks ends at once. -/
theorem reading_refused {checks : State → State}
    (row : exec c s = onRecord k (fun r t => serveStore (checks (beginExecutor k r t))) s)
    (lane : k.lane = .store) (ready : Ready k r s) (free : ArrayFree s)
    (ends : checks (begun k r (acceptedExecutor k r) s) =
      finishExecutor res 0#32 0 (begun k r (acceptedExecutor k r) s)) :
    ∃ t, exec c s = .next t ∧ t.executor.phase = .idle ∧ t.store.op = none
      ∧ Asks s t (takenAccesses k r s ++ doneAccesses .store r.addr res 0#32 0) := by
  obtain ⟨t, run, eq, asks⟩ := executor_ends row ready lane free rfl ends
  refine ⟨t, run, ?_, ?_, asks⟩ <;> rw [eq]
  · rfl
  · exact free.2.1

/-! ## STORE_READ -/

theorem exec_storeRead (s : State) :
    exec .storeRead s = onRecord .storeRead (fun r t => serveStore (readChecks (beginExecutor .storeRead r t))) s := rfl

/-- The executor at the first page of a read (10 R193). -/
def readingFirst (r : RecordCopy) : Executor := { acceptedExecutor .storeRead r with phase := .reading, page := 0 }

/-- The checks of a read, and its first page (10 R193). -/
theorem readChecks_begun (r : RecordCopy) (s : State) : readChecks (begun .storeRead r (acceptedExecutor .storeRead r) s) =
    let w := begun .storeRead r (acceptedExecutor .storeRead r) s
    if !readInRange r.bytes then finishExecutor .range 0#32 0 w
    else if startRefused .storeRead s then finishExecutor .lowSupply 0#32 0 w
    else postRequest (.read (half r.bytes 32 * 64 + byteAt r.bytes 34)) (begun .storeRead r (readingFirst r) s) := rfl

theorem readChecks_refused (h : ReadingRefused (readInRange r.bytes) s res) :
    readChecks (begun .storeRead r (acceptedExecutor .storeRead r) s) =
      finishExecutor res 0#32 0 (begun .storeRead r (acceptedExecutor .storeRead r) s) := by
  rw [readChecks_begun]
  rcases h with ⟨rfl, range⟩ | ⟨rfl, range, supply⟩
  · exact if_pos (by simp [range])
  · exact (if_neg (by simp [range])).trans (if_pos ((startRefused_reading (.inl rfl)).mpr supply))

theorem readChecks_accepts (range : readInRange r.bytes = true) (forced : s.power.forced = false)
    (supply : s.power.cls ≠ .exhausted) : readChecks (begun .storeRead r (acceptedExecutor .storeRead r) s) =
      postRequest (.read (half r.bytes 32 * 64 + byteAt r.bytes 34)) (begun .storeRead r (readingFirst r) s) := by
  rw [readChecks_begun]
  have started : ¬ startRefused .storeRead s = true := by simp [startRefused_reading, forced, supply]
  exact (if_neg (by simp [range])).trans (if_neg started)

theorem read_starts (ready : Ready .storeRead r s) (free : ArrayFree s) (range : readInRange r.bytes = true)
    (forced : s.power.forced = false) (supply : s.power.cls ≠ .exhausted) : ∃ t, exec .storeRead s = .next t
      ∧ Asks s t (takenAccesses .storeRead r s) ∧ t.executor.phase = .reading ∧ t.executor.record = r
      ∧ t.executor.progress = 0 ∧ t.executor.page = 0
      ∧ t.store = { s.store with
          op := some (.read .executor (half r.bytes 32 * 64 + byteAt r.bytes 34) false), idle := none } := by
  obtain ⟨t, run, eq, asks⟩ := executor_launches (exec_storeRead s) ready free (readChecks_accepts range forced supply)
    (o := .read .executor (half r.bytes 32 * 64 + byteAt r.bytes 34) false) rfl
  refine ⟨t, run, asks, ?_⟩
  rw [eq]
  exact ⟨rfl, rfl, rfl, rfl, rfl⟩

/-! ## A page at its destination -/

theorem exec_destWrite {busError : Bool} {y z : Nat} (queue : s.bus.queue = .buffer .destination y z :: q)
    (phase : s.executor.phase = .reading) (full : s.executor.buf ≠ []) :
    exec (.storeReadDestWriteEnd busError) s = commit s (if busError then
      finishExecutor .badAddress s.executor.detail s.executor.progress (s.popped q)
      else serveStore (readPageWritten (s.popped q))) := by
  have head := endBuffer_head queue
  simp only [exec, execStoreReadDestWriteEnd, head, if_pos (And.intro phase full)]
  cases busError <;> rfl

/-- The state once the page a read is at has been written to its destination and counted (10 R193). -/
def pageStored (s : State) : State :=
  { s with
    executor := pageCounted s.executor
    shared := writeShared (wordNat s.executor.record.bytes 36 + s.executor.page * 4096) s.executor.buf s.shared }

theorem readPageWritten_eq (s : State) : readPageWritten s =
    if s.executor.page + 1 < byteAt s.executor.record.bytes 35 then
      postRequest (.read (half s.executor.record.bytes 32 * 64 + byteAt s.executor.record.bytes 34
        + (s.executor.page + 1))) (pageStored s)
    else finishExecutor .ok s.executor.detail (s.executor.progress + 1) (pageStored s) := rfl

theorem destWrite_fails {y z : Nat} (record : s.executor.record = r) (phase : s.executor.phase = .reading)
    (full : s.executor.buf ≠ []) (queue : s.bus.queue = .buffer .destination y z :: q)
    (writable : Writable .store r.addr s) (free : ArrayFree s) :
    ∃ t, exec (.storeReadDestWriteEnd true) s = .next t ∧ t.executor.phase = .idle
      ∧ t.executor.progress = s.executor.progress ∧ t.store.op = none ∧ t.shared = s.shared
      ∧ AsksAfter s q t (doneAccesses .store r.addr .badAddress s.executor.detail s.executor.progress) := by
  subst record
  have run := exec_destWrite (busError := true) queue phase full
  rw [if_pos rfl, finishExecutor_writable (s := s.popped q) (writable.congr rfl)] at run
  obtain ⟨t, run, eq, asks⟩ := exec_asksAfter run rfl rfl
  refine ⟨t, run, ?_, ?_, ?_, ?_, asks⟩ <;> rw [eq]
  case refine_3 => exact free.2.1
  all_goals rfl

theorem destWrite_succeeds {y z : Nat} (record : s.executor.record = r) (phase : s.executor.phase = .reading)
    (full : s.executor.buf ≠ []) (wf : sparseWf s.shared = true)
    (queue : s.bus.queue = .buffer .destination y z :: q) (writable : Writable .store r.addr s) (free : ArrayFree s) :
    ∃ t, exec (.storeReadDestWriteEnd false) s = .next t
      ∧ SharedWritten s t (wordNat r.bytes 36 + s.executor.page * 4096) s.executor.buf
      ∧ t.executor.progress = s.executor.progress + 1
      ∧ (s.executor.page + 1 < byteAt r.bytes 35 → t.executor.phase = .reading ∧ t.executor.buf = []
          ∧ t.store.op = some (.read .executor
              (half r.bytes 32 * 64 + byteAt r.bytes 34 + (s.executor.page + 1)) false) ∧ AsksAfter s q t [])
      ∧ (byteAt r.bytes 35 ≤ s.executor.page + 1 → t.executor.phase = .idle ∧ t.store.op = none
          ∧ AsksAfter s q t (doneAccesses .store r.addr .ok s.executor.detail (s.executor.progress + 1))) := by
  subst record
  have run := exec_destWrite (busError := false) queue phase full
  rw [if_neg nofun, readPageWritten_eq] at run
  by_cases more : s.executor.page + 1 < byteAt s.executor.record.bytes 35
  · rw [if_pos (by exact more), serveStore_posted (s := pageStored (s.popped q)) free
      (o := .read .executor (half s.executor.record.bytes 32 * 64 + byteAt s.executor.record.bytes 34
        + (s.executor.page + 1)) false) rfl] at run
    obtain ⟨t, run, eq, asks⟩ := exec_asksAfter run (List.append_nil _).symm rfl
    refine ⟨t, run, sharedWritten_of wf (by rw [eq]; rfl), by rw [eq]; rfl, fun _ => ?_, fun last => absurd more (by omega)⟩
    refine ⟨?_, ?_, ?_, asks⟩ <;> rw [eq]
    · exact phase
    all_goals rfl
  · rw [if_neg (by exact more), finishExecutor_writable (s := pageStored (s.popped q)) (writable.congr rfl),
      serveStore_quiet (by exact free)] at run
    obtain ⟨t, run, eq, asks⟩ := exec_asksAfter run rfl rfl
    refine ⟨t, run, sharedWritten_of wf (by rw [eq]; rfl), by rw [eq]; rfl, fun less => absurd less more, fun _ => ?_⟩
    refine ⟨?_, ?_, asks⟩ <;> rw [eq]
    · rfl
    · exact free.2.1

/-! ## STORE_SURVEY -/

theorem exec_storeSurvey (s : State) : exec .storeSurvey s =
    onRecord .storeSurvey (fun r t => serveStore (surveyChecks (beginExecutor .storeSurvey r t))) s := rfl

/-- The executor as it writes a survey's report (10 R200). -/
def reportingExecutor (r : RecordCopy) (st : Store) : Executor :=
  { acceptedExecutor .storeSurvey r with phase := .reporting, buf := surveyReport (half r.bytes 32) (half r.bytes 34) st }

/-- The executor as it surveys a block of a survey's range (10 R199). -/
def surveyingExecutor (r : RecordCopy) (i : Nat) : Executor :=
  { acceptedExecutor .storeSurvey r with phase := .surveying, page := i, block := half r.bytes 32 + i }

/-- The state with a survey's report asked for (10 R200). -/
def reportAsked (r : RecordCopy) (s : State) : State :=
  askBuffer .report (wordNat r.bytes 36) (half r.bytes 34) (begun .storeSurvey r (reportingExecutor r s.store) s)

/-- The checks of a survey, and what it begins with (10 R199). -/
theorem surveyChecks_begun (r : RecordCopy) (s : State) :
    surveyChecks (begun .storeSurvey r (acceptedExecutor .storeSurvey r) s) =
      let w := begun .storeSurvey r (acceptedExecutor .storeSurvey r) s
      if !rangeOk (half r.bytes 32) (half r.bytes 34) then finishExecutor .range 0#32 0 w
      else if startRefused .storeSurvey s then finishExecutor .lowSupply 0#32 0 w
      else match nextUnknown (half r.bytes 32) (half r.bytes 34) 0 s.store with
        | some i => postRequest (.raw ((half r.bytes 32 + i) * 64) .storeSurvey)
            (begun .storeSurvey r (surveyingExecutor r i) s)
        | none   => reportAsked r s := rfl

theorem surveyChecks_refused (h : ReadingRefused (rangeOk (half r.bytes 32) (half r.bytes 34)) s res) :
    surveyChecks (begun .storeSurvey r (acceptedExecutor .storeSurvey r) s) =
      finishExecutor res 0#32 0 (begun .storeSurvey r (acceptedExecutor .storeSurvey r) s) := by
  rw [surveyChecks_begun]
  rcases h with ⟨rfl, range⟩ | ⟨rfl, range, supply⟩
  · exact if_pos (by simp [range])
  · exact (if_neg (by simp [range])).trans (if_pos ((startRefused_reading (.inr rfl)).mpr supply))

/-- The first UNKNOWN block of a range is found (10 R199). -/
theorem nextUnknown_some {st : Store} (h : nextUnknown p n 0 st = some i) : i < n
    ∧ (st.block (p + i)).fill = .unknown ∧ ∀ j, j < i → (st.block (p + j)).fill ≠ .unknown := by
  rw [nextUnknown, List.drop_zero, List.find?_range_eq_some] at h
  obtain ⟨unknown, mem, least⟩ := h
  exact ⟨List.mem_range.mp mem, by simpa using unknown, fun j less => by simpa using least j less⟩

theorem nextUnknown_none {st : Store} (h : nextUnknown p n 0 st = none) :
    ∀ i, i < n → (st.block (p + i)).fill ≠ .unknown := by
  rw [nextUnknown, List.drop_zero, List.find?_eq_none] at h
  exact fun i less => by simpa using h i (List.mem_range.mpr less)

theorem survey_starts (ready : Ready .storeSurvey r s) (free : ArrayFree s)
    (range : rangeOk (half r.bytes 32) (half r.bytes 34) = true) (forced : s.power.forced = false)
    (supply : s.power.cls ≠ .exhausted) : ∃ t, exec .storeSurvey s = .next t
      ∧ ((∀ i, i < half r.bytes 34 → (s.store.block (half r.bytes 32 + i)).fill ≠ .unknown) →
          t.executor.phase = .reporting ∧ t.store.op = none
            ∧ Asks s t (takenAccesses .storeSurvey r s ++ [.buffer .report (wordNat r.bytes 36) (half r.bytes 34)])
            ∧ t.executor.buf = (List.range (half r.bytes 34)).map fun i =>
              (s.store.block (half r.bytes 32 + i)).reportByte)
      ∧ ∀ i, i < half r.bytes 34 → (s.store.block (half r.bytes 32 + i)).fill = .unknown →
          (∀ j, j < i → (s.store.block (half r.bytes 32 + j)).fill ≠ .unknown) →
          t.executor.phase = .surveying ∧ Asks s t (takenAccesses .storeSurvey r s)
            ∧ t.store.op = some (.raw ((half r.bytes 32 + i) * 64) .storeSurvey false) := by
  have checked := surveyChecks_begun r s
  have started : ¬ startRefused .storeSurvey s = true := by simp [startRefused_reading, forced, supply]
  dsimp only at checked
  rw [if_neg (by simp [range]), if_neg started] at checked
  cases found : nextUnknown (half r.bytes 32) (half r.bytes 34) 0 s.store with
  | none =>
    have known := nextUnknown_none found
    rw [found] at checked
    have run := exec_begun (exec_storeSurvey s) ready
    rw [checked, serveStore_quiet (s := reportAsked r s) free] at run
    obtain ⟨t, run, eq, asks⟩ := exec_asks run (List.append_assoc ..) rfl
    refine ⟨t, run, fun _ => ?_, fun i less unknown => absurd unknown (known i less)⟩
    refine ⟨?_, ?_, asks, ?_⟩ <;> rw [eq]
    · rfl
    · exact free.2.1
    · rfl
  | some i =>
    obtain ⟨less, unknown, least⟩ := nextUnknown_some found
    rw [found] at checked
    obtain ⟨t, run, eq, asks⟩ := executor_launches (exec_storeSurvey s) ready free checked
      (o := .raw ((half r.bytes 32 + i) * 64) .storeSurvey false) rfl
    refine ⟨t, run, fun known => absurd unknown (known i less), fun j _ unknown' least' => ?_⟩
    obtain rfl : j = i := by
      rcases Nat.lt_trichotomy j i with h | h | h
      · exact absurd unknown' (least j h)
      · exact h
      · exact absurd unknown (least' i h)
    refine ⟨?_, asks, ?_⟩ <;> rw [eq] <;> rfl

/-! ## The report -/

theorem exec_reportWrite {busError : Bool} {y z : Nat} (queue : s.bus.queue = .buffer .report y z :: q)
    (phase : s.executor.phase = .reporting) :
    exec (.surveyReportWriteEnd busError) s = commit s (if busError then
      finishExecutor .badAddress 0#32 s.executor.progress (s.popped q) else reportDone (s.popped q)) := by
  have head := endBuffer_head queue
  simp only [exec, execSurveyReportWriteEnd, head, if_pos phase]
  cases busError <;> rfl

/-- The state once a survey's report is written (10 R200). -/
def reportStored (s : State) : State :=
  { s with shared := writeShared (wordNat s.executor.record.bytes 36) s.executor.buf s.shared }

theorem reportDone_eq (s : State) : reportDone s =
    finishExecutor (if s.executor.failed then .readError else .ok) 0#32 s.executor.progress (reportStored s) := rfl

theorem reportWrite_succeeds {y z : Nat} (record : s.executor.record = r) (phase : s.executor.phase = .reporting)
    (wf : sparseWf s.shared = true) (queue : s.bus.queue = .buffer .report y z :: q)
    (writable : Writable .store r.addr s) : ∃ t, exec (.surveyReportWriteEnd false) s = .next t
      ∧ t.executor.phase = .idle ∧ t.store = s.store
      ∧ SharedWritten s t (wordNat r.bytes 36) s.executor.buf ∧ t.executor.progress = s.executor.progress
      ∧ AsksAfter s q t (doneAccesses .store r.addr (if s.executor.failed then .readError else .ok) 0#32
          s.executor.progress) := by
  subst record
  have run := exec_reportWrite (busError := false) queue phase
  rw [if_neg nofun, reportDone_eq, finishExecutor_writable (s := reportStored (s.popped q)) (writable.congr rfl)] at run
  obtain ⟨t, run, eq, asks⟩ := exec_asksAfter run rfl rfl
  refine ⟨t, run, ?_, ?_, sharedWritten_of wf (by rw [eq]; rfl), ?_, asks⟩ <;> rw [eq] <;> rfl

theorem reportWrite_fails {y z : Nat} (record : s.executor.record = r) (phase : s.executor.phase = .reporting)
    (queue : s.bus.queue = .buffer .report y z :: q) (writable : Writable .store r.addr s) :
    ∃ t, exec (.surveyReportWriteEnd true) s = .next t ∧ t.executor.phase = .idle ∧ t.store = s.store
      ∧ t.executor.progress = s.executor.progress ∧ t.shared = s.shared
      ∧ AsksAfter s q t (doneAccesses .store r.addr .badAddress 0#32 s.executor.progress) := by
  subst record
  have run := exec_reportWrite (busError := true) queue phase
  rw [if_pos rfl, finishExecutor_writable (s := s.popped q) (writable.congr rfl)] at run
  obtain ⟨t, run, eq, asks⟩ := exec_asksAfter run rfl rfl
  refine ⟨t, run, ?_, ?_, ?_, ?_, asks⟩ <;> rw [eq] <;> rfl

/-- Settles O50, phase by phase. -/
theorem readAndSurveySteps : Obligations.ReadAndSurveySteps := by
  refine fun s r => ⟨fun ready free => ⟨read_starts ready free, fun res refused => ?_⟩,
    fun x y q own phase full wf queue writable free => ⟨fun _ => ?_,
      destWrite_succeeds own phase full wf queue writable free⟩,
    fun ready free => ⟨survey_starts ready free, fun res refused => ?_⟩,
    fun x y q own phase wf queue writable => ⟨reportWrite_succeeds own phase wf queue writable, ?_⟩⟩
  · exact reading_refused (exec_storeRead s) rfl ready free (readChecks_refused refused)
  · obtain ⟨t, run, idle, count, op, shared, asks⟩ := destWrite_fails own phase full queue writable free
    exact ⟨t, run, idle, count, op, fun _ _ => by rw [shared], asks⟩
  · exact reading_refused (exec_storeSurvey s) rfl ready free (surveyChecks_refused refused)
  · obtain ⟨t, run, idle, store, count, shared, asks⟩ := reportWrite_fails own phase queue writable
    exact ⟨t, run, idle, store, count, fun _ _ => by rw [shared], asks⟩

end Sys2Proof.Machine
end

section
/-!
PROOFS. The pages, the checks and the failure of a local turn (07 R137, R138, R141; 03 R53, R54).
-/

namespace Sys2Proof.Machine

open Sys2Proof

variable {c : Instr} {s t u v : State} {d : List Byte} {more : List (Option (List Byte))} {x : Turn}

/-! ## The pages of a turn -/

theorem WorkMem.serves_of {w : WorkMem} (h : w.state = .active ∨ w.state = .entering) : w.serves = true :=
  WorkMem.serves_iff.mpr h

/-- The turn once a page of its extent is buffered (07 R137). -/
def pageTaken (more : List (Option (List Byte))) (x : Turn) : Turn :=
  { x with
    arrived := more, written := x.written + 1
    state := if x.written + 1 < x.extentCount then .reading else .checking }

/-- Working memory once a page of a turn's extent is buffered. -/
def pageInBuffer (d : List Byte) (s : State) : WorkMem :=
  { s.wm with decode := overlay s.wm.decode (s.turn.written * 4096) d }

/-- The state with the page at the head buffered. -/
def pageTook (d : List Byte) (s : State) : State :=
  { s with
    wm := pageInBuffer d s
    turn := { s.turn with written := s.turn.written + 1, arrived := s.turn.arrived.tail } }

/-- The state once a page is buffered and the Store Reader has asked for its next burst (07 R137). -/
def pageStep (d : List Byte) (s : State) : State :=
  if s.turn.arrived.tail.isEmpty then wmDrop .storeReader (pageTook d s) else wmRequest .storeReader (pageTook d s)

theorem pageStep_kept (d : List Byte) (s : State) :
    pageStep d s = { s with
        wm := (pageStep d s).wm
        turn := { s.turn with written := s.turn.written + 1, arrived := s.turn.arrived.tail } }
      ∧ SameContents (pageInBuffer d s) (pageStep d s).wm := by
  unfold pageStep
  split
  · exact ⟨rfl, wmDrop_contents _ (pageTook d s)⟩
  · exact ⟨rfl, wmRequest_contents _ (pageTook d s)⟩

theorem pageBuffered_eq (d : List Byte) (s : State) : pageBuffered d s =
    if (pageStep d s).turn.written < (pageStep d s).turn.extentCount then pageStep d s
    else wmRequest .decoder ((pageStep d s).modTurn fun x => { x with state := .checking }) := rfl

theorem pageBuffered_kept (reading : s.turn.state = .reading) (arrived : s.turn.arrived = some d :: more) :
    pageBuffered d s = { s with wm := (pageBuffered d s).wm, turn := pageTaken more s.turn }
      ∧ SameContents (pageInBuffer d s) (pageBuffered d s).wm := by
  obtain ⟨same, kept⟩ := pageStep_kept d s
  have turn : (pageStep d s).turn = { s.turn with written := s.turn.written + 1, arrived := more } := by
    rw [same, arrived]
    rfl
  rw [pageBuffered_eq, turn]
  by_cases next : s.turn.written + 1 < s.turn.extentCount
  · rw [if_pos next, pageTaken, if_pos next, ← reading]
    refine ⟨?_, kept⟩
    rw [← turn]
    exact same.trans (by rw [same])
  · rw [if_neg next, pageTaken, if_neg next]
    refine ⟨?_, kept.trans (wmRequest_contents .decoder ((pageStep d s).modTurn fun x => { x with state := .checking }))⟩
    rw [same, arrived]
    rfl

theorem exec_turnPage (reading : s.turn.state = .reading) (arrived : s.turn.arrived = some d :: more)
    (serves : s.wm.serves = true) : exec .turnPageReadEnd s = commit s (pageBuffered d s) := by
  simp only [exec, execTurnPageReadEnd, reading, arrived, serves, if_true]

theorem exec_imageChecked (checking : s.turn.state = .checking) (serves : s.wm.serves = true)
    (ok : imageOk s.wm.decode s.turn.extentCount = true) : exec .turnImageCheckEnd s =
      commit s (wmRequest .decoder (s.modTurn fun t => { t with state := .decoding })) := by
  simp only [exec, execTurnImageCheckEnd, checking, serves, ok, and_self, if_true]

/-- A page that could not be read, or an image that fails its check, fails the turn (07 R141). -/
theorem exec_turnFails (serves : s.wm.serves = true)
    (h : (c = .turnPageReadEnd ∧ s.turn.state = .reading ∧ ∃ more, s.turn.arrived = none :: more)
      ∨ (c = .turnImageCheckEnd ∧ s.turn.state = .checking ∧ imageOk s.wm.decode s.turn.extentCount = false)) :
    ∃ client, exec c s = commit s (settleAll (failTurn (wmDrop client s))) := by
  rcases h with ⟨rfl, reading, more, arrived⟩ | ⟨rfl, checking, fails⟩
  · exact ⟨.storeReader, by simp only [exec, execTurnPageReadEnd, reading, arrived, if_true]⟩
  · refine ⟨.decoder, ?_⟩
    simp only [exec, execTurnImageCheckEnd, checking, serves, fails, and_self, if_true]
    rfl

/-! ## A turn that fails -/

/-- The Turn-Ahead Unit once its turn has failed (07 R141). -/
def turnFailed (x : Turn) : Turn :=
  { x.setFrame x.frame .free with entries := markBad x.target x.entries, state := .idle, arrived := [], queue := [] }

theorem turnFailed_kept (x : Turn) : (turnFailed x).cursor = x.cursor ∧ (turnFailed x).frameState x.frame = .free := by
  unfold turnFailed
  cases h : x.frame <;> exact ⟨rfl, rfl⟩

theorem markBad_at : ∀ (n : Nat) (l : List TurnEntry), ((markBad n l)[n]?).map (·.bad) = (l[n]?).map fun _ => true
  | _, []         => by simp [markBad]
  | 0, e :: l     => rfl
  | n + 1, e :: l => markBad_at n l

/-- The state once a turn has failed, before the Power Controller takes it up (07 R141). -/
def failedState (s : State) : State :=
  { s with
    turn := turnFailed s.turn
    store := { s.store with ta := none }
    regs := { s.regs with cause := s.regs.cause ||| causeBit turnErrorCause } }

theorem failedState_quiet (pending : s.panel.pending = []) (calm : s.power.descentPending = false) :
    Quiet (failedState s) := ⟨pending, rfl, rfl, calm⟩

theorem wakeEvent_turnError (h : ¬ InDoze s) : wakeEvent .turnError s = s := by
  unfold wakeEvent
  split
  case h_1 => rfl
  case h_2 => rfl
  case h_3 => rfl
  case h_4 => rfl
  all_goals exact absurd (by simp_all) h

theorem failTurn_eq (s : State) : failTurn s = wakeEvent .turnError (failedState s) := rfl

theorem failTurn_awake (h : ¬ InDoze s) : failTurn s = failedState s := by
  rw [failTurn_eq, wakeEvent_turnError (s := failedState s) h]

theorem failTurn_doze (h : InDoze s) (calm : s.power.descentPending = false) :
    failTurn s = wakingFromDoze .turnError (failedState s) := by
  rw [failTurn_eq, wakeEvent_doze (failedState s) h calm (by simp), wakeFromDoze_eq, if_neg nofun]

/-- A failed turn ends the step: nothing waits behind it. -/
theorem settleAll_failTurn (pending : s.panel.pending = []) (calm : s.power.descentPending = false) :
    settleAll (failTurn s) = failTurn s := by
  by_cases doze : InDoze s
  · rw [failTurn_doze doze calm]
    exact settleAll_quiet (wakingFromDoze_quiet _ (failedState_quiet pending calm))
  · rw [failTurn_awake doze]
    exact settleAll_quiet (failedState_quiet pending calm)

theorem failTurn_turn (calm : s.power.descentPending = false) : (failTurn s).turn = turnFailed s.turn := by
  by_cases doze : InDoze s
  · rw [failTurn_doze doze calm, wakingFromDoze_eq]
    rfl
  · rw [failTurn_awake doze]
    rfl

theorem turn_fails (serves : s.wm.serves = true) (pending : s.panel.pending = [])
    (calm : s.power.descentPending = false)
    (h : (c = .turnPageReadEnd ∧ s.turn.state = .reading ∧ ∃ more, s.turn.arrived = none :: more)
      ∨ (c = .turnImageCheckEnd ∧ s.turn.state = .checking ∧ imageOk s.wm.decode s.turn.extentCount = false)) :
    ∃ t, exec c s = .next t
      ∧ t.turn.state = .idle ∧ t.turn.queue = [] ∧ t.turn.cursor = s.turn.cursor ∧ t.turn.frameState s.turn.frame = .free
      ∧ (¬ InDoze s → t.power = s.power ∧ t.panel = s.panel
          ∧ t.regs = { s.regs with cause := s.regs.cause ||| causeBit turnErrorCause })
      ∧ (InDoze s → t.power.state = .waking ∧ t.power.wakeReason = .turnError ∧ t.power.dozeTimer = none
          ∧ t.power.wakeTimer = none ∧ t.panel = { s.panel with flushed := false }
          ∧ t.regs = { s.regs with hostwake := true,
                                   cause := s.regs.cause ||| causeBit turnErrorCause ||| causeBit wakeCause })
      ∧ (t.turn.entries[s.turn.target]?).map (·.bad) = (s.turn.entries[s.turn.target]?).map fun _ => true := by
  obtain ⟨client, run⟩ := exec_turnFails serves h
  rw [settleAll_failTurn (s := wmDrop client s) pending calm] at run
  have turn : (settlePort s (failTurn (wmDrop client s))).turn = turnFailed s.turn := by
    rw [settlePort_eq]
    exact failTurn_turn (s := wmDrop client s) calm
  obtain ⟨cursor, frame⟩ := turnFailed_kept s.turn
  refine ⟨_, run, ?_⟩
  rw [turn]
  refine ⟨rfl, rfl, cursor, frame, fun awake => ?_, fun doze => ?_, markBad_at _ _⟩
  · rw [failTurn_awake (s := wmDrop client s) awake, settlePort_eq]
    exact ⟨rfl, rfl, rfl⟩
  · rw [failTurn_doze (s := wmDrop client s) doze calm, settlePort_eq, wakingFromDoze_eq]
    exact ⟨rfl, rfl, rfl, rfl, rfl, rfl⟩

/-- Settles O44. -/
theorem turnReadsAndChecks : Obligations.TurnReadsAndChecks := by
  refine fun s active pending calm => ⟨fun d more reading arrived => ?_, fun checking ok => ?_,
    fun c h => turn_fails (WorkMem.serves_of active) pending calm h⟩
  · have run := exec_turnPage reading arrived (WorkMem.serves_of active)
    obtain ⟨eq, kept⟩ := pageBuffered_kept reading arrived
    refine ⟨_, run, ?_⟩
    rw [settlePort_eq]
    exact ⟨by rw [eq]; rfl, kept.decode, kept.panel, kept.frameA, kept.frameB, kept.bankA, kept.bankB⟩
  · have run := exec_imageChecked checking (WorkMem.serves_of active) ok
    exact (exec_asksNothing run rfl).imp fun t ⟨run, eq, _⟩ => ⟨run, eq.trans (by rw [eq]; rfl)⟩

end Sys2Proof.Machine
end

section
/-!
PROOFS. TURN_LOAD: the checks, the entry array and the list's replacement (07 R131, R132; 10 R196).
-/

namespace Sys2Proof.Machine

open Sys2Proof

variable {c : Instr} {s t u v : State} {r : RecordCopy} {l : TurnLoad} {a b : List Byte} {es : List TurnEntry}
  {res : ResultCode} {i n : Nat} {q : List BusAccess} {st : Store} {x : Executor}

/-! ## The entries of an array (07 R132) -/

/-- What the check of one place of an entry array guarantees of the entry there. -/
def EntryRead (a : List Byte) (i : Nat) (e : TurnEntry) : Prop :=
  e.block = half a (8 * i) ∧ e.first = byteAt a (8 * i + 2) ∧ e.count = byteAt a (8 * i + 3) ∧ e.bad = false
    ∧ e.block ≤ 4095 ∧ e.first ≤ 63 ∧ 1 ≤ e.count ∧ e.count ≤ 64 ∧ e.block * 64 + e.first + e.count ≤ 262144
    ∧ modeOfCode (byteAt a (8 * i + 4)) = some e.mode ∧ e.mode ≠ .clear

theorem turnEntryAt_read {e : TurnEntry} (h : turnEntryAt a i = .inl e) : EntryRead a i e := by
  unfold turnEntryAt at h
  dsimp only at h
  split at h
  · nomatch h
  · next inside =>
    simp only [Bool.or_eq_true, decide_eq_true_eq, not_or, Nat.not_lt] at inside
    obtain ⟨⟨⟨block, first⟩, low⟩, high⟩ := inside
    split at h
    · nomatch h
    · next within =>
      have bound := Nat.not_lt.mp within
      split at h
      case h_4 => nomatch h
      case h_5 => nomatch h
      all_goals
        next mode =>
        obtain rfl := Sum.inl.inj h
        exact ⟨rfl, rfl, rfl, rfl, block, first, low, high, bound, mode, nofun⟩

theorem turnEntries_places : ∀ (n i : Nat) (es : List TurnEntry), turnEntries a i n = .inl es →
    es.length = n ∧ ∀ j e, es[j]? = some e → turnEntryAt a (i + j) = .inl e
  | 0, i, es, h => by
    obtain rfl := Sum.inl.inj h
    exact ⟨rfl, fun j e at' => by simp at at'⟩
  | n + 1, i, es, h => by
    unfold turnEntries at h
    split at h
    · nomatch h
    · next e here =>
      split at h
      · next rest there =>
        obtain rfl := Sum.inl.inj h
        obtain ⟨length, places⟩ := turnEntries_places n (i + 1) rest there
        refine ⟨congrArg (· + 1) length, fun j e' at' => ?_⟩
        cases j with
        | zero => exact here.trans (congrArg Sum.inl (Option.some.inj at'))
        | succ j => exact (congrArg (turnEntryAt a) (by omega)).trans (places j e' at')
      · nomatch h

theorem turnEntries_fails : ∀ (n i k : Nat) (res : ResultCode), turnEntries a i n = .inr (k, res) →
    i ≤ k ∧ k < i + n ∧ turnEntryAt a k = .inr res ∧ ∀ j, i ≤ j → j < k → ∃ e, turnEntryAt a j = .inl e
  | n + 1, i, k, res, h => by
    unfold turnEntries at h
    split at h
    · next fails =>
      obtain ⟨rfl, rfl⟩ := Prod.mk.inj (Sum.inr.inj h)
      exact ⟨Nat.le_refl _, by omega, fails, fun j low high => absurd low (by omega)⟩
    · next e here =>
      split at h
      · nomatch h
      · next there =>
        obtain rfl := Sum.inr.inj h
        obtain ⟨low, high, fails, before⟩ := turnEntries_fails n (i + 1) k res there
        refine ⟨by omega, by omega, fails, fun j from' upto => ?_⟩
        rcases Nat.eq_or_lt_of_le from' with rfl | later
        · exact ⟨e, here⟩
        · exact before j later upto

theorem turnEntries_inl (h : turnEntries a 0 n = .inl es) :
    es.length = n ∧ ∀ i e, es[i]? = some e → EntryRead a i e := by
  obtain ⟨length, places⟩ := turnEntries_places n 0 es h
  refine ⟨length, fun i e at' => turnEntryAt_read ?_⟩
  rw [← places i e at', Nat.zero_add]

/-! ## The end of a TURN_LOAD -/

/-- The state once a TURN_LOAD is over: its record completes, and no press waits (07 R131). -/
theorem endTurnLoad_ends (load : s.turn.load = some l) (writable : Writable .control l.record.addr s)
    (presses : s.turn.queue = []) (res : ResultCode) (n : Nat) : endTurnLoad res n s = { s with
      turn := { s.turn with load := none }
      bus := { s.bus with queue := s.bus.queue ++ doneAccesses .control l.record.addr res 0#32 n } } := by
  simp only [endTurnLoad, load]
  rw [completeRecord_writable (Writable.congr (u := s.modTurn fun t => { t with load := none }) writable rfl)]
  exact considerHead_noPress presses

theorem turnOver_busy (h : s.turn.state = .idle ∨ s.turn.state = .offering) : s.turn.decoding = false := by
  rcases h with h | h <;> simp [Turn.decoding, h]

theorem exec_turnLoadCheck (load : s.turn.load = some l) (reading : l.reading = false)
    (state : s.turn.state = .idle ∨ s.turn.state = .offering) :
    exec .turnLoadCheck s = commit s (checkTurnLoad l s) := by
  simp [exec, execTurnLoadCheck, load, reading, turnOver_busy state]

theorem endEntryArray_head {y z : Nat} (queue : s.bus.queue = .buffer .entryArray y z :: q) :
    endAccess BusAccess.isEntryArray s = some (.buffer .entryArray y z, s.popped q) := endAccess_head queue rfl

/-- The state with a TURN_LOAD's record written Running (07 R131). -/
def loadRunning (l : TurnLoad) (s : State) : State :=
  { s with bus := { s.bus with queue := s.bus.queue ++ [.stateWrite .control l.record.addr .running] } }

theorem exec_arrayFails {y z : Nat} (load : s.turn.load = some l) (reading : l.reading = true)
    (queue : s.bus.queue = .buffer .entryArray y z :: q) :
    exec (.turnLoadArrayReadEnd .busError) s = commit s (endTurnLoad .badAddress 0 (s.popped q)) := by
  simp only [exec, execTurnLoadArrayReadEnd, load, endEntryArray_head queue, reading, if_true]

theorem exec_arrayRead {y z : Nat} (load : s.turn.load = some l) (reading : l.reading = true)
    (queue : s.bus.queue = .buffer .entryArray y z :: q) (writable : Writable .control l.record.addr s) :
    exec (.turnLoadArrayReadEnd (.data b)) s = commit s (takeEntries l b (loadRunning l (s.popped q))) := by
  simp only [exec, execTurnLoadArrayReadEnd, load, endEntryArray_head queue, reading, if_true,
    markRunning_writable (Writable.congr (u := s.popped q) writable rfl)]
  rfl

theorem takeEntries_fails (h : turnEntries b 0 (byteAt l.record.bytes 36) = .inr (i, res)) :
    takeEntries l b s = endTurnLoad res i s := by
  simp only [takeEntries, h]

theorem takeEntries_takes (h : turnEntries b 0 (byteAt l.record.bytes 36) = .inl es) :
    takeEntries l b s = endTurnLoad .ok (byteAt l.record.bytes 36) (replaceList l.record.bytes es s) := by
  simp only [takeEntries, h]

/-! ## The list's replacement -/

/-- The Store Controller and the executor once a waiting erase is checked again, with what stands in flight and no
request of the executor's (10 R196, log entry 27). -/
def ListTaken (s : State) (st : Store) (x : Executor) : Prop :=
  ((s.store.power = .poweringUp ∨ (s.store.power = .off ∧ s.store.ta = none ∧ s.store.wf = none)
      ∨ (s.store.power = .on ∧ s.store.op ≠ none)) ∧ st = s.store
      ∧ (((∀ p second, s.store.op ≠ some (.raw p .erase second)) ∧ x = s.executor)
        ∨ ((∃ p second, s.store.op = some (.raw p .erase second)) ∧ x = { s.executor with recheck := true })))
    ∨ (ArrayFree s ∧ st = { s.store with idle := s.store.idle.or (some s.store.idleTime) } ∧ x = s.executor)

theorem recheckErase_kept (ex : s.store.ex = none) (h : ∀ p second, s.store.op ≠ some (.raw p .erase second)) :
    recheckErase s = s := by
  unfold recheckErase
  rw [ex]
  split
  · next waits => nomatch waits
  · next raw _ => exact absurd raw (h _ _)
  · rfl

theorem recheckErase_marks (ex : s.store.ex = none) (h : ∃ p second, s.store.op = some (.raw p .erase second)) :
    recheckErase s = s.modExecutor fun x => { x with recheck := true } := by
  obtain ⟨p, second, op⟩ := h
  simp only [recheckErase, ex, op]

theorem serveStore_held (ex : s.store.ex = none) (h : s.store.power = .poweringUp
    ∨ (s.store.power = .off ∧ s.store.ta = none ∧ s.store.wf = none) ∨ (s.store.power = .on ∧ s.store.op ≠ none)) :
    serveStore s = s := by
  rcases h with up | ⟨off, ta, wf⟩ | ⟨on, op⟩
  · exact serveStore_poweringUp up
  · exact serveStore_off off (Store.waiting_none ta wf ex)
  · exact serveStore_busy on op

theorem serveStore_rechecked (ex : s.store.ex = none) (h : ListTaken s st x) :
    serveStore (recheckErase s) = { s with store := st, executor := x } := by
  rcases h with ⟨held, rfl, ⟨other, rfl⟩ | ⟨raw, rfl⟩⟩ | ⟨free, rfl, rfl⟩
  · rw [recheckErase_kept ex other, serveStore_held ex held]
  · rw [recheckErase_marks ex raw]
    exact serveStore_held (s := s.modExecutor fun x => { x with recheck := true }) ex held
  · have other : ∀ p second, s.store.op ≠ some (.raw p .erase second) := fun p second h => by
      rw [free.2.1] at h
      nomatch h
    rw [recheckErase_kept ex other, serveStore_quiet free]

theorem relisted_idle (h : s.turn.state = .idle ∨ s.turn.state = .offering) (b : List Byte)
    (es : List TurnEntry) : { s.turn.relisted b es with load := none } = {
      (if s.turn.state = .offering then s.turn.setFrame s.turn.frame .free else s.turn) with
        state := .idle, load := none, entries := es, cursor := byteAt b 37, armed := byteAt b 38 == 1,
        interval := byteAt b 39, counter := 0, owed := false, queue := [] } := by
  unfold Turn.relisted Turn.withdrawOffer
  rcases h with idle | offering
  · rw [if_neg (by rw [idle]; nofun), if_neg (by rw [idle]; nofun), ← idle]
  · rw [if_pos offering, if_pos offering]

/-- The list is replaced and the TURN_LOAD completes (07 R132). -/
theorem takeEntries_replaces (load : s.turn.load = some l) (writable : Writable .control l.record.addr s)
    (entries : turnEntries b 0 (byteAt l.record.bytes 36) = .inl es)
    (ex : s.store.ex = none) (h : ListTaken s st x) :
    takeEntries l b s = { s with
      store := st, executor := x
      turn := { s.turn.relisted l.record.bytes es with load := none }
      bus := { s.bus with
        queue := (s.bus.queue ++ doneAccesses .control l.record.addr .ok 0#32 (byteAt l.record.bytes 36)) } } := by
  have kept : (s.turn.relisted l.record.bytes es).load = some l := by
    unfold Turn.relisted Turn.withdrawOffer
    split
    · cases s.turn.frame <;> exact load
    · exact load
  rw [takeEntries_takes entries, replaceList_eq,
    serveStore_rechecked (s := s.modTurn (Turn.relisted l.record.bytes es)) ex h]
  exact endTurnLoad_ends (s := { s with turn := s.turn.relisted l.record.bytes es, store := st, executor := x }) kept
    (writable.congr rfl) rfl ..

theorem turnLoad_replaces {c : Instr} (load : s.turn.load = some l) (writable : Writable .control l.record.addr s)
    (how : (∃ b y z, c = .turnLoadArrayReadEnd (.data b) ∧ l.reading = true
        ∧ s.bus.queue = .buffer .entryArray y z :: q ∧ turnEntries b 0 (byteAt l.record.bytes 36) = .inl es)
      ∨ (c = .turnLoadCheck ∧ l.reading = false ∧ turnBodyOk l.record.bytes = true
          ∧ byteAt l.record.bytes 36 = 0 ∧ es = [] ∧ q = s.bus.queue))
    (state : s.turn.state = .idle ∨ s.turn.state = .offering) (ex : s.store.ex = none) (h : ListTaken s st x) :
    ∃ t, exec c s = .next t
      ∧ t = { s with bus := t.bus, store := st, executor := x, turn := {
            (if s.turn.state = .offering then s.turn.setFrame s.turn.frame .free else s.turn) with
              state := .idle, load := none, entries := es, cursor := byteAt l.record.bytes 37,
              armed := byteAt l.record.bytes 38 == 1, interval := byteAt l.record.bytes 39, counter := 0,
              owed := false, queue := [] } }
      ∧ AsksAfter s q t (.stateWrite .control l.record.addr .running
          :: doneAccesses .control l.record.addr .ok 0#32 (byteAt l.record.bytes 36)) := by
  rw [← relisted_idle state]
  rcases how with ⟨b, y, z, rfl, reading, queue, entries⟩ | ⟨rfl, reading, ok, zero, rfl, rfl⟩
  · have run := exec_arrayRead (b := b) load reading queue writable
    rw [takeEntries_replaces (s := loadRunning l (s.popped q)) load (writable.congr rfl) entries ex h] at run
    exact exec_asksAfter run (List.append_assoc ..) rfl
  · have run := exec_turnLoadCheck load reading state
    have checked : checkTurnLoad l s = takeEntries l [] (loadRunning l s) := by
      rw [checkTurnLoad, if_pos ok, if_pos zero, markRunning_writable writable]
      rfl
    rw [checked, takeEntries_replaces (s := loadRunning l s) (es := []) load (writable.congr rfl) (by rw [zero]; rfl)
      ex h] at run
    exact exec_asksAfter run (List.append_assoc ..) rfl

/-! ## The steps -/

theorem turnLoad_taken (ready : Ready .turnLoad r s) : ∃ t, exec .turnLoad s = .next t
    ∧ Asks s t (takenAccesses .turnLoad r s)
    ∧ t = { s with bus := t.bus, link := takenLink .turnLoad r s,
                   turn := { s.turn with load := some { record := r, reading := false } } } :=
  exec_readyWaits (fun t => t.modTurn fun x => { x with load := some { record := r, reading := false } })
    (effect := fun r t => t.modTurn fun x => { x with load := some { record := r, reading := false } }) rfl ready rfl rfl

/-- Settles O42. -/
theorem turnLoadSteps : Obligations.TurnLoadSteps := by
  refine ⟨fun s r l => ⟨turnLoad_taken, fun load reading state ok count => ?_,
    fun load reading state presses bad writable => ?_,
    fun y z q load reading queue writable presses => ⟨?_, fun b i res fails => ?_⟩,
    fun c q es st x load writable how state ex h => turnLoad_replaces load writable how state ex h⟩,
    fun a n => ⟨fun es h => turnEntries_inl h, fun i res h => ?_⟩⟩
  · have run := exec_turnLoadCheck load reading state
    rw [checkTurnLoad, if_pos ok, if_neg count] at run
    exact (exec_asks run rfl rfl).imp fun t ⟨run, eq, asks⟩ => ⟨run, asks, eq⟩
  · have run := exec_turnLoadCheck load reading state
    rw [checkTurnLoad, if_neg (by simp [bad]), endTurnLoad_ends load writable presses] at run
    exact (exec_asks run rfl rfl).imp fun t ⟨run, eq, asks⟩ => ⟨run, asks, eq⟩
  · have run := exec_arrayFails load reading queue
    rw [endTurnLoad_ends (s := s.popped q) load (writable.congr rfl) presses] at run
    exact exec_asksAfter run rfl rfl
  · have run := exec_arrayRead (b := b) load reading queue writable
    rw [takeEntries_fails fails, endTurnLoad_ends (s := loadRunning l (s.popped q)) load (writable.congr rfl) presses]
      at run
    exact exec_asksAfter run (List.append_assoc ..) rfl
  · obtain ⟨-, less, fails, before⟩ := turnEntries_fails n 0 i res h
    exact ⟨by omega, fails, fun j upto => before j (Nat.zero_le j) upto⟩

end Sys2Proof.Machine
end

section
/-!
PROOFS. Starts of updates, and PANEL_UPDATE (06 R91, R94, R97 to R103, R116, R120).
-/

namespace Sys2Proof.Machine

open Sys2Proof

variable {c : Instr} {s t u v : State} {r : RecordCopy} {e : Entry} {l : Latch} {m em : Mode} {res : ResultCode}
  {n : Nat} {a : Word}

/-! ## The end of a step -/

theorem finishDescent_calm (calm : s.power.descentPending = false) : finishDescent s = s := by
  simp [finishDescent, calm]

/-- The end of a step whose starts lead to a state with no offer and no press. -/
theorem settleAll_started (calm : s.power.descentPending = false) (starts : evaluateStarts s = u)
    (turn : u.turn.state ≠ .offering) (presses : u.turn.queue = []) : settleAll s = u := by
  rw [settleAll, finishDescent_calm calm, settlePanel, starts, tryOffer_other turn, considerHead_noPress presses]

theorem startsMade_halted (h : s.panel.engine = .halted) : startsMade s = false := by
  simp [startsMade, h]

theorem startsMade_exhausted (h : s.power.cls = .exhausted) : startsMade s = false := by
  simp [startsMade, h, slotLimit]

theorem evaluateStarts_barred (h : startsMade s = false) : evaluateStarts s = s := by
  unfold evaluateStarts
  cases s.panel.pending.length with
  | zero => rfl
  | succ n => exact if_neg (by simp [h])

/-! ## The start of an only entry -/

/-- The panel engine once its only entry has started from OFF (06 R103). -/
def startedAlone (e : Entry) (l : Latch) (s : State) : State :=
  { s with panel := { s.panel with
    engine := .rising, risingTimer := true, pending := [], slots := [(0, startedSlot s.panel e l)], copyQueue := [0] } }

theorem freeSlot_none {p : Panel} (h : p.slots = []) : p.freeSlot = some 0 := by
  unfold Panel.freeSlot
  rw [h]
  rfl

theorem startEngine_off {p : Panel} (h : p.engine = .off) :
    p.startEngine = { p with engine := .rising, risingTimer := true } := by
  simp [Panel.startEngine, h]

/-- Nothing stands in the way of an entry's start from OFF (06 R101, R118). -/
structure StartsAlone (e : Entry) (s : State) : Prop where
  pending : s.panel.pending = [e]
  engine  : s.panel.engine = .off
  slots   : s.panel.slots = []
  stops   : s.panel.stops = []
  copies  : s.panel.copyQueue = []
  supply  : s.power.cls ≠ .exhausted

theorem StartsAlone.made (h : StartsAlone e s) : startsMade s = true := by
  have room : 0 < slotLimit s.power.cls := by
    have supply := h.supply
    cases cls : s.power.cls <;> simp_all [slotLimit]
  simp [startsMade, h.engine, h.slots, room]

theorem StartsAlone.found (h : StartsAlone e s) : findStart s.panel [] s.panel.pending = some e := by
  rw [h.pending]
  exact if_pos (by simp [Panel.stopHolds, h.stops, h.slots])

theorem evaluateStarts_alone (h : StartsAlone e s) (latched : latch (effective s.panel e).2.1 s = some l) :
    evaluateStarts s = requestRows (wmRequest .imageCopier (startedAlone e l s)) := by
  have one : evaluateStarts s = startEntry e s := by
    rw [evaluateStarts, h.pending]
    exact (if_pos h.made).trans (by rw [h.found]; rfl)
  rw [one, startEntry, latched, freeSlot_none h.slots]
  dsimp only [State.modPanel]
  rw [startEngine_off h.engine, h.pending, h.slots, h.copies]
  simp [startedAlone, sparsePut]

theorem requestRows_internal {f : Frame} {q : List Nat} {sl : Slot} (copies : s.panel.copyQueue = n :: q)
    (slot : sparseGet n s.panel.slots = some sl) (src : sl.src = .internal f) : requestRows s = s := by
  simp only [requestRows, copies, slot, src]

theorem requestRows_record {q : List Nat} {sl : Slot} (copies : s.panel.copyQueue = n :: q)
    (slot : sparseGet n s.panel.slots = some sl) (src : sl.src = .record a)
    (unasked : ∀ x, x ∈ s.bus.queue ++ s.bus.transfers → x.isRows n = false) :
    requestRows s = enqueue (.buffer (.imageRows n) sl.image.toNat sl.rowsLength) s := by
  simp only [requestRows, copies, slot, src]
  exact if_neg (by simpa [or_imp, forall_and] using unasked)

/-- An idle memory that the Image Copier alone asks grants it its burst (04 R68). -/
theorem wmRequest_copier (serves : s.wm.state = .active) (debt : s.wm.debt < 8) (free : s.wm.running = none)
    (alone : s.wm.waiting = []) :
    (wmRequest .imageCopier s).wm = { s.wm with running := some (.burst .imageCopier), rr := .imageCopier } := by
  have powered : ¬ s.wm.state = .unpowered := by rw [serves]; nofun
  have waits : s.wm.wait .imageCopier = { s.wm with waiting := [.imageCopier] } := by simp [WorkMem.wait, alone]
  have asked : (wmRequest .imageCopier s).wm = (s.wm.wait .imageCopier).decide := if_neg powered
  have next : ({ s.wm with waiting := [.imageCopier] } : WorkMem).nextClient = some .imageCopier := by
    cases h : s.wm.rr <;> simp [WorkMem.nextClient, h, roundRobinAfter]
  rw [asked, waits, WorkMem.decide_client (d := .imageCopier) (by exact WorkMem.serves_of (.inl serves)) (by exact free)
    (by exact debt) (by simp) next]
  simp [WorkMem.grant, alone]

theorem latch_inForce (active : s.wave.active = .a) (valid : s.wave.validA = true)
    (mode : setHasMode (s.wm.header .a) m = true) : latch m s = some
      { bank := .a, table := tableOffset (s.wm.header .a) m (s.wave.range.getD 0)
        frames := setFrames (s.wm.header .a) m (s.wave.range.getD 0), detail := latchWarnings s } := by
  have inForce : modeInForce m s = true := by simp [modeInForce, Wave.inForce, activeHeader, active, valid, mode, Wave.valid]
  rw [latch, if_pos inForce, activeHeader, active]

/-! ## The checks of a PANEL_UPDATE -/

theorem exec_panelUpdate (s : State) : exec .panelUpdate s = onRecord .panelUpdate takeUpdate s := rfl

theorem modeOfCode_unnamed (h : 3 < n) : modeOfCode n = none := by
  obtain ⟨k, rfl⟩ := Nat.exists_eq_add_of_lt h
  rw [show 3 + k + 1 = k + 4 by omega]
  rfl

theorem modeOfCode_named (h : n ≤ 3) : ∃ m, modeOfCode n = some m := by
  obtain rfl | rfl | rfl | rfl : n = 0 ∨ n = 1 ∨ n = 2 ∨ n = 3 := by omega
  all_goals exact ⟨_, rfl⟩

theorem flushInForce_iff : flushInForce s = true ↔ s.panel.flushed = true ∧ s.panel.engine = .halted
    ∧ (s.power.state = .dozeEntry ∨ s.power.state = .deepEntry) := by
  simp [flushInForce, and_assoc]

/-- The refusals of a PANEL_UPDATE in order (06 R98, R120). -/
def UpdateRefused (s : State) (b : List Byte) (res : ResultCode) : Prop :=
  (res = .badMode ∧ 3 < byteAt b 46)
    ∨ (byteAt b 46 ≤ 3 ∧ res = .noWaveform ∧ s.wave.validA = false ∧ s.wave.validB = false)
    ∨ ∃ m, modeOfCode (byteAt b 46) = some m ∧ (s.wave.validA = true ∨ s.wave.validB = true) ∧
        ((res = .badMode ∧ modeInForce m s = false)
          ∨ (modeInForce m s = true ∧
            ((res = .empty ∧ (rawRect b).isEmpty = true)
              ∨ ((rawRect b).isEmpty = false ∧
                ((res = .range ∧ half b 44 < (rawRect b).clip.w)
                  ∨ ((rawRect b).clip.w ≤ half b 44 ∧
                    ((res = .lowSupply ∧ s.power.forced = true)
                      ∨ (res = .panelHalted ∧ s.power.forced = false ∧ s.panel.engine = .halted
                          ∧ s.panel.flushed = true
                          ∧ (s.power.state = .dozeEntry ∨ s.power.state = .deepEntry)))))))))

theorem updateCheck_named {b : List Byte} (named : modeOfCode (byteAt b 46) = some m) : updateCheck b s =
    if !s.wave.validA && !s.wave.validB then .inr .noWaveform
    else if !modeInForce m s then .inr .badMode
    else if (rawRect b).isEmpty then .inr .empty
    else if half b 44 < (rawRect b).clip.w then .inr .range
    else if s.power.forced then .inr .lowSupply
    else if flushInForce s then .inr .panelHalted
    else .inl m := by
  simp only [updateCheck, named]

theorem updateCheck_refused {b : List Byte} (h : UpdateRefused s b res) : updateCheck b s = .inr res := by
  rcases h with ⟨rfl, unnamed⟩ | ⟨named, rfl, a, b⟩ | ⟨m, named, valid, h⟩
  · simp only [updateCheck, modeOfCode_unnamed unnamed]
  · obtain ⟨m, named⟩ := modeOfCode_named named
    rw [updateCheck_named named, if_pos (by simp [a, b])]
  · rw [updateCheck_named named, if_neg (by rcases valid with h | h <;> simp [h])]
    rcases h with ⟨rfl, absent⟩ | ⟨inForce, h⟩
    · rw [if_pos (by simp [absent])]
    · rw [if_neg (by simp [inForce])]
      rcases h with ⟨rfl, none⟩ | ⟨some, h⟩
      · rw [if_pos none]
      · rw [if_neg (by simp [some])]
        rcases h with ⟨rfl, short⟩ | ⟨wide, h⟩
        · rw [if_pos short]
        · rw [if_neg (Nat.not_lt.mpr wide)]
          rcases h with ⟨rfl, forced⟩ | ⟨rfl, calm, halted, flushed, state⟩
          · rw [if_pos forced]
          · rw [if_neg (by simp [calm]), if_pos (flushInForce_iff.mpr ⟨flushed, halted, state⟩)]

theorem updateCheck_passes {b : List Byte} (named : modeOfCode (byteAt b 46) = some m) (valid : s.wave.validA = true)
    (inForce : modeInForce m s = true) (filled : (rawRect b).isEmpty = false) (wide : (rawRect b).clip.w ≤ half b 44)
    (calm : s.power.forced = false) (flushed : flushInForce s = false) : updateCheck b s = .inl m := by
  rw [updateCheck_named named, if_neg (by simp [valid]), if_neg (by simp [inForce]), if_neg (by simp [filled]),
    if_neg (Nat.not_lt.mpr wide), if_neg (by simp [calm]), if_neg (by simp [flushed])]

theorem clipDetail_eq (b : List Byte) : clipDetail b = if (rawRect b).wasClipped then 1#32 else 0#32 := rfl

theorem update_refused (ready : Ready .panelUpdate r s) (h : UpdateRefused s r.bytes res) :
    ∃ t, exec .panelUpdate s = .next t ∧ t = { s with bus := t.bus, link := takenLink .panelUpdate r s }
      ∧ Asks s t (takenAccesses .panelUpdate r s
          ++ doneAccesses .display r.addr res (if (rawRect r.bytes).wasClipped then 1#32 else 0#32) 0) := by
  have checked : updateCheck r.bytes (accepted .panelUpdate r s) = .inr res := updateCheck_refused h
  have done : takeUpdate r (accepted .panelUpdate r s) =
      completeRecord .display r.addr res (clipDetail r.bytes) 0 (accepted .panelUpdate r s) := by
    simp only [takeUpdate, checked]
  exact (exec_readyDone id (exec_panelUpdate s) ready done rfl rfl).imp fun t ⟨run, asks, eq⟩ => ⟨run, eq, asks⟩

/-! ## An update that joins -/

/-- The state with an entry at the tail of the list, and no older one gone. -/
def joined (e : Entry) (s : State) : State :=
  { s with panel := { s.panel with pending := s.panel.pending ++ [e], nextId := e.id + 1 } }

theorem joinList_first (pending : s.panel.pending = []) : joinList e s = joined e s := by
  rw [joinList, removeEntries_empty _ _ pending]
  rfl

theorem update_passes (ready : Ready .panelUpdate r s) (named : modeOfCode (byteAt r.bytes 46) = some m)
    (active : s.wave.active = .a) (valid : s.wave.validA = true) (mode : setHasMode (s.wm.header .a) m = true)
    (filled : (rawRect r.bytes).isEmpty = false) (wide : (rawRect r.bytes).clip.w ≤ half r.bytes 44)
    (calm : s.power.forced = false) (flushed : flushInForce s = false) : exec .panelUpdate s =
      commit s (settleAll (joinList (entryOf r m s.panel.nextId) (accepted .panelUpdate r s))) := by
  have inForce : modeInForce m s = true := by
    simp [modeInForce, Wave.inForce, activeHeader, active, valid, mode, Wave.valid]
  have checked : updateCheck r.bytes (accepted .panelUpdate r s) = .inl m :=
    updateCheck_passes (s := accepted .panelUpdate r s) named valid inForce filled wide calm flushed
  rw [exec_readyAccepted (exec_panelUpdate s) ready]
  simp only [takeUpdate, checked]
  rfl

/-! ## An update that starts at once -/

/-- What an only entry starts with: its effective rectangle and mode, and whether it is promoted (06 R102). -/
def StartsWith (p : Panel) (c : Rect) (m : Mode) (eff : Rect) (em : Mode) (promoted : Bool) : Prop :=
  (p.known = false ∧ eff = { x := 0, y := 0, w := 1600, h := 1200 } ∧ em = .clear ∧ promoted = true)
    ∨ (p.known = true ∧ (∃ u, u ∈ p.uncertain ∧ c.intersects u = true) ∧ eff = c ∧ em = .clear ∧ promoted = true)
    ∨ (p.known = true ∧ (∀ u, u ∈ p.uncertain → c.intersects u = false) ∧ eff = c ∧ em = m ∧ promoted = false)

theorem effective_eq {p : Panel} {eff : Rect} {promoted : Bool} (h : StartsWith p e.rect e.mode eff em promoted) :
    effective p e = (eff, em, promoted) := by
  rcases h with ⟨known, rfl, rfl, rfl⟩ | ⟨known, ⟨u, mem, meets⟩, rfl, rfl, rfl⟩ | ⟨known, apart, rfl, rfl, rfl⟩
  · simp [effective, known, fullPanel]
  · have any : (p.uncertain.any fun u => e.rect.intersects u) = true := List.any_eq_true.mpr ⟨u, mem, meets⟩
    simp [effective, known, any]
  · have none : (p.uncertain.any fun u => e.rect.intersects u) = false := List.any_eq_false.mpr fun u mem => by
      simp [apart u mem]
    simp [effective, known, none]

theorem latchWarnings_eq (active : s.wave.active = .a) : latchWarnings s = match s.sense.shown.temperature with
    | none   => 8#32
    | some T => (if s.sense.shown.thermFault then 8#32 else 0#32)
        ||| (if T < setLower (s.wm.header .a) 0 ∨ setUpper (s.wm.header .a) < T then 4#32 else 0#32) := by
  unfold latchWarnings activeHeader
  rw [active]
  cases s.sense.shown.temperature with
  | none => rfl
  | some T => simp [warnIf, warnTempHeld, warnTempClamped]

theorem settleAll_alone (calm : s.power.descentPending = false) (idle : s.turn.state = .idle)
    (presses : s.turn.queue = []) (alone : StartsAlone e s) (latched : latch (effective s.panel e).2.1 s = some l) :
    settleAll s = requestRows (wmRequest .imageCopier (startedAlone e l s)) := by
  have same : (requestRows (wmRequest .imageCopier (startedAlone e l s))).turn = s.turn := by simp [startedAlone]
  refine settleAll_started calm (evaluateStarts_alone alone latched) ?_ ?_
  · rw [same, idle]
    nofun
  · rw [same, presses]

theorem startedAlone_asks {addr : Word} (src : e.src = .record addr)
    (unasked : ∀ x, x ∈ s.bus.queue ++ s.bus.transfers → x.isRows 0 = false) :
    requestRows (wmRequest .imageCopier (startedAlone e l s)) =
      enqueue (.buffer (.imageRows 0) e.image.toNat ((e.rect.h - 1) * e.stride + e.rect.w))
        (wmRequest .imageCopier (startedAlone e l s)) :=
  requestRows_record (sl := startedSlot s.panel e l) rfl rfl src unasked

theorem takenAccesses_rows (k : Kind) (r : RecordCopy) (s : State) :
    ∀ x, x ∈ takenAccesses k r s → x.isRows n = false := by
  simp [takenAccesses, BusAccess.isRows]

/-- A PANEL_UPDATE that passes its checks while nothing stands in its way starts at once (06 R101 to R103). -/
theorem update_starts {eff : Rect} {promoted : Bool} (row : exec .panelUpdate s =
      commit s (settleAll (joinList (entryOf r m s.panel.nextId) (accepted .panelUpdate r s))))
    (active : s.wave.active = .a) (valid : s.wave.validA = true) (supply : s.power.cls ≠ .exhausted) (quiet : Quiet s)
    (off : s.panel.engine = .off) (slots : s.panel.slots = []) (stops : s.panel.stops = [])
    (copies : s.panel.copyQueue = []) (unasked : ∀ a, a ∈ s.bus.queue ++ s.bus.transfers → a.isRows 0 = false)
    (starts : StartsWith s.panel (rawRect r.bytes).clip m eff em promoted)
    (mode : setHasMode (s.wm.header .a) em = true) : ∃ t l, exec .panelUpdate s = .next t
      ∧ Asks s t (takenAccesses .panelUpdate r s ++ [.buffer (.imageRows 0) (wordNat r.bytes 40)
          (((rawRect r.bytes).clip.h - 1) * half r.bytes 44 + (rawRect r.bytes).clip.w)])
      ∧ t = { s with
          bus := t.bus, link := takenLink .panelUpdate r s
          panel := { s.panel with
            nextId := s.panel.nextId + 1, engine := .rising, risingTimer := true, pending := []
            slots := [(0, startedSlot s.panel (entryOf r m s.panel.nextId) l)], copyQueue := [0] }
          wm := (wmRequest .imageCopier s).wm }
      ∧ l = { bank := .a, table := tableOffset (s.wm.header .a) em (s.wave.range.getD 0)
              frames := setFrames (s.wm.header .a) em (s.wave.range.getD 0), detail := latchWarnings s }
      ∧ effective s.panel (entryOf r m s.panel.nextId) = (eff, em, promoted) := by
  obtain ⟨pending, idle, presses, calm⟩ := quiet
  have eff := effective_eq (e := entryOf r m s.panel.nextId) starts
  let u := joined (entryOf r m s.panel.nextId) (accepted .panelUpdate r s)
  have effu : effective u.panel (entryOf r m s.panel.nextId) = (_, em, promoted) := eff
  have latched := latch_inForce (s := u) active valid mode
  have alone : StartsAlone (entryOf r m s.panel.nextId) u :=
    ⟨congrArg (· ++ [entryOf r m s.panel.nextId]) pending, off, slots, stops, copies, supply⟩
  rw [joinList_first (s := accepted .panelUpdate r s) pending,
    settleAll_alone (s := u) calm idle presses alone (by rw [effu]; exact latched), startedAlone_asks rfl (by
      intro x mem
      rcases List.mem_append.mp mem with queue | transfers
      · rcases List.mem_append.mp queue with old | new
        · exact unasked x (List.mem_append_left _ old)
        · exact takenAccesses_rows _ _ _ x new
      · exact unasked x (List.mem_append_right _ transfers))] at row
  obtain ⟨t, run, eq, asks⟩ := exec_asks row (List.append_assoc ..) rfl
  rw [show (entryOf r m s.panel.nextId).image.toNat = wordNat r.bytes 40 from word_toNat ..] at asks
  exact ⟨t, _, run, asks, eq, rfl, eff⟩

/-! ## An update that joins a list where nothing starts -/

/-- The acceptance of a record leaves the records that are under way writable. -/
theorem writable_taken {i : LaneId} (k : Kind) (r : RecordCopy) (h : Writable i a s) : Writable i a (accepted k r s) := by
  obtain ⟨e, opened, writable⟩ := Option.map_eq_some_iff.mp h
  have same : openEntry i a (accepted k r s) = some e := by
    unfold openEntry at opened ⊢
    change ((takenLink k r s).lane i).table.find? _ = some e
    by_cases own : i = k.lane
    · rw [own, takenLink, Link.lane_setLane_same, List.find?_append, ← own, opened]
      rfl
    · rw [takenLink, Link.lane_setLane_other _ own]
      exact opened
  rw [Writable, same, Option.map_some, writable]

/-- Entries of open records end with the port alone changed. -/
theorem endEntries_bus : ∀ (l : List Entry) (s : State),
    (∀ e, e ∈ l → ∃ a, e.src = .record a ∧ Writable .display a s) →
    endEntries res l s = { s with bus := (endEntries res l s).bus }
  | [], s, _ => rfl
  | e :: l, s, h => by
    obtain ⟨a, src, writable⟩ := h e List.mem_cons_self
    have ended : endEntry res e s =
        { s with bus := { s.bus with queue := s.bus.queue ++ doneAccesses .display a res e.detail 0 } } := by
      simp only [endEntry, src]
      exact completeRecord_writable writable res e.detail 0
    have rest := endEntries_bus l (endEntry res e s) fun d mem => by
      obtain ⟨b, src, writable⟩ := h d (List.mem_cons_of_mem _ mem)
      exact ⟨b, src, writable.congr (by rw [ended])⟩
    rw [ended] at rest
    rw [endEntries, ended]
    exact rest

theorem removeEntries_bus {p : Entry → Bool}
    (h : ∀ e, e ∈ s.panel.pending → p e = true → ∃ a, e.src = .record a ∧ Writable .display a s) :
    removeEntries res p s = { s with
      bus := (removeEntries res p s).bus
      panel := { s.panel with pending := s.panel.pending.filter fun e => !p e } } :=
  endEntries_bus (s.panel.pending.filter p) (s.modPanel fun q => { q with pending := q.pending.filter fun e => !p e })
    fun e mem => by
      obtain ⟨mem, removed⟩ := List.mem_filter.mp mem
      obtain ⟨a, src, writable⟩ := h e mem removed
      exact ⟨a, src, writable.congr rfl⟩

theorem joinList_bus (h : ∀ e', e' ∈ s.panel.pending → supersedes e e' = true →
      ∃ a, e'.src = .record a ∧ Writable .display a s) : joinList e s = { s with
      bus := (removeEntries .superseded (supersedes e) s).bus
      panel := { s.panel with
        pending := (s.panel.pending.filter fun x => !supersedes e x) ++ [e], nextId := e.id + 1 } } := by
  rw [joinList, removeEntries_bus h]
  rfl

/-- A PANEL_UPDATE that joins the list under Exhausted supersedes, and nothing starts (06 R100, R118). -/
theorem update_joins (row : exec .panelUpdate s =
      commit s (settleAll (joinList (entryOf r m s.panel.nextId) (accepted .panelUpdate r s))))
    (supply : s.power.cls = .exhausted) (idle : s.turn.state = .idle) (presses : s.turn.queue = [])
    (calm : s.power.descentPending = false)
    (open' : ∀ e, e ∈ s.panel.pending → ∃ a, e.src = .record a
      ∧ (e.maySupersede = true → e.rect.inside (rawRect r.bytes).clip = true → Writable .display a s)) :
    ∃ t, exec .panelUpdate s = .next t
      ∧ t = { s with bus := t.bus, link := takenLink .panelUpdate r s, panel := { s.panel with
            nextId := s.panel.nextId + 1,
            pending := (s.panel.pending.filter fun e => !(e.maySupersede && e.rect.inside (rawRect r.bytes).clip)) ++
              [entryOf r m s.panel.nextId] } }
      ∧ ∀ e a, e ∈ s.panel.pending → e.src = .record a → e.maySupersede = true →
          e.rect.inside (rawRect r.bytes).clip = true → Completing t .display a .superseded e.detail 0 := by
  have opened : ∀ e, e ∈ s.panel.pending → supersedes (entryOf r m s.panel.nextId) e = true →
      ∃ a, e.src = .record a ∧ Writable .display a (accepted .panelUpdate r s) := by
    intro e mem gone
    obtain ⟨may, inside⟩ := Bool.and_eq_true_iff.mp gone
    obtain ⟨a, src, writable⟩ := open' e mem
    exact ⟨a, src, writable_taken _ _ (writable may inside)⟩
  have joins := joinList_bus (s := accepted .panelUpdate r s) opened
  have settled : settleAll (joinList (entryOf r m s.panel.nextId) (accepted .panelUpdate r s)) =
      joinList (entryOf r m s.panel.nextId) (accepted .panelUpdate r s) := by
    refine settleAll_started ?_ (evaluateStarts_barred (startsMade_exhausted ?_)) ?_ ?_ <;> rw [joins]
    · exact calm
    · exact supply
    · change s.turn.state ≠ .offering
      rw [idle]
      nofun
    · exact presses
  rw [settled] at row
  refine ⟨_, row, ?_, fun e a mem src may inside => completing_settled s ?_⟩
  · rw [settlePort_eq, joins]
    rfl
  · obtain ⟨b, src', writable⟩ := opened e mem (Bool.and_eq_true_iff.mpr ⟨may, inside⟩)
    obtain rfl : a = b := Source.record.inj (src.symm.trans src')
    rw [joins]
    exact removeEntries_waits (s := accepted .panelUpdate r s) mem (Bool.and_eq_true_iff.mpr ⟨may, inside⟩) src writable

/-- Settles O34. -/
theorem panelUpdateOutcome : Obligations.PanelUpdateOutcome := by
  refine ⟨fun s r ready res refused => update_refused ready refused, ?_⟩
  rintro s r m c ready named rfl active valid mode filled wide calm
  refine ⟨fun eff em promoted supply quiet off slots stops copies unasked starts inForce => ?_,
    fun supply run idle presses descent open' => ?_⟩
  · have row := update_passes ready named active valid mode filled wide calm
      (Bool.eq_false_iff.mpr fun h => by simp [flushInForce_iff, off] at h)
    obtain ⟨t, l, run, asks, eq, rfl, effective⟩ := update_starts row active valid supply quiet off slots stops copies
      unasked starts inForce
    have panel := congrArg State.panel eq
    have wm := congrArg State.wm eq
    dsimp only at panel wm
    refine ⟨t, run, asks, eq.trans ?_, ?_⟩
    · rw [panel, wm]
    · rw [panel]
      refine ⟨rfl, rfl, rfl, rfl, rfl, rfl, fun serves debt free alone => ?_, _, rfl, rfl, rfl, ?_⟩
      · rw [wm, wmRequest_copier serves debt free alone]
      · unfold startedSlot
        rw [effective]
        exact ⟨rfl, rfl, rfl, rfl, rfl, rfl, rfl, rfl, rfl, rfl, rfl, congrArg (_ ||| ·) (latchWarnings_eq active)⟩
  · have row := update_passes ready named active valid mode filled wide calm
      (Bool.eq_false_iff.mpr fun h => by simp [flushInForce_iff, run] at h)
    obtain ⟨t, run, eq, completes⟩ := update_joins row supply idle presses descent open'
    refine ⟨t, run, eq, fun e a mem src may left right top bottom => completes e a mem src may ?_⟩
    simp [Rect.inside, left, right, top, bottom]

end Sys2Proof.Machine
end

section
/-!
PROOFS. The end of a local turn's decode and the offer of its update (07 R139, R140).
-/

namespace Sys2Proof.Machine

open Sys2Proof

variable {c : Instr} {s t u v : State} {code : List Byte} {n pixels : Nat} {full : Bool}

/-! ## Decoding (07, section 7.6.1) -/

theorem runsLevels_length : ∀ l : List (BitVec 4 × Nat), (runsLevels l).length = runsLength l
  | [] => rfl
  | r :: l => by simp [runsLevels, runsLength, runsLevels_length l]

theorem runsLevels_flat : ∀ l : List (BitVec 4 × Nat), runsLevels l = l.flatMap fun r => List.replicate r.2 r.1
  | [] => rfl
  | r :: l => by simp [runsLevels, runsLevels_flat l]

theorem runsWithin_length : ∀ (n : Nat) (l : List (BitVec 4 × Nat)), runsLength (runsWithin n l) ≤ n
  | _, [] => Nat.zero_le _
  | n, r :: l => by
    unfold runsWithin
    split
    · next fits =>
      have rest := runsWithin_length (n - r.2) l
      simp only [runsLength]
      omega
    · exact Nat.zero_le _

/-- Runs that fill the frame exactly are all written. -/
theorem runsWithin_exact : ∀ (n : Nat) (l : List (BitVec 4 × Nat)), runsLength l = n → runsWithin n l = l
  | _, [], _ => rfl
  | n, r :: l, h => by
    simp only [runsLength] at h
    rw [runsWithin, if_pos (by omega), runsWithin_exact (n - r.2) l (by omega)]

theorem decodeRuns_bounded (code : List Byte) : ∀ r, r ∈ decodeRuns code → 1 ≤ r.2 ∧ r.2 ≤ 271 := by
  induction code using decodeRuns.induct with
  | case1 => simp [decodeRuns]
  | case2 c extended => simp [decodeRuns, extended]
  | case3 c extended n more ih =>
    intro r mem
    rw [decodeRuns.eq_def] at mem
    dsimp only at mem
    rw [if_pos extended] at mem
    rcases List.mem_cons.mp mem with rfl | later
    · have := n.isLt
      dsimp only
      omega
    · exact ih r later
  | case4 c rest plain ih =>
    intro r mem
    rw [decodeRuns.eq_def] at mem
    dsimp only at mem
    rw [if_neg plain] at mem
    rcases List.mem_cons.mp mem with rfl | later
    · dsimp only
      omega
    · exact ih r later

theorem decodes (pixels : Nat) (code : List Byte) : (decodeLevels pixels code).length ≤ pixels
    ∧ (decodeOk pixels code = true → (decodeLevels pixels code).length = pixels
        ∧ decodeLevels pixels code = (decodeRuns code).flatMap fun r => List.replicate r.2 r.1)
    ∧ ∀ r, r ∈ decodeRuns code → 1 ≤ r.2 ∧ r.2 ≤ 271 := by
  refine ⟨?_, fun ok => ?_, decodeRuns_bounded code⟩
  · rw [decodeLevels, runsLevels_length]
    exact runsWithin_length _ _
  · obtain ⟨-, exact'⟩ := Bool.and_eq_true_iff.mp ok
    have exact' := beq_iff_eq.mp exact'
    rw [decodeLevels, runsWithin_exact _ _ exact']
    exact ⟨(runsLevels_length _).trans exact', runsLevels_flat _⟩

/-! ## The frame -/

theorem SameContents.frame {w w' : WorkMem} (h : SameContents w w') (f : Frame) : w'.frame f = w.frame f := by
  cases f
  · exact h.frameA
  · exact h.frameB

/-- The state once a decode has written its frame (07 R139). -/
def decoded (s : State) : State := wmDrop .decoder (writeDecoded s)

theorem decoded_frame (s : State) : (decoded s).wm.frame s.turn.frame =
    decodeLevels 1920000 (imageCode s.wm.decode)
      ++ (s.wm.frame s.turn.frame).drop (decodeLevels 1920000 (imageCode s.wm.decode)).length :=
  (WorkMem.frame_writeFrame ..).trans (if_pos rfl)

theorem exec_decodeOk (decoding : s.turn.state = .decoding) (serves : s.wm.serves = true)
    (ok : decodeOk 1920000 (imageCode s.wm.decode) = true) :
    exec .decodeEnd s = commit s (settleAll (beginOffer (decoded s))) := by
  have ok' : decodeOk Config.panelPixels (imageCode s.wm.decode) = true := ok
  simp only [exec, execDecodeEnd, decoding, serves, ok', and_self, if_true]
  rfl

theorem exec_decodeFails (decoding : s.turn.state = .decoding) (serves : s.wm.serves = true)
    (fails : decodeOk 1920000 (imageCode s.wm.decode) = false) :
    exec .decodeEnd s = commit s (settleAll (failTurn (decoded s))) := by
  have fails' : decodeOk Config.panelPixels (imageCode s.wm.decode) = false := fails
  simp only [exec, execDecodeEnd, decoding, serves, fails', and_self, if_true]
  rfl

/-! ## The offer -/

theorem isFull_eq (h : full = true ↔ 0 < s.turn.interval ∧ (s.turn.owed = true ∨ s.turn.counter + 1 = s.turn.interval)) :
    s.turn.isFull = full := by
  rw [Bool.eq_iff_iff, h]
  simp [Turn.isFull]

/-- The state with the update of a decoded turn on offer (07 R140). -/
def offering (full : Bool) (s : State) : State :=
  { decoded s with turn := { s.turn with state := .offering, offerFull := full } }

theorem beginOffer_decoded (h : s.turn.isFull = full) : beginOffer (decoded s) = offering full s := by
  rw [← h]
  rfl

theorem tryOffer_waits (state : s.turn.state = .offering) (calm : s.power.forced = false)
    (flushed : flushInForce s = false) (list : 16 ≤ s.panel.pending.length) : tryOffer s = s := by
  unfold tryOffer
  rw [if_neg (by simp [state]), if_neg (by simp [calm, flushed])]
  exact if_pos list

theorem tryOffer_joins (state : s.turn.state = .offering) (calm : s.power.forced = false)
    (flushed : flushInForce s = false) (list : s.panel.pending = []) : tryOffer s =
      evaluateStarts (joined (offeredEntry s) { s with turn := s.turn.accepted s.panel.nextId }) := by
  unfold tryOffer
  rw [if_neg (by simp [state]), if_neg (by simp [calm, flushed]), if_neg (by simp [list, Config.pendingCapacity])]
  exact congrArg evaluateStarts (joinList_first (s := { s with turn := s.turn.accepted s.panel.nextId }) list)

theorem Turn.accepted_eq (x : Turn) (id : Nat) : x.accepted id = { x.setFrame x.frame .held with
    state := .idle, cursor := x.target
    counter := if x.offerFull then 0 else if 0 < x.interval then x.counter + 1 else x.counter
    owed := if x.offerFull then false else x.owed
    latestFull := if x.offerFull then some id else x.latestFull } := by
  unfold Turn.accepted
  by_cases full : x.offerFull = true
  · simp only [full, if_true]
  · by_cases counts : 0 < x.interval
    · simp only [full, counts, if_true, Bool.false_eq_true, if_false]
      cases x.frame <;> rfl
    · simp only [full, counts, Bool.false_eq_true, if_false]
      cases x.frame <;> rfl

/-- The end of a step whose offer is accepted. -/
theorem settleAll_offered (calm : s.power.descentPending = false) (starts : evaluateStarts s = s)
    (offers : tryOffer s = u) (presses : u.turn.queue = []) : settleAll s = u := by
  rw [settleAll, finishDescent_calm calm, settlePanel, starts, offers, considerHead_noPress presses]

/-- The turn once its update has joined the list (07 R140). -/
def offerAccepted (full : Bool) (id : Nat) (x : Turn) : Turn :=
  { x.setFrame x.frame .held with
    state := .idle, cursor := x.target, offerFull := full
    counter := if full then 0 else if 0 < x.interval then x.counter + 1 else x.counter
    owed := if full then false else x.owed
    latestFull := if full then some id else x.latestFull }

/-- The state once the update of a turn has joined an empty list (07 R140). -/
def updateJoined (full : Bool) (s : State) : State :=
  joined (offeredEntry (offering full s))
    { offering full s with turn := offerAccepted full s.panel.nextId s.turn }

theorem accepted_offering (full : Bool) (s : State) :
    (offering full s).turn.accepted s.panel.nextId = offerAccepted full s.panel.nextId s.turn := by
  rw [Turn.accepted_eq]
  unfold offerAccepted offering
  cases h : s.turn.frame <;> rfl

theorem offering_joins (run : s.power.state = .run) (calm : s.power.forced = false) (list : s.panel.pending = []) :
    tryOffer (offering full s) = evaluateStarts (updateJoined full s) := by
  have quiet : flushInForce (offering full s) = false :=
    Bool.eq_false_iff.mpr fun h => by
      obtain ⟨-, -, state⟩ := flushInForce_iff.mp h
      have same : (offering full s).power.state = .run := run
      rw [same] at state
      rcases state with h | h <;> nomatch h
  rw [tryOffer_joins (s := offering full s) rfl calm quiet list, updateJoined, ← accepted_offering]
  rfl

/-- A decode that succeeds ends its turn while the engine is HALTED: its update waits in the list (07 R140). -/
theorem decode_joins (decoding : s.turn.state = .decoding) (serves : s.wm.serves = true)
    (ok : decodeOk 1920000 (imageCode s.wm.decode) = true) (run : s.power.state = .run) (calm : s.power.forced = false)
    (descent : s.power.descentPending = false) (presses : s.turn.queue = []) (isFull : s.turn.isFull = full)
    (list : s.panel.pending = []) (halted : s.panel.engine = .halted) :
    exec .decodeEnd s = commit s (updateJoined full s) := by
  have joins := offering_joins (full := full) run calm list
  rw [evaluateStarts_barred (s := updateJoined full s) (startsMade_halted halted)] at joins
  rw [exec_decodeOk decoding serves ok, beginOffer_decoded isFull, settleAll_offered (s := offering full s) descent
    (evaluateStarts_empty list) joins]
  unfold updateJoined joined offerAccepted
  cases s.turn.frame <;> exact presses

theorem decode_fails (decoding : s.turn.state = .decoding) (serves : s.wm.serves = true)
    (fails : decodeOk 1920000 (imageCode s.wm.decode) = false) (run : s.power.state = .run)
    (descent : s.power.descentPending = false) (list : s.panel.pending = []) :
    exec .decodeEnd s = commit s (failedState (decoded s)) := by
  have awake : ¬ InDoze (decoded s) := by
    rintro (h | h | h) <;> exact absurd (run.symm.trans h) nofun
  rw [exec_decodeFails decoding serves fails, settleAll_failTurn (s := decoded s) list descent, failTurn_awake awake]

/-- A decode that succeeds while the list is full keeps its offer (07 R140). -/
theorem decode_waits (decoding : s.turn.state = .decoding) (serves : s.wm.serves = true)
    (ok : decodeOk 1920000 (imageCode s.wm.decode) = true) (run : s.power.state = .run) (calm : s.power.forced = false)
    (descent : s.power.descentPending = false) (presses : s.turn.queue = []) (isFull : s.turn.isFull = full)
    (list : 16 ≤ s.panel.pending.length) (halted : s.panel.engine = .halted) :
    exec .decodeEnd s = commit s (offering full s) := by
  have quiet : flushInForce (offering full s) = false :=
    Bool.eq_false_iff.mpr fun h => by
      obtain ⟨-, -, state⟩ := flushInForce_iff.mp h
      have same : (offering full s).power.state = .run := run
      rw [same] at state
      rcases state with h | h <;> nomatch h
  rw [exec_decodeOk decoding serves ok, beginOffer_decoded isFull, settleAll_offered (s := offering full s) descent
    (evaluateStarts_barred (startsMade_halted halted)) (tryOffer_waits rfl calm quiet list) presses]

/-! ## An offer that starts at once -/

/-- The slot that the update of a turn takes at once (06 R103). -/
def offeredSlot (full : Bool) (l : Latch) (s : State) : Slot :=
  startedSlot s.panel (offeredEntry (offering full s)) l

theorem decode_starts (decoding : s.turn.state = .decoding) (serves : s.wm.serves = true)
    (ok : decodeOk 1920000 (imageCode s.wm.decode) = true) (run : s.power.state = .run) (calm : s.power.forced = false)
    (descent : s.power.descentPending = false) (presses : s.turn.queue = []) (isFull : s.turn.isFull = full)
    (list : s.panel.pending = []) (off : s.panel.engine = .off) (slots : s.panel.slots = []) (stops : s.panel.stops = [])
    (copies : s.panel.copyQueue = []) (known : s.panel.known = true) (certain : s.panel.uncertain = [])
    (supply : s.power.cls ≠ .exhausted) (active : s.wave.active = .a) (valid : s.wave.validA = true)
    (mode : setHasMode (s.wm.header .a) s.turn.mode = true) : ∃ l,
    exec .decodeEnd s = commit s (wmRequest .imageCopier
        (startedAlone (offeredEntry (offering full s)) l (updateJoined full s)))
      ∧ effective s.panel (offeredEntry (offering full s)) =
        ({ x := 0, y := 0, w := 1600, h := 1200 }, s.turn.mode, false) := by
  have effective : effective s.panel (offeredEntry (offering full s)) =
      ({ x := 0, y := 0, w := 1600, h := 1200 }, s.turn.mode, false) := by
    refine effective_eq (.inr (.inr ⟨known, ?_, rfl, rfl, rfl⟩))
    rw [certain]
    nofun
  have header : (updateJoined full s).wm.header .a = s.wm.header .a := by
    unfold WorkMem.header WorkMem.bankByte
    have banks : ((updateJoined full s).wm.bank .a) = s.wm.bank .a ∧ (updateJoined full s).wm.epoch = s.wm.epoch := by
      change (s.wm.writeFrame s.turn.frame _).bankA = s.wm.bankA ∧ (s.wm.writeFrame s.turn.frame _).epoch = s.wm.epoch
      cases s.turn.frame <;> exact ⟨rfl, rfl⟩
    rw [banks.1, banks.2]
  have alone : StartsAlone (offeredEntry (offering full s)) (updateJoined full s) :=
    ⟨congrArg (· ++ [offeredEntry (offering full s)]) list, off, slots, stops, copies, supply⟩
  obtain ⟨l, latched⟩ : ∃ l, latch s.turn.mode (updateJoined full s) = some l :=
    ⟨_, latch_inForce active valid (by rw [header]; exact mode)⟩
  have effective' : (Machine.effective (updateJoined full s).panel (offeredEntry (offering full s))).2.1 = s.turn.mode :=
    congrArg (·.2.1) effective
  refine ⟨l, ?_, effective⟩
  have joins := offering_joins (full := full) run calm list
  rw [evaluateStarts_alone alone (by rw [effective']; exact latched),
    requestRows_internal (f := s.turn.frame) rfl rfl rfl] at joins
  rw [exec_decodeOk decoding serves ok, beginOffer_decoded isFull, settleAll_offered (s := offering full s) descent
    (evaluateStarts_empty list) joins]
  unfold updateJoined joined offerAccepted startedAlone
  cases s.turn.frame <;> exact presses

/-! ## The statement -/

theorem decode_halted (decoding : s.turn.state = .decoding) (serves : s.wm.serves = true) (run : s.power.state = .run)
    (calm : s.power.forced = false) (descent : s.power.descentPending = false) (presses : s.turn.queue = [])
    (isFull : s.turn.isFull = full) (same : code = imageCode s.wm.decode) (list : s.panel.pending = [])
    (halted : s.panel.engine = .halted) : ∃ t, exec .decodeEnd s = .next t
      ∧ t.turn.state = .idle
      ∧ t.wm.frame s.turn.frame = decodeLevels 1920000 code
          ++ (s.wm.frame s.turn.frame).drop (decodeLevels 1920000 code).length
      ∧ (decodeOk 1920000 code = true →
          t.turn = offerAccepted full s.panel.nextId s.turn
          ∧ t.regs = s.regs
          ∧ ∃ e, t.panel.pending = [e] ∧ e.src = .internal s.turn.frame ∧ e.id = s.panel.nextId
              ∧ e.rect = { x := 0, y := 0, w := 1600, h := 1200 } ∧ e.mode = s.turn.mode ∧ e.maySupersede = true
              ∧ e.changedOnly = !full)
      ∧ (decodeOk 1920000 code = false →
          t.turn.cursor = s.turn.cursor ∧ t.turn.frameState s.turn.frame = .free ∧ t.panel.pending = []
          ∧ t.regs.cause = s.regs.cause ||| causeBit turnErrorCause) := by
  subst same
  cases ok : decodeOk 1920000 (imageCode s.wm.decode) with
  | true =>
    have joins := decode_joins decoding serves ok run calm descent presses isFull list halted
    refine ⟨_, joins, ?_⟩
    rw [settlePort_eq]
    refine ⟨rfl, decoded_frame s, fun _ => ⟨rfl, rfl, offeredEntry (offering full s), ?_, rfl, rfl, rfl, rfl, rfl, rfl⟩,
      nofun⟩
    exact congrArg (· ++ [offeredEntry (offering full s)]) list
  | false =>
    obtain ⟨cursor, frame⟩ := turnFailed_kept s.turn
    refine ⟨_, decode_fails decoding serves ok run descent list, ?_⟩
    rw [settlePort_eq]
    exact ⟨rfl, decoded_frame s, nofun, fun _ => ⟨cursor, frame, list, rfl⟩⟩

/-- Settles O45. -/
theorem decodeEndsTheTurn : Obligations.DecodeEndsTheTurn := by
  refine ⟨fun s full code decoding active run calm descent presses isFull same => ?_, decodes⟩
  have serves := WorkMem.serves_of active
  have isFull := isFull_eq isFull
  refine ⟨fun list halted => ?_, fun ok list off slots stops copies known certain supply bank valid mode => ?_,
    fun ok list halted => ?_⟩
  · exact decode_halted decoding serves run calm descent presses isFull same list halted
  · subst same
    obtain ⟨l, starts, effective⟩ := decode_starts decoding serves ok run calm descent presses isFull list off slots
      stops copies known certain supply bank valid mode
    obtain ⟨t, run, eq, asks⟩ := exec_asksNothing starts rfl
    refine ⟨t, run, asks, ?_⟩
    have frame : (offerAccepted full s.panel.nextId s.turn).frameState s.turn.frame = .held := by
      unfold offerAccepted
      cases s.turn.frame <;> rfl
    have levels := (wmRequest_contents .imageCopier
      (startedAlone (offeredEntry (offering full s)) l (updateJoined full s))).frame s.turn.frame
    rw [eq]
    refine ⟨rfl, rfl, frame, rfl, levels.trans (decoded_frame s), rfl, rfl, rfl, rfl, _, rfl, rfl, rfl, rfl, rfl, ?_⟩
    have effective' : Machine.effective (updateJoined full s).panel (offeredEntry (offering full s)) =
        ({ x := 0, y := 0, w := 1600, h := 1200 }, s.turn.mode, false) := effective
    unfold startedSlot
    rw [effective']
    exact ⟨rfl, rfl, rfl, Bool.and_true _⟩
  · subst same
    obtain ⟨t, run, eq, asks⟩ := exec_asksNothing
      (decode_waits decoding serves ok run calm descent presses isFull list halted) rfl
    exact ⟨t, run, asks, eq.trans (by rw [eq]; rfl)⟩

end Sys2Proof.Machine
end

section
/-!
PROOFS. The end of an image copy (06 R97, R104, R105, R107).
-/

namespace Sys2Proof.Machine

open Sys2Proof

variable {c : Instr} {s t u v : State} {n k p : Nat} {q : List Nat} {sl : Slot} {image : List Byte}
  {more l : List BusAccess} {a : Word} {f : Frame} {w w' w'' : WorkMem} {r : Rect}

/-! ## The pixels of a rectangle -/

theorem Rect.hasPixel_iff : r.hasPixel p = true ↔
    r.x ≤ p % 1600 ∧ p % 1600 < r.x + r.w ∧ r.y ≤ p / 1600 ∧ p / 1600 < r.y + r.h := by
  simp [Rect.hasPixel, and_assoc]

theorem Rect.mem_pixels (h : r.onPanel) : p ∈ r.pixels ↔ r.hasPixel p = true := by
  obtain ⟨width, -⟩ := h
  rw [Rect.hasPixel_iff, Rect.pixels]
  constructor
  · intro mem
    obtain ⟨row, hrow, mem⟩ := List.mem_flatMap.mp mem
    obtain ⟨col, hcol, rfl⟩ := List.mem_map.mp mem
    have hrow := List.mem_range.mp hrow
    have hcol := List.mem_range.mp hcol
    omega
  · rintro ⟨left, right, top, bottom⟩
    refine List.mem_flatMap.mpr ⟨p / 1600 - r.y, List.mem_range.mpr (by omega), List.mem_map.mpr
      ⟨p % 1600 - r.x, List.mem_range.mpr (by omega), by omega⟩⟩

theorem sparseGet_run {τ : Type} (g : Nat → τ) : ∀ l : List Nat,
    sparseGet p (l.map fun p => (p, g p)) = if p ∈ l then some (g p) else none
  | [] => rfl
  | x :: l => by
    simp only [List.map_cons, sparseGet, List.mem_cons]
    by_cases here : x = p
    · rw [if_pos here, if_pos (.inl here.symm), here]
    · rw [if_neg here, sparseGet_run g l]
      simp [Ne.symm here]

/-- What a pass over the pixels of a rectangle leaves of panel state. -/
theorem entry_written {τ : Type} (g : Nat → τ → Option PanelEntry → PanelEntry) (x : Nat → τ) (onPanel : r.onPanel)
    (wf : sparseWf w.panel = true) (h : w'.panel = sparseWrite g (r.pixels.map fun p => (p, x p)) w.panel)
    (epoch : w'.epoch = w.epoch) :
    w'.entry p = if r.hasPixel p then g p (x p) (sparseGet p w.panel) else w.entry p := by
  unfold WorkMem.entry
  rw [h, epoch, sparseWrite, sparseGet_weave _ p _ (pixelRun_wf onPanel x) wf (Nat.le_refl _), sparseGet_run]
  by_cases inside : r.hasPixel p = true
  · rw [if_pos ((Rect.mem_pixels onPanel).mpr inside), if_pos inside]
    rfl
  · rw [if_neg (by rwa [Rect.mem_pixels onPanel]), if_neg inside]

/-! ## What requests make of working memory -/

/-- Working memory but for its requests and what the arbiter made of them. -/
def WmRequested (w w' : WorkMem) : Prop :=
  w' = { w with waiting := w'.waiting, running := w'.running, rr := w'.rr, debt := w'.debt }

theorem WmRequested.refl (w : WorkMem) : WmRequested w w := rfl

theorem WmRequested.trans (h : WmRequested w w') (k : WmRequested w' w'') : WmRequested w w'' := by
  unfold WmRequested at *
  rw [k, h]

theorem WorkMem.decide_requested (w : WorkMem) : WmRequested w w.decide := by
  unfold WorkMem.decide
  repeat' split
  all_goals rfl

theorem WorkMem.wait_requested (w : WorkMem) (x : WmClient) : WmRequested w (w.wait x) := by
  unfold WorkMem.wait
  split
  all_goals rfl

theorem wmRequest_requested (x : WmClient) (s : State) : WmRequested s.wm (wmRequest x s).wm := by
  have asked : (wmRequest x s).wm = if s.wm.state = .unpowered then s.wm else (s.wm.wait x).decide := rfl
  rw [asked]
  split
  · exact .refl _
  · exact (s.wm.wait_requested x).trans (WorkMem.decide_requested _)

theorem wmDrop_requested (x : WmClient) (s : State) : WmRequested s.wm (wmDrop x s).wm := rfl

/-! ## The Image Copier goes on -/

theorem requestRows_eq (s : State) : requestRows s = { s with bus := (requestRows s).bus } := by
  unfold requestRows
  repeat' split
  all_goals rfl

theorem copyOn_eq (s : State) : copyOn s = { s with bus := (copyOn s).bus, wm := (copyOn s).wm } := by
  unfold copyOn
  split
  · rfl
  · rw [requestRows_eq]
    rfl

theorem copyOn_requested (s : State) : WmRequested s.wm (copyOn s).wm := by
  unfold copyOn
  split
  · exact wmDrop_requested _ s
  · rw [requestRows_eq]
    exact wmRequest_requested _ s

/-- What the Image Copier asks the port for as it goes on to the next slot of its queue (06 R104). -/
def CopyAsks (s : State) (q : List Nat) (more : List BusAccess) : Prop :=
  (q = [] ∧ more = []) ∨ ∃ k l sk b, q = k :: l ∧ sparseGet k s.panel.slots = some sk ∧ sk.src = .record b
    ∧ (∀ a, a ∈ s.bus.queue ++ s.bus.transfers → a.isRows k = false)
    ∧ more = [.buffer (.imageRows k) sk.image.toNat ((sk.rect.h - 1) * sk.stride + sk.rect.w)]

theorem copyOn_asks (h : CopyAsks s s.panel.copyQueue more) :
    (copyOn s).bus = { s.bus with queue := s.bus.queue ++ more } := by
  unfold copyOn
  rcases h with ⟨empty, rfl⟩ | ⟨k, l, sk, b, queue, slot, src, unasked, rfl⟩
  · rw [if_pos (by simp [empty]), List.append_nil]
    rfl
  · rw [if_neg (by simp [queue]), requestRows_record (s := wmRequest .imageCopier s) queue slot src unasked]
    rfl

/-! ## The end of a copy -/

/-- The panel engine once the copy of a slot has ended (06 R105). -/
def slotReady (n : Nat) (q : List Nat) (p : Panel) : Panel :=
  { p with
    slots := sparseMap (fun m sl => if m = n then { sl with state := .ready } else sl) p.slots, copyQueue := q }

theorem sparseGet_slotReady (n : Nat) (q : List Nat) (p : Panel) (m : Nat) :
    sparseGet m (slotReady n q p).slots =
      (sparseGet m p.slots).map fun sl => if m = n then { sl with state := .ready } else sl :=
  sparseGet_map _ m p.slots

theorem CopyAsks.ready (h : CopyAsks s q more) (n : Nat) (panel : u.panel = slotReady n q s.panel)
    (old : ∀ k a, a ∈ u.bus.queue ++ u.bus.transfers → a ∈ s.bus.queue ++ s.bus.transfers ∨ a.isRows k = false) :
    CopyAsks u u.panel.copyQueue more := by
  rw [panel]
  rcases h with ⟨empty, rfl⟩ | ⟨k, l, sk, b, queue, slot, src, unasked, rfl⟩
  · exact .inl ⟨empty, rfl⟩
  · refine .inr ⟨k, l, if k = n then { sk with state := .ready } else sk, b, queue, ?_, ?_, fun a mem => ?_, ?_⟩
    · rw [panel, sparseGet_slotReady, slot]
      rfl
    · split
      · exact src
      · exact src
    · exact (old k a mem).elim (unasked a) id
    · split <;> rfl

/-- Working memory once a slot's targets are copied (06 R104). -/
def targetsCopied (n : Nat) (sl : Slot) (image : List Byte) (s : State) : WorkMem := (copyTargets n sl image s).wm

theorem targetsCopied_entry (n : Nat) (image : List Byte) (wf : sparseWf s.wm.panel = true) (onPanel : sl.eff.onPanel) :
    (targetsCopied n sl image s).entry p = if sl.eff.hasPixel p then
        copiedEntry s.wm n sl p (targetLevel s.wm sl image.toArray (sourceFrame s.wm sl) p) (sparseGet p s.wm.panel)
      else s.wm.entry p :=
  entry_written (copiedEntry s.wm n sl) (targetLevel s.wm sl image.toArray (sourceFrame s.wm sl)) onPanel wf rfl rfl

theorem copiedEntry_eq (w : WorkMem) (n : Nat) (sl : Slot) (p : Nat) (x : BitVec 4) :
    copiedEntry w n sl p x (sparseGet p w.panel) =
      if sl.changedOnly = true ∧ (w.entry p).current = x then w.entry p
      else { current := (w.entry p).current, target := x, slot := BitVec.ofNat 3 n, active := true } := by
  unfold copiedEntry WorkMem.entry
  dsimp only
  by_cases same : sl.changedOnly = true ∧ ((sparseGet p w.panel).getD (undefinedEntry w.epoch p)).current = x
  · rw [if_pos (by simpa using same), if_pos same]
  · rw [if_neg (by simpa using same), if_neg same]

theorem targetLevel_record (src : sl.src = .record a) : targetLevel w sl image.toArray (sourceFrame w sl) p =
    BitVec.ofNat 4 (quantise sl.mode (if sl.rect.hasPixel p then
      (image.getD ((p / 1600 - sl.rect.y) * sl.stride + (p % 1600 - sl.rect.x)) 0#8).toNat / 16 else 15)) := by
  simp [targetLevel, imageLevel, src]

theorem targetLevel_internal (src : sl.src = .internal f) : targetLevel w sl image.toArray (sourceFrame w sl) p =
    BitVec.ofNat 4 (quantise sl.mode (if sl.rect.hasPixel p then (w.frameLevel f p).toNat else 15)) := by
  simp [targetLevel, imageLevel, src, sourceFrame, WorkMem.frameLevel]

theorem quantise_levels (l : Nat) : quantise .clear l = l ∧ quantise .gray16 l = l
    ∧ (quantise .gray4 l % 5 = 0 ∧ quantise .gray4 l ≤ l + 2 ∧ l ≤ quantise .gray4 l + 2)
    ∧ quantise .mono l = if l ≤ 7 then 0 else 15 := by
  refine ⟨rfl, rfl, ?_, rfl⟩
  change 5 * ((l + 2) / 5) % 5 = 0 ∧ 5 * ((l + 2) / 5) ≤ l + 2 ∧ l ≤ 5 * ((l + 2) / 5) + 2
  omega

/-! ## The row of IMAGE_COPY_END -/

/-- What a copy of a slot that is at the head of the queue must leave of working memory and of the engine. -/
def CopyLeaves (n : Nat) (q : List Nat) (sl : Slot) (level : Nat → Nat) (s t : State) : Prop :=
  t.wm = { s.wm with panel := t.wm.panel, waiting := t.wm.waiting, running := t.wm.running, rr := t.wm.rr,
                     debt := t.wm.debt }
    ∧ t.panel.copyQueue = q ∧ (sparseGet n t.panel.slots).map (·.state) = some .ready
    ∧ (∀ m, m ≠ n → sparseGet m t.panel.slots = sparseGet m s.panel.slots)
    ∧ (∀ p, sl.eff.hasPixel p = false → t.wm.entry p = s.wm.entry p)
    ∧ (∀ p T, sl.eff.hasPixel p = true →
        T = BitVec.ofNat 4 (quantise sl.mode (if sl.rect.hasPixel p then level p else 15)) →
        t.wm.entry p = if sl.changedOnly = true ∧ (s.wm.entry p).current = T then s.wm.entry p
          else { current := (s.wm.entry p).current, target := T, slot := BitVec.ofNat 3 n, active := true })

theorem copyLeaves {level : Nat → Nat} (slot : sparseGet n s.panel.slots = some sl) (wf : sparseWf s.wm.panel = true)
    (onPanel : sl.eff.onPanel)
    (levels : ∀ p, targetLevel s.wm sl image.toArray (sourceFrame s.wm sl) p =
      BitVec.ofNat 4 (quantise sl.mode (if sl.rect.hasPixel p then level p else 15)))
    (panel : t.panel = slotReady n q s.panel) (memory : WmRequested (targetsCopied n sl image s) t.wm) :
    CopyLeaves n q sl level s t := by
  have entry : ∀ p, t.wm.entry p = (targetsCopied n sl image s).entry p := fun p => by
    unfold WorkMem.entry
    rw [memory]
  have outer : (targetsCopied n sl image s) = { s.wm with panel := (targetsCopied n sl image s).panel } := rfl
  refine ⟨?_, ?_, ?_, fun m other => ?_, fun p outside => ?_, fun p T inside target => ?_⟩
  · unfold WmRequested at memory
    rw [memory, outer]
  · rw [panel]
    rfl
  · rw [panel, sparseGet_slotReady, slot]
    simp
  · rw [panel, sparseGet_slotReady]
    simp [other]
  · rw [entry, targetsCopied_entry n image wf onPanel, if_neg (by simp [outside])]
  · rw [entry, targetsCopied_entry n image wf onPanel, if_pos inside, levels, ← target, copiedEntry_eq]

theorem exec_imageCopyEnd {w : State} (copies : s.panel.copyQueue = n :: q) (slot : sparseGet n s.panel.slots = some sl)
    (read : rowsRead n sl s = some w) (serves : s.wm.serves = true) :
    exec (.imageCopyEnd image) s = commit s (copyEnded n sl (copyTargets n sl image w)) := by
  have head : copyingSlot s = some (n, sl) := by
    simp [copyingSlot, copies, slot]
  simp only [exec, execImageCopyEnd, head, read, serves, if_true]

/-- The state once the rows of a slot's image have been read. -/
def rowsDone (n : Nat) (s : State) : State :=
  { s with bus := { s.bus with transfers := s.bus.transfers.filter fun z => !z.isRows n } }

theorem rowsRead_record {x y : Nat} (src : sl.src = .record a) (mem : .buffer (.imageRows n) x y ∈ s.bus.transfers) :
    rowsRead n sl s = some (rowsDone n s) := by
  simp only [rowsRead, src]
  exact if_pos (List.any_eq_true.mpr ⟨_, mem, beq_self_eq_true n⟩)

/-- The state once a slot's targets are copied, before its source is told and the Image Copier goes on (06 R105). -/
def slotCopied (n : Nat) (q : List Nat) (sl : Slot) (image : List Byte) (s : State) : State :=
  { s with wm := targetsCopied n sl image s, panel := slotReady n q s.panel }

theorem copyEnded_eq (copies : s.panel.copyQueue = n :: q) : copyEnded n sl (copyTargets n sl image s) =
    match sl.src with
    | .record a   => copyOn (markRunning .display a (slotCopied n q sl image s))
    | .internal f => considerHead (reportCopied f (copyOn (slotCopied n q sl image s))) := by
  have tail : s.panel.copyQueue.tail = q := by rw [copies]; rfl
  subst tail
  rfl

/-- The state once the copy of a record's image has ended, before the Image Copier goes on (06 R105). -/
def recordCopied (n : Nat) (q : List Nat) (sl : Slot) (image : List Byte) (a : Word) (s : State) : State :=
  { slotCopied n q sl image (rowsDone n s) with
    bus := { (rowsDone n s).bus with queue := s.bus.queue ++ [.stateWrite .display a .running] } }

theorem copyEnded_record (copies : s.panel.copyQueue = n :: q) (src : sl.src = .record a)
    (writable : Writable .display a s) :
    copyEnded n sl (copyTargets n sl image (rowsDone n s)) = copyOn (recordCopied n q sl image a s) := by
  rw [copyEnded_eq (s := rowsDone n s) copies]
  simp only [src]
  rw [markRunning_writable (s := slotCopied n q sl image (rowsDone n s)) (writable.congr rfl)]
  rfl

theorem imageCopy_record {x y : Nat} (copies : s.panel.copyQueue = n :: q) (slot : sparseGet n s.panel.slots = some sl)
    (serves : s.wm.serves = true) (wf : sparseWf s.wm.panel = true) (onPanel : sl.eff.onPanel)
    (next : CopyAsks s q more) (src : sl.src = .record a) (writable : Writable .display a s)
    (mem : .buffer (.imageRows n) x y ∈ s.bus.transfers) : ∃ t, exec (.imageCopyEnd image) s = .next t
      ∧ PortAsked s.bus.queue (s.bus.transfers.filter fun z => !z.isRows n) t
          (.stateWrite .display a .running :: more)
      ∧ t = { s with bus := t.bus, wm := t.wm, panel := t.panel }
      ∧ CopyLeaves n q sl (fun p =>
          (image.getD ((p / 1600 - sl.rect.y) * sl.stride + (p % 1600 - sl.rect.x)) 0#8).toNat / 16) s t := by
  have run := exec_imageCopyEnd (image := image) copies slot (rowsRead_record src mem) serves
  rw [copyEnded_record copies src writable] at run
  have asks := copyOn_asks (next.ready n (u := recordCopied n q sl image a s) rfl fun k z mem => by
    rcases List.mem_append.mp mem with queue | transfers
    · rcases List.mem_append.mp queue with old | new
      · exact .inl (List.mem_append_left _ old)
      · exact .inr (by rw [List.mem_singleton.mp new]; rfl)
    · exact .inl (List.mem_append_right _ (List.mem_filter.mp transfers).1))
  have memory := copyOn_requested (recordCopied n q sl image a s)
  have eq := copyOn_eq (recordCopied n q sl image a s)
  refine ⟨_, run, settlePort_asked ?_ ?_, ?_, copyLeaves slot wf onPanel (fun p => targetLevel_record src) ?_ ?_⟩
  · rw [asks]
    exact List.append_assoc ..
  · rw [asks]
    rfl
  · rw [settlePort_eq, eq]
    rfl
  · rw [settlePort_eq, eq]
    rfl
  · rw [settlePort_eq]
    exact memory

theorem copyEnded_internal (copies : s.panel.copyQueue = n :: q) (src : sl.src = .internal f)
    (presses : s.turn.queue = []) : copyEnded n sl (copyTargets n sl image s) =
      reportCopied f (copyOn (slotCopied n q sl image s)) := by
  rw [copyEnded_eq copies]
  simp only [src]
  refine considerHead_noPress ?_
  change ((copyOn _).turn.setFrame f .free).queue = []
  rw [copyOn_eq]
  cases f <;> exact presses

theorem imageCopy_internal (copies : s.panel.copyQueue = n :: q) (slot : sparseGet n s.panel.slots = some sl)
    (serves : s.wm.serves = true) (wf : sparseWf s.wm.panel = true) (onPanel : sl.eff.onPanel)
    (next : CopyAsks s q more) (src : sl.src = .internal f) (presses : s.turn.queue = []) :
    ∃ t, exec (.imageCopyEnd image) s = .next t ∧ Asks s t more
      ∧ t = { s with bus := t.bus, wm := t.wm, panel := t.panel, turn := s.turn.setFrame f .free }
      ∧ CopyLeaves n q sl (fun p => (s.wm.frameLevel f p).toNat) s t := by
  have read : rowsRead n sl s = some s := by simp only [rowsRead, src]
  have run := exec_imageCopyEnd (image := image) copies slot read serves
  rw [copyEnded_internal copies src presses] at run
  have asks := copyOn_asks (next.ready n (u := slotCopied n q sl image s) rfl fun _ _ mem => .inl mem)
  have memory := copyOn_requested (slotCopied n q sl image s)
  have eq := copyOn_eq (slotCopied n q sl image s)
  refine ⟨_, run, settlePort_asked ?_ ?_, ?_, copyLeaves (image := image) slot wf onPanel
    (fun p => targetLevel_internal src) ?_ ?_⟩
  · have queue := congrArg Bus.queue asks
    exact queue
  · have transfers := congrArg Bus.transfers asks
    exact transfers
  · rw [settlePort_eq, eq]
    rfl
  · rw [settlePort_eq, eq]
    rfl
  · rw [settlePort_eq]
    exact memory

/-! ## A bus error of the image's read -/

theorem settlePeriod_settled (h : s.wave.periodPending = false) : settlePeriod s = s := if_neg (by simp [h])

/-- The state with a slot CLEARING, before the blocks around the engine are told (06 R107). -/
def slotAborted (res : ResultCode) (n : Nat) (sl : Slot) (s : State) : State :=
  { s with panel := { (if sl.state = .running then s.panel.addUncertain sl.eff else s.panel) with
      slots := sparsePut n { sl with state := .clearing, abort := res } s.panel.slots
      copyQueue := s.panel.copyQueue.filter (· != n), passQueue := s.panel.passQueue ++ [n] } }

theorem abortSlot_abortable {res : ResultCode} (slot : sparseGet n s.panel.slots = some sl)
    (abortable : sl.abortable = true) : abortSlot res n s = settlePeriod (wmRequest .retirePass (reportAbort sl
      (if sl.state = .copying then copyOn (dropRows n (slotAborted res n sl s)) else slotAborted res n sl s))) := by
  unfold abortSlot
  simp only [slot, abortable, Bool.not_true, Bool.false_eq_true, if_false]
  rfl

theorem copyOn_empty (h : s.panel.copyQueue = []) : copyOn s = wmDrop .imageCopier s := if_pos (by simp [h])

theorem abortSlot_copying {res : ResultCode} (copies : s.panel.copyQueue = [n])
    (slot : sparseGet n s.panel.slots = some sl) (src : sl.src = .record a) (state : sl.state = .copying)
    (period : s.wave.periodPending = false) : abortSlot res n s =
      wmRequest .retirePass (wmDrop .imageCopier (dropRows n (slotAborted res n sl s))) := by
  have none : (slotAborted res n sl s).panel.copyQueue = [] := by simp [slotAborted, copies]
  have told : ∀ u, reportAbort sl u = u := fun u => by simp only [reportAbort, src]
  rw [abortSlot_abortable slot (by simp [Slot.abortable, state]), if_pos state,
    copyOn_empty (s := dropRows n (slotAborted res n sl s)) none, told]
  exact settlePeriod_settled period

theorem imageCopy_busError {x y : Nat} (copies : s.panel.copyQueue = [n])
    (mem : .buffer (.imageRows n) x y ∈ s.bus.transfers) (slot : sparseGet n s.panel.slots = some sl)
    (src : sl.src = .record a) (state : sl.state = .copying) (period : s.wave.periodPending = false) :
    ∃ t, exec .imageCopyBusError s = .next t
      ∧ PortAsked (s.bus.queue.filter fun z => !z.isRows n) (s.bus.transfers.filter fun z => !z.isRows n) t []
      ∧ t = { s with bus := t.bus, wm := t.wm, panel := t.panel }
      ∧ sparseGet n t.panel.slots = some { sl with state := .clearing, abort := .badAddress }
      ∧ t.panel.passQueue = s.panel.passQueue ++ [n] ∧ t.panel.copyQueue = []
      ∧ t.panel.uncertain = s.panel.uncertain ∧ t.panel.known = s.panel.known := by
  have head : copyingSlot s = some (n, sl) := by simp [copyingSlot, copies, slot]
  have read : endTransfer (BusAccess.isRows n) s = some (rowsDone n s) :=
    if_pos (List.any_eq_true.mpr ⟨_, mem, beq_self_eq_true n⟩)
  have run : exec .imageCopyBusError s = commit s (abortSlot .badAddress n (rowsDone n s)) := by
    simp only [exec, execImageCopyBusError, head, read]
  rw [abortSlot_copying (s := rowsDone n s) copies slot src state period] at run
  have panel : (slotAborted .badAddress n sl (rowsDone n s)).panel = { s.panel with
      slots := sparsePut n { sl with state := .clearing, abort := .badAddress } s.panel.slots
      copyQueue := [], passQueue := s.panel.passQueue ++ [n] } := by
    have kept : ¬ sl.state = .running := by rw [state]; nofun
    have none : s.panel.copyQueue.filter (· != n) = [] := by simp [copies]
    unfold slotAborted
    rw [if_neg kept]
    exact congrArg (fun x => { s.panel with
      slots := sparsePut n { sl with state := .clearing, abort := .badAddress } s.panel.slots
      copyQueue := x, passQueue := s.panel.passQueue ++ [n] }) none
  refine ⟨_, run, settlePort_asked (List.append_nil _).symm ?_, ?_, ?_⟩
  · exact (List.filter_filter ..).trans (congrArg (List.filter · _) (funext fun z => Bool.and_self _))
  · rw [settlePort_eq]
    rfl
  · rw [settlePort_eq]
    change sparseGet n (slotAborted .badAddress n sl (rowsDone n s)).panel.slots = _
      ∧ (slotAborted .badAddress n sl (rowsDone n s)).panel.passQueue = _
      ∧ (slotAborted .badAddress n sl (rowsDone n s)).panel.copyQueue = _
      ∧ (slotAborted .badAddress n sl (rowsDone n s)).panel.uncertain = _
      ∧ (slotAborted .badAddress n sl (rowsDone n s)).panel.known = _
    rw [panel]
    exact ⟨sparseGet_put_same .., rfl, rfl, rfl, rfl⟩

/-- Settles O35. -/
theorem imageCopyEnds : Obligations.ImageCopyEnds := by
  refine ⟨fun s n q sl image more copies slot active wf onPanel _ next =>
    ⟨fun a x y src writable mem => ?_, fun f src presses => ?_, fun l _ => quantise_levels l⟩,
    fun s n sl a x y copies mem slot src state period => imageCopy_busError copies mem slot src state period⟩
  · exact imageCopy_record copies slot (WorkMem.serves_of active) wf onPanel next src writable mem
  · obtain ⟨t, run, asks, eq, wm, queue, ready, -, leaves⟩ := imageCopy_internal (image := image) copies slot
      (WorkMem.serves_of active) wf onPanel next src presses
    exact ⟨t, run, asks, eq, wm, queue, ready, leaves⟩

end Sys2Proof.Machine
end

section
/-!
PROOFS. The ends of retire and clearing passes (06 R106, R107, R117, R124).
-/

namespace Sys2Proof.Machine

open Sys2Proof

variable {c : Instr} {s t u v : State} {n p : Nat} {q : List Nat} {sl : Slot} {a : Word} {f : Frame} {retires : Bool}

/-! ## What the end of a step keeps while nothing waits -/

/-- Two states that share what the passes settle, with every completion that waited still waiting. -/
structure SlotsKept (s u : State) : Prop where
  turn      : u.turn = s.turn
  power     : u.power = s.power
  pending   : u.panel.pending = s.panel.pending
  slots     : u.panel.slots = s.panel.slots
  uncertain : u.panel.uncertain = s.panel.uncertain
  known     : u.panel.known = s.panel.known
  pixels    : u.wm.panel = s.wm.panel
  epoch     : u.wm.epoch = s.wm.epoch
  headers   : HeaderKept s u

theorem SlotsKept.refl (s : State) : SlotsKept s s := ⟨rfl, rfl, rfl, rfl, rfl, rfl, rfl, rfl, .refl s⟩

theorem SlotsKept.trans (h : SlotsKept s u) (k : SlotsKept u v) : SlotsKept s v :=
  ⟨k.turn.trans h.turn, k.power.trans h.power, k.pending.trans h.pending, k.slots.trans h.slots,
    k.uncertain.trans h.uncertain, k.known.trans h.known, k.pixels.trans h.pixels, k.epoch.trans h.epoch,
    h.headers.trans k.headers⟩

theorem SlotsKept.quiet (h : SlotsKept s u) (quiet : Quiet s) : Quiet u := by
  unfold Quiet
  rw [h.turn, h.power, h.pending]
  exact quiet

theorem SlotsKept.entry (h : SlotsKept s u) (p : Nat) : u.wm.entry p = s.wm.entry p := by
  unfold WorkMem.entry
  rw [h.pixels, h.epoch]

/-- A change of the engine alone, outside its lists of entries, slots and regions. -/
theorem SlotsKept.of_panel {x : Panel} (pending : x.pending = s.panel.pending) (slots : x.slots = s.panel.slots)
    (uncertain : x.uncertain = s.panel.uncertain) (known : x.known = s.panel.known) :
    SlotsKept s { s with panel := x } :=
  ⟨rfl, rfl, pending, slots, uncertain, known, rfl, rfl, .of_bus rfl⟩

theorem wmDrop_slots (x : WmClient) (s : State) : SlotsKept s (wmDrop x s) :=
  ⟨rfl, rfl, rfl, rfl, rfl, rfl, rfl, rfl, .of_bus rfl⟩

theorem wmRequest_slots (x : WmClient) (s : State) : SlotsKept s (wmRequest x s) :=
  ⟨rfl, rfl, rfl, rfl, rfl, rfl, (wmRequest_contents x s).panel, (wmRequest_contents x s).epoch, .of_bus rfl⟩

theorem settlePeriod_slots (s : State) : SlotsKept s (settlePeriod s) := by
  unfold settlePeriod
  split
  · exact ⟨rfl, rfl, rfl, rfl, rfl, rfl, rfl, rfl, .of_bus rfl⟩
  · exact .refl s

theorem completeRecord_slots (i : LaneId) (a : Word) (res : ResultCode) (detail : Word) (n : Nat) (s : State) :
    SlotsKept s (completeRecord i a res detail n s) := by
  obtain ⟨-, -, -, -, power, wm, -, panel, -, -, turn, -⟩ := completeRecord_keeps i a res detail n s
  exact ⟨turn, power, by rw [panel], by rw [panel], by rw [panel], by rw [panel], by rw [wm], by rw [wm],
    completeRecord_headers i a res detail n s⟩

theorem completeAll_slots (l : List Stop) : ∀ s : State, SlotsKept s
    (l.foldl (fun u st => completeRecord .display st.addr .ok st.detail st.stopped u) s) := by
  induction l with
  | nil => exact .refl
  | cons st l ih => exact fun s => (completeRecord_slots ..).trans (ih _)

theorem completeStops_slots (s : State) : SlotsKept s (completeStops s) :=
  (SlotsKept.of_panel (x := { s.panel with stops := s.panel.stops.filter fun st => !(st.effect && st.waits.isEmpty) })
    rfl rfl rfl rfl).trans (completeAll_slots _ _)

/-- A stop takes effect on an engine with no entry and no slot: nothing is stopped. -/
theorem effectStop_idle (st : Stop) (pending : s.panel.pending = []) (slots : s.panel.slots = []) :
    effectStop st s = s := by
  have none : s.panel.markedSlots st = [] := by simp [Panel.markedSlots, slots]
  rw [effectStop, none, removeEntries_empty _ _ pending]
  rfl

theorem effectList_slots (pending : s.panel.pending = []) (slots : s.panel.slots = []) :
    ∀ l done : List Stop, SlotsKept s (effectList l done s)
  | [], done => .of_panel rfl rfl rfl rfl
  | st :: l, done => by
    unfold effectList
    split
    · exact effectList_slots pending slots l _
    · rw [effectStop_idle st pending slots]
      exact effectList_slots pending slots l _

theorem effectStops_slots (pending : s.panel.pending = []) (slots : s.panel.slots = []) : SlotsKept s (effectStops s) :=
  (effectList_slots pending slots _ _).trans (completeStops_slots _)

theorem settlePanel_idle (quiet : Quiet s) : settlePanel s = s := by
  obtain ⟨pending, idle, -⟩ := quiet
  exact settlePanel_quiet pending (by rw [idle]; nofun)

theorem enterHolding_slots (pending : s.panel.pending = []) (slots : s.panel.slots = []) :
    SlotsKept s (enterHolding s) := by
  have moved : SlotsKept s (s.modPanel fun p =>
      if holdCut s || p.holdTime == 0 then p.fall else { p with engine := .holding, holdTimer := some p.holdTime }) := by
    refine .of_panel ?_ ?_ ?_ ?_ <;> (dsimp only; split <;> rfl)
  exact moved.trans (effectStops_slots (moved.pending.trans pending) (moved.slots.trans slots))

theorem leaveDriving_slots (quiet : Quiet s) : SlotsKept s (leaveDriving s) := by
  unfold leaveDriving
  split
  · next driving =>
    have holds := enterHolding_slots quiet.1 driving.2
    rw [settlePanel_idle (holds.quiet quiet)]
    exact holds
  · exact .refl s

/-! ## A slot becomes FREE -/

/-- The state with a slot's number free again (06 R106, R107). -/
def slotFreed (n id : Nat) (s : State) : State :=
  { s with panel := { s.panel with
    slots := sparseErase n s.panel.slots, passQueue := s.panel.passQueue.filter (· != n)
    stops := s.panel.stops.map fun st => { st with waits := st.waits.filter (· != id) } } }

/-- What follows once a slot is FREE and nothing waits keeps what the pass has settled. -/
theorem freeSlot_slots (id : Nat) (quiet : Quiet s) : SlotsKept (slotFreed n id s) (settleAll (freeSlot n id s)) := by
  let u := if (slotFreed n id s).panel.passQueue.isEmpty then wmDrop .retirePass (slotFreed n id s)
    else wmRequest .retirePass (slotFreed n id s)
  have asked : SlotsKept (slotFreed n id s) u := by
    unfold u
    split
    · exact wmDrop_slots ..
    · exact wmRequest_slots ..
  have stops : SlotsKept (slotFreed n id s) (completeStops (settlePeriod u)) :=
    (asked.trans (settlePeriod_slots u)).trans (completeStops_slots _)
  have calm : Quiet (completeStops (settlePeriod u)) := stops.quiet (s := slotFreed n id s) quiet
  have freed : freeSlot n id s = leaveDriving (settlePanel (completeStops (settlePeriod u))) := rfl
  have left := leaveDriving_slots calm
  rw [freed, settlePanel_idle calm, settleAll_quiet (left.quiet calm)]
  exact stops.trans left

/-! ## What a pass settles -/

/-- The state once the pass over a slot has been made and its update has ended (06 R106, R107, R124). -/
def passDone (retires : Bool) (n : Nat) (sl : Slot) (s : State) : State :=
  if retires then completeSlot sl ((passOver n sl true s).modPanel fun p => p.cleared sl)
  else match sl.src with
    | .record a   => completeRecord .display a sl.abort sl.detail sl.driven (passOver n sl false s)
    | .internal _ => passOver n sl false s

theorem exec_passEnd (queue : s.panel.passQueue = n :: q) (slot : sparseGet n s.panel.slots = some sl)
    (serves : s.wm.serves = true) (state : sl.state = if retires then .retiring else .clearing) :
    exec (if retires then .retirePassEnd else .clearingPassEnd) s =
      commit s (settleAll (freeSlot n sl.id (passDone retires n sl s))) := by
  have head : passSlot s = some (n, sl) := by simp [passSlot, queue, slot]
  cases retires
  · simp only [Bool.false_eq_true, if_false] at state ⊢
    simp only [exec, execClearingPassEnd, head, state, serves, and_self, if_true]
    rfl
  · simp only [if_true] at state ⊢
    simp only [exec, execRetirePassEnd, head, state, serves, and_self, if_true]
    rfl

/-- The engine's regions and its flag once a pass has ended (06 R117). -/
def passPanel (retires : Bool) (sl : Slot) (p : Panel) : Panel := if retires then p.cleared sl else p

/-- The state once the pass over a slot has been made, its update not yet ended. -/
def passMade (retires : Bool) (n : Nat) (sl : Slot) (s : State) : State :=
  { passOver n sl retires s with panel := passPanel retires sl s.panel }

theorem passDone_keeps (retires : Bool) (n : Nat) (sl : Slot) (s : State) : (passDone retires n sl s).power = s.power
    ∧ (passDone retires n sl s).panel = passPanel retires sl s.panel
    ∧ (passDone retires n sl s).wm = (passOver n sl retires s).wm := by
  unfold passDone passPanel
  cases retires
  · rw [if_neg nofun, if_neg nofun]
    split
    · obtain ⟨-, -, -, -, power, wm, -, panel, -⟩ :=
        completeRecord_keeps .display _ sl.abort sl.detail sl.driven (passOver n sl false s)
      exact ⟨power, panel, wm⟩
    · exact ⟨rfl, rfl, rfl⟩
  · rw [if_pos rfl, if_pos rfl]
    obtain ⟨-, -, -, -, power, wm, -, panel, -⟩ := completeSlot_keeps sl (passMade true n sl s)
    exact ⟨power, panel, wm⟩

theorem passDone_record (src : sl.src = .record a) (retires : Bool) (n : Nat) (s : State) : passDone retires n sl s =
    completeRecord .display a (if retires then .ok else sl.abort) sl.detail (if retires then sl.frames else sl.driven)
      (passMade retires n sl s) := by
  cases retires <;> simp only [passDone, completeSlot, src] <;> rfl

theorem passDone_internal (src : sl.src = .internal f) (retires : Bool) (n : Nat) (s : State) :
    (passDone retires n sl s).turn = { s.turn with
      latestFull := if retires = true ∧ s.turn.latestFull = some sl.id then none else s.turn.latestFull } := by
  cases retires
  · simp only [passDone, src, Bool.false_eq_true, if_false, false_and]
    rfl
  · simp only [passDone, completeSlot, src, if_true, true_and]
    change (if s.turn.latestFull = some sl.id then { s.turn with latestFull := none } else s.turn) = _
    split <;> rfl

theorem Panel.cleared_keeps (p : Panel) (sl : Slot) : (p.cleared sl).slots = p.slots
    ∧ (p.cleared sl).pending = p.pending := by
  unfold Panel.cleared
  split <;> exact ⟨rfl, rfl⟩

theorem passPanel_keeps (retires : Bool) (sl : Slot) (p : Panel) : (passPanel retires sl p).slots = p.slots
    ∧ (passPanel retires sl p).pending = p.pending := by
  cases retires
  · exact ⟨rfl, rfl⟩
  · exact p.cleared_keeps sl

theorem passDone_quiet (quiet : Quiet s) (retires : Bool) (n : Nat) (sl : Slot) : Quiet (passDone retires n sl s) := by
  obtain ⟨power, panel, -⟩ := passDone_keeps retires n sl s
  obtain ⟨pending, idle, presses, calm⟩ := quiet
  have turn : (passDone retires n sl s).turn.state = s.turn.state
      ∧ (passDone retires n sl s).turn.queue = s.turn.queue := by
    cases src : sl.src with
    | record a =>
      rw [passDone_record src, (completeRecord_slots ..).turn]
      exact ⟨rfl, rfl⟩
    | internal f =>
      rw [passDone_internal src]
      exact ⟨rfl, rfl⟩
  unfold Quiet
  rw [power, panel, turn.1, turn.2, (passPanel_keeps retires sl s.panel).2]
  exact ⟨pending, idle, presses, calm⟩

theorem passOver_entry (n : Nat) (retires : Bool) (wf : sparseWf s.wm.panel = true) (onPanel : sl.eff.onPanel) :
    (passOver n sl retires s).wm.entry p = if sl.eff.hasPixel p then
        passedEntry s.wm n retires p () (sparseGet p s.wm.panel) else s.wm.entry p :=
  entry_written (passedEntry s.wm n retires) (fun _ => ()) onPanel wf rfl rfl

theorem passedEntry_eq (w : WorkMem) (n : Nat) (retires : Bool) (p : Nat) :
    passedEntry w n retires p () (sparseGet p w.panel) =
      if (w.entry p).active = true ∧ (w.entry p).slot = BitVec.ofNat 3 n then
        { w.entry p with current := if retires then (w.entry p).target else (w.entry p).current, active := false }
      else w.entry p := by
  unfold passedEntry WorkMem.entry
  dsimp only
  by_cases own : ((sparseGet p w.panel).getD (undefinedEntry w.epoch p)).active = true
      ∧ ((sparseGet p w.panel).getD (undefinedEntry w.epoch p)).slot = BitVec.ofNat 3 n
  · rw [if_pos (by simpa using own), if_pos own]
  · rw [if_neg (by simpa using own), if_neg own]

/-- Settles O37. -/
theorem passesEndSlots : Obligations.PassesEndSlots := by
  intro s n q sl queue slot active wf slotsWf onPanel _ quiet retires state
  have run := exec_passEnd queue slot (WorkMem.serves_of active) state
  obtain ⟨-, panel, wm⟩ := passDone_keeps retires n sl s
  have kept := freeSlot_slots (n := n) sl.id (passDone_quiet quiet retires n sl)
  have turn : (settleAll (freeSlot n sl.id (passDone retires n sl s))).turn = (passDone retires n sl s).turn := kept.turn
  have slots : (settleAll (freeSlot n sl.id (passDone retires n sl s))).panel.slots = sparseErase n s.panel.slots := by
    rw [kept.slots]
    change sparseErase n (passDone retires n sl s).panel.slots = _
    rw [panel, (passPanel_keeps retires sl s.panel).1]
  have entry : ∀ p, (settleAll (freeSlot n sl.id (passDone retires n sl s))).wm.entry p =
      (passOver n sl retires s).wm.entry p := fun p => by
    rw [kept.entry, ← wm]
    rfl
  have uncertain : (settleAll (freeSlot n sl.id (passDone retires n sl s))).panel.uncertain =
      (passPanel retires sl s.panel).uncertain := by
    rw [kept.uncertain, ← panel]
    rfl
  have known : (settleAll (freeSlot n sl.id (passDone retires n sl s))).panel.known =
      (passPanel retires sl s.panel).known := by
    rw [kept.known, ← panel]
    rfl
  refine ⟨_, run, ?_, fun m other => ?_, fun a src writable => ⟨?_, completing_settled s ?_⟩, fun f src => ?_,
    fun p outside => ?_, fun p inside other => ?_, fun p inside active own => ?_, fun ⟨retire, clear⟩ => ?_,
    fun other => ?_⟩
  all_goals try rw [settlePort_eq]
  · rw [slots]
    exact sparseGet_erase_same n slotsWf
  · rw [slots]
    exact sparseGet_erase_other other _
  · rw [turn, passDone_record src, (completeRecord_slots ..).turn]
    rfl
  · refine kept.headers.waits ?_
    rw [passDone_record src]
    exact completeRecord_waits (s := passMade retires n sl s) (writable.congr rfl) ..
  · rw [turn, passDone_internal src]
  · rw [entry, passOver_entry n retires wf onPanel, if_neg (by simp [outside])]
  · rw [entry, passOver_entry n retires wf onPanel, if_pos inside, passedEntry_eq, if_neg (by
      rintro ⟨active, own⟩
      rcases other with idle | other
      · simp [active] at idle
      · exact other own)]
  · rw [entry, passOver_entry n retires wf onPanel, if_pos inside, passedEntry_eq, if_pos ⟨active, own⟩]
  · rw [uncertain, known, passPanel, if_pos retire, Panel.cleared, if_pos clear]
    simp [fullPanel]
  · rw [uncertain, known, passPanel]
    rcases other with clearing | other
    · rw [if_neg (by simp [clearing])]
      exact ⟨rfl, rfl⟩
    · rw [Panel.cleared, if_neg other]
      split <;> exact ⟨rfl, rfl⟩

end Sys2Proof.Machine
end

section
/-!
PROOFS. Aborts of slots, and what the end of a step keeps of the engine (06 R107, R111, R114, R116).
-/

namespace Sys2Proof.Machine

open Sys2Proof

variable {c : Instr} {s t u v : State} {n m : Nat} {sl : Slot} {res : ResultCode} {l : List Nat} {f : Slot → Bool}
  {a : Word}

/-! ## Slots by number -/

theorem sparseGet_of_mem {β : Type} {k : Nat} {x : β} : ∀ {lo : Nat} {m : List (Nat × β)}, sparseFrom lo m = true →
    (k, x) ∈ m → sparseGet k m = some x
  | _, (j, w) :: m, wf, mem => by
    obtain ⟨-, rising⟩ := sparseFrom_iff.mp wf
    obtain ⟨above, -⟩ := List.pairwise_cons.mp rising
    simp only [sparseFrom, Bool.and_eq_true] at wf
    rcases List.mem_cons.mp mem with same | later
    · obtain ⟨rfl, rfl⟩ := Prod.mk.inj same
      exact if_pos rfl
    · have less : j < k := above _ later
      exact (if_neg (Nat.ne_of_lt less)).trans (sparseGet_of_mem wf.2 later)

theorem mem_iff_sparseGet {β : Type} {k : Nat} {x : β} {m : List (Nat × β)} (wf : sparseWf m = true) :
    (k, x) ∈ m ↔ sparseGet k m = some x := ⟨sparseGet_of_mem wf, mem_of_sparseGet⟩

/-- The numbers of the slots that satisfy a test, and the slots at them. -/
theorem mem_slotsWhere {slots : List (Nat × Slot)} (wf : sparseWf slots = true) (g : Slot → Bool)
    (slot : sparseGet n slots = some sl) : n ∈ (slots.filter fun e => g e.2).map (·.1) ↔ g sl = true := by
  constructor
  · intro mem
    obtain ⟨⟨k, x⟩, kept, rfl⟩ := List.mem_map.mp mem
    obtain ⟨kept, pass⟩ := List.mem_filter.mp kept
    obtain rfl : x = sl := Option.some.inj (((mem_iff_sparseGet wf).mp kept).symm.trans slot)
    exact pass
  · intro pass
    exact List.mem_map.mpr ⟨(n, sl), List.mem_filter.mpr ⟨(mem_iff_sparseGet wf).mpr slot, pass⟩, rfl⟩

theorem sparseGet_put {β : Type} (k m : Nat) (x : β) (l : List (Nat × β)) :
    sparseGet m (sparsePut k x l) = if m = k then some x else sparseGet m l := by
  by_cases same : m = k
  · rw [if_pos same, same, sparseGet_put_same]
  · rw [if_neg same, sparseGet_put_other same]

/-! ## What an abort keeps -/

/-- What aborts leave of the state, the slots and the uncertain regions apart. -/
structure AbortKept (s u : State) : Prop where
  regs    : u.regs = s.regs
  link    : u.link = s.link
  power   : u.power = s.power
  pins    : u.pins = s.pins
  load    : u.wave.load = s.wave.load
  state   : u.turn.state = s.turn.state
  presses : u.turn.queue = s.turn.queue
  panel   : u.panel = { s.panel with
    slots := u.panel.slots, copyQueue := u.panel.copyQueue, passQueue := u.panel.passQueue
    uncertain := u.panel.uncertain, known := u.panel.known }
  headers : HeaderKept s u

theorem AbortKept.refl (s : State) : AbortKept s s := ⟨rfl, rfl, rfl, rfl, rfl, rfl, rfl, rfl, .refl s⟩

theorem AbortKept.trans (h : AbortKept s u) (k : AbortKept u v) : AbortKept s v :=
  ⟨k.regs.trans h.regs, k.link.trans h.link, k.power.trans h.power, k.pins.trans h.pins, k.load.trans h.load,
    k.state.trans h.state, k.presses.trans h.presses, by rw [k.panel, h.panel], h.headers.trans k.headers⟩

theorem Panel.addUncertain_rest (p : Panel) (r : Rect) :
    p.addUncertain r = { p with uncertain := (p.addUncertain r).uncertain, known := (p.addUncertain r).known } := by
  unfold Panel.addUncertain
  repeat' split
  all_goals rfl

theorem settlePeriod_rest (s : State) :
    settlePeriod s = { s with wave := (settlePeriod s).wave } ∧ (settlePeriod s).wave.load = s.wave.load := by
  unfold settlePeriod
  split <;> exact ⟨rfl, rfl⟩

theorem Turn.setFrame_rest (x : Turn) (f : Frame) (y : FrameState) : (x.setFrame f y).state = x.state
    ∧ (x.setFrame f y).queue = x.queue := by
  cases f <;> exact ⟨rfl, rfl⟩

theorem Turn.lose_rest (x : Turn) (id : Nat) : (x.lose id).state = x.state ∧ (x.lose id).queue = x.queue := by
  unfold Turn.lose
  split <;> exact ⟨rfl, rfl⟩

theorem reportRemoved_rest (f : Frame) (id : Nat) (s : State) :
    reportRemoved f id s = { s with turn := (reportRemoved f id s).turn }
      ∧ (reportRemoved f id s).turn.state = s.turn.state ∧ (reportRemoved f id s).turn.queue = s.turn.queue :=
  ⟨rfl, ((s.turn.setFrame f .free).lose_rest id).1.trans (s.turn.setFrame_rest f .free).1,
    ((s.turn.setFrame f .free).lose_rest id).2.trans (s.turn.setFrame_rest f .free).2⟩

theorem reportAbort_rest (sl : Slot) (s : State) : reportAbort sl s = { s with turn := (reportAbort sl s).turn }
    ∧ (reportAbort sl s).turn.state = s.turn.state ∧ (reportAbort sl s).turn.queue = s.turn.queue := by
  unfold reportAbort
  split
  · exact ⟨rfl, rfl, rfl⟩
  · exact reportRemoved_rest ..
  · exact ⟨rfl, (s.turn.lose_rest sl.id).1, (s.turn.lose_rest sl.id).2⟩

/-- The aborted slot, before the blocks around the engine are told, and what they make of it. -/
theorem abortSlot_panel (slot : sparseGet n s.panel.slots = some sl) (abortable : sl.abortable = true) :
    (abortSlot res n s).panel = (slotAborted res n sl s).panel ∧ AbortKept s (abortSlot res n s) := by
  have headers : HeaderKept s (abortSlot res n s) := (abortSlot_passes res n .start).headersKept
  let w := if sl.state = .copying then copyOn (dropRows n (slotAborted res n sl s)) else slotAborted res n sl s
  have copied : w = { slotAborted res n sl s with bus := w.bus, wm := w.wm } := by
    unfold w
    split
    · rw [copyOn_eq]
      rfl
    · rfl
  have eq : abortSlot res n s = settlePeriod (wmRequest .retirePass (reportAbort sl w)) :=
    abortSlot_abortable slot abortable
  obtain ⟨told, state, presses⟩ := reportAbort_rest sl w
  obtain ⟨settled, load⟩ := settlePeriod_rest (wmRequest .retirePass (reportAbort sl w))
  have panel : (abortSlot res n s).panel = (slotAborted res n sl s).panel := by rw [eq, settled, wmRequest_eq, told, copied]
  have region : (slotAborted res n sl s).panel = { s.panel with
      slots := (slotAborted res n sl s).panel.slots, copyQueue := (slotAborted res n sl s).panel.copyQueue
      passQueue := (slotAborted res n sl s).panel.passQueue, uncertain := (slotAborted res n sl s).panel.uncertain
      known := (slotAborted res n sl s).panel.known } := by
    unfold slotAborted
    dsimp only
    split
    · rw [Panel.addUncertain_rest]
    · rfl
  refine ⟨panel, ?_, ?_, ?_, ?_, ?_, ?_, ?_, ?_, headers⟩
  · rw [eq, settled, wmRequest_eq, told, copied]
    rfl
  · rw [eq, settled, wmRequest_eq, told, copied]
    rfl
  · rw [eq, settled, wmRequest_eq, told, copied]
    rfl
  · rw [eq, settled, wmRequest_eq, told, copied]
    rfl
  · rw [eq, load, wmRequest_eq, told, copied]
    rfl
  · rw [eq, settled, wmRequest_eq]
    exact state.trans (by rw [copied]; rfl)
  · rw [eq, settled, wmRequest_eq]
    exact presses.trans (by rw [copied]; rfl)
  · rw [panel]
    exact region

theorem abortSlot_other (h : ∀ sl, sparseGet n s.panel.slots = some sl → sl.abortable = false) :
    abortSlot res n s = s := by
  unfold abortSlot
  split
  · rfl
  · next sl slot => exact if_pos (by simp [h sl slot])

theorem abortSlot_kept (res : ResultCode) (n : Nat) (s : State) : AbortKept s (abortSlot res n s) := by
  by_cases h : ∀ sl, sparseGet n s.panel.slots = some sl → sl.abortable = false
  · rw [abortSlot_other h]
    exact .refl s
  · obtain ⟨sl, h⟩ := Classical.not_forall.mp h
    obtain ⟨slot, abortable⟩ := Classical.not_imp.mp h
    exact (abortSlot_panel slot (by simpa using abortable)).2

theorem abortSlots_kept (res : ResultCode) : ∀ (l : List Nat) (s : State), AbortKept s (abortSlots res l s)
  | [], s     => .refl s
  | n :: l, s => (abortSlot_kept res n s).trans (abortSlots_kept res l _)

/-! ## The slots after aborts -/

/-- A slot that is aborted (06 R107). -/
def Slot.aborted (res : ResultCode) (sl : Slot) : Slot := { sl with state := .clearing, abort := res }

theorem Slot.aborted_done (res : ResultCode) (sl : Slot) : (sl.aborted res).abortable = false := rfl

theorem abortSlot_slots (res : ResultCode) (n m : Nat) (s : State) : sparseGet m (abortSlot res n s).panel.slots =
    (sparseGet m s.panel.slots).map fun sl => if m = n ∧ sl.abortable = true then sl.aborted res else sl := by
  by_cases h : ∀ sl, sparseGet n s.panel.slots = some sl → sl.abortable = false
  · rw [abortSlot_other h]
    cases found : sparseGet m s.panel.slots with
    | none => rfl
    | some sl =>
      rw [Option.map_some, if_neg]
      rintro ⟨rfl, abortable⟩
      rw [h sl found] at abortable
      nomatch abortable
  · obtain ⟨sl, h⟩ := Classical.not_forall.mp h
    obtain ⟨slot, abortable⟩ := Classical.not_imp.mp h
    have abortable : sl.abortable = true := by simpa using abortable
    rw [(abortSlot_panel slot abortable).1]
    change sparseGet m (sparsePut n (sl.aborted res) s.panel.slots) = _
    rw [sparseGet_put]
    by_cases same : m = n
    · subst same
      rw [if_pos rfl, slot, Option.map_some, if_pos ⟨rfl, abortable⟩]
    · rw [if_neg same]
      simp [same]

theorem abortSlots_slots (res : ResultCode) : ∀ (l : List Nat) (m : Nat) (s : State),
    sparseGet m (abortSlots res l s).panel.slots =
      (sparseGet m s.panel.slots).map fun sl => if m ∈ l ∧ sl.abortable = true then sl.aborted res else sl
  | [], m, s => by simp [abortSlots]
  | n :: l, m, s => by
    rw [abortSlots, abortSlots_slots res l m, abortSlot_slots, Option.map_map]
    refine congrArg (fun g => (sparseGet m s.panel.slots).map g) (funext fun sl => ?_)
    dsimp only [Function.comp_apply]
    by_cases here : m = n ∧ sl.abortable = true
    · rw [if_pos here, if_neg (by simp [Slot.aborted_done]), if_pos ⟨List.mem_cons.mpr (.inl here.1), here.2⟩]
    · rw [if_neg here]
      by_cases later : m ∈ l ∧ sl.abortable = true
      · rw [if_pos later, if_pos ⟨List.mem_cons_of_mem _ later.1, later.2⟩]
      · rw [if_neg later, if_neg (by
          rintro ⟨mem, abortable⟩
          rcases List.mem_cons.mp mem with rfl | mem
          · exact here ⟨rfl, abortable⟩
          · exact later ⟨mem, abortable⟩)]

/-! ## The uncertain regions after aborts -/

/-- Two engines with the same uncertain regions and flag. -/
def SameRegions (p q : Panel) : Prop := q.uncertain = p.uncertain ∧ q.known = p.known

theorem abortSlot_regions (calm : ∀ sl, sparseGet n s.panel.slots = some sl → sl.state ≠ .running) :
    SameRegions s.panel (abortSlot res n s).panel := by
  by_cases h : ∀ sl, sparseGet n s.panel.slots = some sl → sl.abortable = false
  · rw [abortSlot_other h]
    exact ⟨rfl, rfl⟩
  · obtain ⟨sl, h⟩ := Classical.not_forall.mp h
    obtain ⟨slot, abortable⟩ := Classical.not_imp.mp h
    rw [(abortSlot_panel slot (by simpa using abortable)).1, slotAborted, if_neg (calm sl slot)]
    exact ⟨rfl, rfl⟩

/-- Aborts of slots none of which is RUNNING add no region (06 R116). -/
theorem abortSlots_regions : ∀ (l : List Nat) (s : State),
    (∀ m sl, sparseGet m s.panel.slots = some sl → sl.state ≠ .running) →
    SameRegions s.panel (abortSlots res l s).panel
  | [], _, _ => ⟨rfl, rfl⟩
  | n :: l, s, calm => by
    obtain ⟨uncertain, known⟩ := abortSlot_regions (res := res) (n := n) (calm n)
    have later := abortSlots_regions l (abortSlot res n s) fun m sl slot => by
      rw [abortSlot_slots] at slot
      obtain ⟨old, found, rfl⟩ := Option.map_eq_some_iff.mp slot
      split
      · exact nofun
      · exact calm m old found
    exact ⟨later.1.trans uncertain, later.2.trans known⟩

/-- The abort of an only slot that is RUNNING adds its rectangle (06 R116). -/
theorem abortSlot_adds (slot : sparseGet n s.panel.slots = some sl) (running : sl.state = .running) :
    SameRegions (s.panel.addUncertain sl.eff) (abortSlot res n s).panel := by
  rw [(abortSlot_panel slot (by simp [Slot.abortable, running])).1, slotAborted, if_pos running]
  exact ⟨rfl, rfl⟩

/-- The regions after a RUNNING slot is aborted: one held already adds none, and a ninth empties the list (06 R116). -/
theorem addUncertain_regions (p : Panel) (r : Rect) {q : Panel} (h : SameRegions (p.addUncertain r) q) :
    ((p.known = false ∨ ∃ u, u ∈ p.uncertain ∧ r.inside u = true) → q.uncertain = p.uncertain ∧ q.known = p.known)
    ∧ (p.known = true → (∀ u, u ∈ p.uncertain → r.inside u = false) →
        (p.uncertain.length < 8 → q.uncertain = p.uncertain ++ [r] ∧ q.known = true)
        ∧ (8 ≤ p.uncertain.length → q.uncertain = [] ∧ q.known = false)) := by
  obtain ⟨uncertain, known⟩ := h
  rw [uncertain, known]
  refine ⟨fun held => ?_, fun known apart => ?_⟩
  · have kept : p.addUncertain r = p := if_pos (by
      rcases held with unknown | ⟨u, mem, inside⟩
      · simp [unknown]
      · simp [List.any_eq_true.mpr ⟨u, mem, inside⟩])
    rw [kept]
    exact ⟨rfl, rfl⟩
  · have none : (p.uncertain.any fun u => r.inside u) = false := List.any_eq_false.mpr fun u mem => by simp [apart u mem]
    have adds : p.addUncertain r = if 8 ≤ p.uncertain.length then { p with uncertain := [], known := false }
        else { p with uncertain := p.uncertain ++ [r] } := if_neg (by simp [known, none])
    rw [adds]
    refine ⟨fun room => ?_, fun full => ?_⟩
    · rw [if_neg (by omega)]
      exact ⟨rfl, known⟩
    · rw [if_pos full]
      exact ⟨rfl, rfl⟩

end Sys2Proof.Machine
end

section
/-!
PROOFS. The rails and the timers of the panel engine (06 R108 to R111, R120; 03 R64).
-/

namespace Sys2Proof.Machine

open Sys2Proof

variable {c : Instr} {s t u v : State} {n : Nat} {sl : Slot} {a : Word} {e : Entry}

/-! ## RAIL_GOOD and the timers -/

theorem setStops_same (stops : s.panel.stops = []) : { s with panel := { s.panel with stops := [] } } = s := by
  rw [← stops]

/-- With no stop listed none takes effect and none completes. -/
theorem effectStops_none (stops : s.panel.stops = []) : effectStops s = s := by
  have listed : effectList s.panel.stops [] s = s := by
    rw [stops]
    exact setStops_same stops
  have completed : completeStops s = (s.panel.stops.filter fun st => st.effect && st.waits.isEmpty).foldl
      (fun u st => completeRecord .display st.addr .ok st.detail st.stopped u)
      { s with panel := { s.panel with
        stops := s.panel.stops.filter fun st => !(st.effect && st.waits.isEmpty) } } := rfl
  rw [effectStops, listed, completed, stops]
  exact setStops_same stops

/-- RISING has found RAIL_GOOD asserted (06 R108). -/
def railsUp (s : State) : State :=
  { s with
      pins := { s.pins with railGood := true }
      panel := { s.panel with engine := .driving, risingTimer := false } }

theorem exec_railGoodAssert (rising : s.panel.engine = .rising) (quiet : Quiet s) :
    exec .railGoodAssert s = commit s (leaveDriving (railsUp s)) := by
  have run : exec .railGoodAssert s = commit s (considerHead (leaveDriving (railsUp s))) := if_pos rising
  have calm : Quiet (leaveDriving (railsUp s)) := (leaveDriving_slots (s := railsUp s) quiet).quiet quiet
  rw [run, considerHead_noPress calm.2.2.1]

theorem exec_railGoodAssert_drives (rising : s.panel.engine = .rising) (quiet : Quiet s) (slots : s.panel.slots ≠ []) :
    ∃ t, exec .railGoodAssert s = .next t ∧ Asks s t []
      ∧ t = { s with bus := t.bus, pins := { s.pins with railGood := true },
                     panel := { s.panel with engine := .driving, risingTimer := false } } := by
  have stays : leaveDriving (railsUp s) = railsUp s := if_neg fun h => slots h.2
  obtain ⟨t, run, eq, asks⟩ := exec_asksNothing (u := railsUp s)
    ((exec_railGoodAssert rising quiet).trans (by rw [stays])) rfl
  exact ⟨t, run, asks, eq⟩

/-- The engine in HOLDING, or past it in FALLING (06 R110). -/
def holdingPanel (s : State) : Panel :=
  if s.panel.holdTime = 0 ∨ s.power.state = .dozeEntry ∨ s.power.state = .deepEntry then
    { s.panel with engine := .falling, risingTimer := false, holdTimer := none, fallingTimer := true }
  else { s.panel with engine := .holding, risingTimer := false, holdTimer := some s.panel.holdTime }

/-- The state once RISING has led on to HOLDING (06 R108). -/
def railsHold (s : State) : State :=
  { s with pins := { s.pins with railGood := true }, panel := holdingPanel s }

theorem holdingPanel_stops (s : State) : (holdingPanel s).stops = s.panel.stops := by
  unfold holdingPanel
  split <;> rfl

theorem enterHolding_railsUp (stops : s.panel.stops = []) : enterHolding (railsUp s) = railsHold s := by
  have cut : (holdCut (railsUp s) || (railsUp s).panel.holdTime == 0) = true
      ↔ s.panel.holdTime = 0 ∨ s.power.state = .dozeEntry ∨ s.power.state = .deepEntry := by
    simp only [holdCut, railsUp, Bool.or_eq_true, beq_iff_eq]
    exact or_comm
  have moved : ((railsUp s).modPanel fun p =>
      if holdCut (railsUp s) || p.holdTime == 0 then p.fall
      else { p with engine := .holding, holdTimer := some p.holdTime }) = railsHold s := by
    refine congrArg (fun p => { railsUp s with panel := p }) ?_
    unfold holdingPanel
    dsimp only
    by_cases h : s.panel.holdTime = 0 ∨ s.power.state = .dozeEntry ∨ s.power.state = .deepEntry
    · rw [if_pos h, if_pos (cut.mpr h)]
      rfl
    · rw [if_neg h, if_neg (fun x => h (cut.mp x))]
      rfl
  rw [enterHolding, moved, effectStops_none ((holdingPanel_stops s).trans stops)]

theorem exec_railGoodAssert_holds (rising : s.panel.engine = .rising) (quiet : Quiet s) (slots : s.panel.slots = [])
    (stops : s.panel.stops = []) : ∃ t, exec .railGoodAssert s = .next t ∧ Asks s t []
      ∧ t = { s with bus := t.bus, pins := { s.pins with railGood := true }, panel := holdingPanel s } := by
  have held : enterHolding (railsUp s) = railsHold s := enterHolding_railsUp stops
  have kept := enterHolding_slots (s := railsUp s) quiet.1 slots
  have leaves : leaveDriving (railsUp s) = railsHold s := by
    rw [← held]
    exact (if_pos ⟨rfl, slots⟩).trans (settlePanel_idle (kept.quiet quiet))
  obtain ⟨t, run, eq, asks⟩ := exec_asksNothing (u := railsHold s)
    ((exec_railGoodAssert rising quiet).trans (by rw [leaves])) rfl
  exact ⟨t, run, asks, eq⟩

theorem exec_holdTimerExpiry (holding : s.panel.engine = .holding) (runs : s.panel.holdTimer ≠ none) :
    ∃ t, exec .holdTimerExpiry s = .next t
      ∧ t = { s with bus := t.bus,
                     panel := { s.panel with engine := .falling, holdTimer := none, fallingTimer := true } } := by
  have run : exec .holdTimerExpiry s = commit s (s.modPanel Panel.fall) :=
    if_pos ⟨holding, Option.isSome_iff_ne_none.mpr runs⟩
  obtain ⟨t, run, eq, -⟩ := exec_asksNothing run rfl
  exact ⟨t, run, eq⟩

theorem exec_fallingTimerExpiry (falling : s.panel.engine = .falling) (runs : s.panel.fallingTimer = true)
    (quiet : Quiet s) : ∃ t, exec .fallingTimerExpiry s = .next t
      ∧ t = { s with bus := t.bus, panel := { s.panel with engine := .off, fallingTimer := false } } := by
  have run : exec .fallingTimerExpiry s
      = commit s (settleAll (s.modPanel fun p => { p with engine := .off, fallingTimer := false })) :=
    if_pos ⟨falling, runs⟩
  obtain ⟨t, run, eq, -⟩ := exec_asksNothing (exec_settled run quiet) rfl
  exact ⟨t, run, eq⟩

/-! ## What the end of entries keeps -/

theorem markDone_hostwake (i : LaneId) (a : Word) (s : State) : (markDone i a s).regs.hostwake = s.regs.hostwake := by
  unfold markDone retire
  dsimp only
  split <;> rfl

theorem completeRecord_hostwake (i : LaneId) (a : Word) (res : ResultCode) (detail : Word) (progress : Nat) (s : State) :
    (completeRecord i a res detail progress s).regs.hostwake = s.regs.hostwake := by
  unfold completeRecord
  split
  · rfl
  · split
    · exact markDone_hostwake i a s
    · rfl

theorem endEntry_rest (res : ResultCode) (e : Entry) (s : State) :
    (endEntry res e s).turn.state = s.turn.state ∧ (endEntry res e s).turn.queue = s.turn.queue
      ∧ (endEntry res e s).regs.hostwake = s.regs.hostwake := by
  unfold endEntry
  split
  · obtain ⟨-, -, -, -, -, -, -, -, -, -, turn, -⟩ := completeRecord_keeps .display ‹Word› res e.detail 0 s
    exact ⟨by rw [turn], by rw [turn], completeRecord_hostwake ..⟩
  · exact ⟨(reportRemoved_rest ..).2.1, (reportRemoved_rest ..).2.2, rfl⟩

theorem endEntries_rest (res : ResultCode) : ∀ (l : List Entry) (s : State),
    (endEntries res l s).turn.state = s.turn.state ∧ (endEntries res l s).turn.queue = s.turn.queue
      ∧ (endEntries res l s).regs.hostwake = s.regs.hostwake
  | [], _ => ⟨rfl, rfl, rfl⟩
  | e :: l, s => by
    obtain ⟨state, presses, hostwake⟩ := endEntries_rest res l (endEntry res e s)
    obtain ⟨state', presses', hostwake'⟩ := endEntry_rest res e s
    exact ⟨state.trans state', presses.trans presses', hostwake.trans hostwake'⟩

/-- What the answers to a HALTED engine keep: of the engine all but its list and the flush, the slots' blocks, and what
was asked of the port for records. -/
structure Answered (s u : State) : Prop where
  panel   : u.panel = { s.panel with pending := u.panel.pending, flushed := u.panel.flushed }
  pins    : u.pins = s.pins
  load    : u.wave.load = s.wave.load
  state   : u.turn.state = s.turn.state
  presses : u.turn.queue = s.turn.queue
  link    : u.link.state = s.link.state
  calm    : u.power.descentPending = s.power.descentPending
  causes  : CausesKept s.regs u.regs
  headers : HeaderKept s u

theorem Answered.refl (s : State) : Answered s s := ⟨rfl, rfl, rfl, rfl, rfl, rfl, rfl, .refl _, .refl s⟩

theorem Answered.trans (h : Answered s u) (k : Answered u v) : Answered s v :=
  ⟨by rw [k.panel, h.panel], k.pins.trans h.pins, k.load.trans h.load, k.state.trans h.state,
    k.presses.trans h.presses, k.link.trans h.link, k.calm.trans h.calm, fun n e => k.causes n (h.causes n e),
    h.headers.trans k.headers⟩

theorem removeEntries_answered (res : ResultCode) (p : Entry → Bool) (s : State) :
    Answered s (removeEntries res p s) := by
  obtain ⟨-, -, link, -, power, -, wave, pins, -⟩ := removeEntries_keeps res p s
  obtain ⟨state, presses, -⟩ := endEntries_rest res (s.panel.pending.filter p)
    (s.modPanel fun q => { q with pending := q.pending.filter fun e => !p e })
  exact ⟨by rw [removeEntries_panel], pins, by rw [wave], state, presses, link, by rw [power],
    (removeEntries_passes (c := .rampTick) res p .start).causesKept rfl nofun nofun,
    (removeEntries_passes res p .start).headersKept⟩

/-- A HALTED engine's list is flushed (06 R120). -/
theorem flushHalted_eq (idle : s.turn.state ≠ .offering) :
    flushHalted s = flushList .panelHalted { s with panel := { s.panel with flushed := true } } := by
  have state := (removeEntries_answered .panelHalted (fun _ => true)
    { s with panel := { s.panel with flushed := true } }).state
  exact tryOffer_other fun offering => idle (state.symm.trans offering)

theorem flushHalted_answered (idle : s.turn.state ≠ .offering) : Answered s (flushHalted s) := by
  rw [flushHalted_eq idle]
  have begun : Answered s { s with panel := { s.panel with flushed := true } } :=
    ⟨rfl, rfl, rfl, rfl, rfl, rfl, rfl, .refl _, .of_bus rfl⟩
  exact begun.trans (removeEntries_answered ..)

theorem flushHalted_panel (idle : s.turn.state ≠ .offering) :
    (flushHalted s).panel.pending = [] ∧ (flushHalted s).panel.flushed = true := by
  rw [flushHalted_eq idle, flushList, removeEntries_panel]
  exact ⟨by simp, rfl⟩

theorem flushHalted_waits (idle : s.turn.state ≠ .offering) (mem : e ∈ s.panel.pending) (src : e.src = .record a)
    (writable : Writable .display a s) :
    (doneAccesses .display a .panelHalted e.detail 0).Sublist (flushHalted s).bus.queue := by
  rw [flushHalted_eq idle]
  exact removeEntries_waits (p := fun _ => true) mem rfl src (writable.congr (by rfl))

theorem wakingFromDoze_answered (r : WakeReason) (s : State) : Answered s (wakingFromDoze r s) := by
  rw [wakingFromDoze_eq]
  exact ⟨rfl, rfl, rfl, rfl, rfl, rfl, rfl, fun n e => by simp [BitVec.getLsbD_or, e], .of_bus rfl⟩

/-! ## The answers to a HALTED engine -/

/-- What the Power Controller does once the engine is HALTED (03 R64). -/
def powerAnswer (u : State) : State :=
  match u.power.state with
  | .dozeEntry   => wakeEvent .panelHalted (flushHalted u)
  | .dozeTurning => wakeEvent .panelHalted u
  | .deepEntry   => flushHalted u
  | .run         => u
  | .waking      => u
  | .dozeQuiet   => u
  | .deep        => u

/-- What a link in DETACHING does once the engine is HALTED (06 R120). -/
def linkAnswer (u : State) : State := if u.link.state = .detaching then flushRecords u else u

theorem railFault_eq (s : State) : railFault s = tryOffer (linkAnswer (powerAnswer (haltEngine s))) := rfl

theorem linkAnswer_answered (s : State) : Answered s (linkAnswer s) := by
  unfold linkAnswer
  split
  · exact removeEntries_answered ..
  · exact .refl s

theorem linkAnswer_rest (s : State) : (linkAnswer s).power = s.power ∧ (linkAnswer s).panel.flushed = s.panel.flushed
    ∧ (linkAnswer s).regs.hostwake = s.regs.hostwake ∧ (s.panel.pending = [] → (linkAnswer s).panel.pending = []) := by
  unfold linkAnswer
  split
  · obtain ⟨-, -, -, -, power, -⟩ := flushRecords_keeps s
    refine ⟨power, ?_, (endEntries_rest ..).2.2, fun empty => ?_⟩
    · rw [flushRecords, removeEntries_panel]
    · rw [flushRecords, removeEntries_panel, empty]
      rfl
  · exact ⟨rfl, rfl, rfl, id⟩

theorem powerAnswer_dozeEntry (h : s.power.state = .dozeEntry) (calm : s.power.descentPending = false) :
    powerAnswer s = wakingFromDoze .panelHalted (flushHalted s) := by
  obtain ⟨-, -, -, -, power, -⟩ := flushHalted_keeps s
  have answer : powerAnswer s = wakeEvent .panelHalted (flushHalted s) := by
    unfold powerAnswer
    rw [h]
  rw [answer, wakeEvent_doze (r := .panelHalted) _ (.inl (by rw [power, h])) (by rw [power, calm]) nofun, wakeFromDoze_eq, if_neg (by simp)]

theorem powerAnswer_dozeTurning (h : s.power.state = .dozeTurning) (calm : s.power.descentPending = false) :
    powerAnswer s = wakingFromDoze .panelHalted s := by
  have answer : powerAnswer s = wakeEvent .panelHalted s := by
    unfold powerAnswer
    rw [h]
  rw [answer, wakeEvent_doze (r := .panelHalted) _ (.inr (.inr h)) calm nofun, wakeFromDoze_eq, if_neg (by simp)]

theorem powerAnswer_deepEntry (h : s.power.state = .deepEntry) : powerAnswer s = flushHalted s := by
  unfold powerAnswer
  rw [h]

theorem powerAnswer_other (h : s.power.state ≠ .dozeEntry) (h' : s.power.state ≠ .dozeTurning)
    (h'' : s.power.state ≠ .deepEntry) : powerAnswer s = s := by
  unfold powerAnswer
  split <;> simp_all

theorem powerAnswer_answered (idle : s.turn.state ≠ .offering) (calm : s.power.descentPending = false) :
    Answered s (powerAnswer s) := by
  by_cases entry : s.power.state = .dozeEntry
  · rw [powerAnswer_dozeEntry entry calm]
    exact (flushHalted_answered idle).trans (wakingFromDoze_answered ..)
  by_cases turning : s.power.state = .dozeTurning
  · rw [powerAnswer_dozeTurning turning calm]
    exact wakingFromDoze_answered ..
  by_cases deep : s.power.state = .deepEntry
  · rw [powerAnswer_deepEntry deep]
    exact flushHalted_answered idle
  · rw [powerAnswer_other entry turning deep]
    exact .refl s

/-! ## The engine enters HALTED -/

/-- The rails and the timers stop, and a scan is abandoned (06 R111). -/
def haltBegun (s : State) : State :=
  wmDrop .frameScan
    { s with panel := { s.panel with engine := .halted, risingTimer := false, holdTimer := none, scan := false } }

/-- The slots that can be are aborted (06 R107, R111). -/
def haltAborted (s : State) : State :=
  abortSlots .railFault (s.panel.slotsWhere Slot.abortable) (haltBegun s)

theorem haltAborted_kept (s : State) : AbortKept (haltBegun s) (haltAborted s) := abortSlots_kept ..

theorem endListWaitLoad_panel (s : State) : (endListWaitLoad s).panel = s.panel := by
  obtain ⟨-, -, -, -, -, -, panel, -⟩ := endListWaitLoad_keeps s
  exact panel

theorem haltEngine_eq (stops : s.panel.stops = []) :
    haltEngine s = setCause panelHaltedCause (endListWaitLoad (haltAborted s)) := by
  refine effectStops_none ?_
  change (endListWaitLoad (haltAborted s)).panel.stops = []
  rw [endListWaitLoad_panel, (haltAborted_kept s).panel]
  exact stops

/-- A HALTED engine, the answers to it apart (06 R111). -/
structure Halted (s u : State) : Prop where
  panel   : u.panel = { s.panel with
    engine := .halted, risingTimer := false, holdTimer := none, scan := false, slots := u.panel.slots
    copyQueue := u.panel.copyQueue, passQueue := u.panel.passQueue, uncertain := u.panel.uncertain
    known := u.panel.known }
  pins    : u.pins = s.pins
  power   : u.power = s.power
  link    : u.link.state = s.link.state
  state   : u.turn.state = s.turn.state
  presses : u.turn.queue = s.turn.queue
  cause   : u.regs.cause &&& causeBit panelHaltedCause = causeBit panelHaltedCause
  opens   : OpenKept s u

theorem endListWaitLoad_opens (s : State) : OpenKept s (endListWaitLoad s) := by
  unfold endListWaitLoad
  split
  · unfold endLoad
    split
    · exact .of_link rfl
    · exact fun i a writable => completeRecord_opens _ _ _ _ _ _ i a (writable.congr rfl)
  · exact .of_link rfl

theorem causeBit_held (k : Cause) (x : BitVec 13) : (x ||| causeBit k) &&& causeBit k = causeBit k := by
  ext i
  simp +contextual

theorem haltEngine_halted (stops : s.panel.stops = []) : Halted s (haltEngine s) := by
  have kept := haltAborted_kept s
  obtain ⟨-, -, link, -, power, -, panel, pins, -, turn, -⟩ := endListWaitLoad_keeps (haltAborted s)
  have whole : (setCause panelHaltedCause (endListWaitLoad (haltAborted s))).panel = (haltAborted s).panel := panel
  rw [haltEngine_eq stops]
  refine ⟨?_, ?_, ?_, ?_, ?_, ?_, causeBit_held .., ?_⟩
  · rw [whole]
    exact kept.panel
  · exact pins.trans kept.pins
  · exact power.trans kept.power
  · exact link.trans (by rw [kept.link]; rfl)
  · exact (congrArg Turn.state turn).trans kept.state
  · exact (congrArg Turn.queue turn).trans kept.presses
  · exact (OpenKept.of_link kept.link).trans (endListWaitLoad_opens (haltAborted s))

/-! ## The slots and the regions of a HALTED engine, and a load that waits for the list -/

theorem Slot.abortable_iff (sl : Slot) :
    sl.abortable = true ↔ sl.state = .copying ∨ sl.state = .ready ∨ sl.state = .running := by
  simp [Slot.abortable, or_assoc]

theorem haltEngine_panel (stops : s.panel.stops = []) : (haltEngine s).panel = (haltAborted s).panel := by
  rw [haltEngine_eq stops]
  exact endListWaitLoad_panel (haltAborted s)

theorem haltEngine_slots (stops : s.panel.stops = []) (wf : sparseWf s.panel.slots = true) (n : Nat) :
    sparseGet n (haltEngine s).panel.slots = (sparseGet n s.panel.slots).map fun sl =>
      if sl.state = .copying ∨ sl.state = .ready ∨ sl.state = .running then
        { sl with state := .clearing, abort := .railFault }
      else sl := by
  rw [haltEngine_panel stops, haltAborted, abortSlots_slots]
  change (sparseGet n s.panel.slots).map _ = _
  cases slot : sparseGet n s.panel.slots with
  | none => rfl
  | some sl =>
    refine congrArg some ?_
    have listed := mem_slotsWhere wf Slot.abortable slot
    dsimp only
    by_cases abortable : sl.abortable = true
    · rw [if_pos ⟨listed.mpr abortable, abortable⟩, if_pos (sl.abortable_iff.mp abortable)]
      rfl
    · rw [if_neg (fun h => abortable h.2), if_neg (fun h => abortable (sl.abortable_iff.mpr h))]

theorem haltEngine_regions (stops : s.panel.stops = []) (calm : ∀ x, x ∈ s.panel.slots → x.2.state ≠ .running) :
    SameRegions s.panel (haltEngine s).panel := by
  rw [haltEngine_panel stops]
  exact abortSlots_regions _ (haltBegun s) fun m sl slot => calm (m, sl) (mem_of_sparseGet slot)

theorem SameRegions.addUncertain {p q : Panel} (h : SameRegions p q) (r : Rect) :
    SameRegions (p.addUncertain r) (q.addUncertain r) := by
  obtain ⟨uncertain, known⟩ := h
  unfold Panel.addUncertain
  rw [uncertain, known]
  split
  · exact ⟨uncertain, known⟩
  · split
    · exact ⟨rfl, rfl⟩
    · exact ⟨rfl, rfl⟩

theorem haltEngine_adds (stops : s.panel.stops = []) (only : s.panel.slots = [(n, sl)]) (running : sl.state = .running) :
    SameRegions (s.panel.addUncertain sl.eff) (haltEngine s).panel := by
  have listed : s.panel.slotsWhere Slot.abortable = [n] := by
    simp [Panel.slotsWhere, only, Slot.abortable, running]
  have slot : sparseGet n (haltBegun s).panel.slots = some sl := by
    change sparseGet n s.panel.slots = some sl
    rw [only]
    exact if_pos rfl
  have begun : SameRegions (s.panel.addUncertain sl.eff) ((haltBegun s).panel.addUncertain sl.eff) :=
    SameRegions.addUncertain (p := s.panel) (q := (haltBegun s).panel) ⟨rfl, rfl⟩ sl.eff
  rw [haltEngine_panel stops, haltAborted, listed]
  obtain ⟨uncertain, known⟩ := abortSlot_adds (res := .railFault) slot running
  exact ⟨uncertain.trans begun.1, known.trans begun.2⟩

theorem haltEngine_endsLoad {l : Load} (stops : s.panel.stops = []) (load : s.wave.load = some l)
    (stage : l.stage = .listWait) (writable : Writable .display l.addr s) : (haltEngine s).wave.load = none
      ∧ (doneAccesses .display l.addr .panelHalted l.detail l.progress).Sublist (haltEngine s).bus.queue := by
  have kept := haltAborted_kept s
  have load' : (haltAborted s).wave.load = some l := kept.load.trans load
  have ends : endListWaitLoad (haltAborted s) = endLoad .panelHalted (haltAborted s) := by
    unfold endListWaitLoad
    exact if_pos (by simp [load', stage])
  rw [haltEngine_eq stops, ends]
  refine ⟨?_, endLoad_waits load' (writable.congr kept.link)⟩
  obtain ⟨-, -, -, -, -, -, wave, -⟩ := completeRecord_keeps .display l.addr .panelHalted l.detail l.progress
    ((haltAborted s).modWave fun v => { v with load := none })
  change (endLoad .panelHalted (haltAborted s)).wave.load = none
  rw [endLoad_eq load', wave]
  rfl

/-! ## A rail fault -/

theorem CausesKept.held {r r' : Regs} {k : Cause} (h : CausesKept r r') (set : r.cause &&& causeBit k = causeBit k) :
    r'.cause &&& causeBit k = causeBit k := by
  refine BitVec.eq_of_getLsbD_eq fun i _ => ?_
  have here := congrArg (·.getLsbD i) set
  simp only [BitVec.getLsbD_and] at here ⊢
  cases bit : (causeBit k).getLsbD i with
  | false => exact Bool.and_false _
  | true =>
    rw [bit, Bool.and_true] at here
    rw [h i here, Bool.true_and]

/-- The commands at which the engine enters HALTED (06 R111). -/
def RailsFail (c : Instr) (s : State) : Prop :=
  (c = .railGoodDeassert ∧ (s.panel.engine = .driving ∨ s.panel.engine = .holding))
    ∨ (c = .risingTimerExpiry ∧ s.panel.engine = .rising ∧ s.panel.risingTimer = true)

/-- RAIL_GOOD as the fault finds it. -/
def railsFound (c : Instr) (s : State) : State :=
  { s with pins := { s.pins with railGood := s.pins.railGood && c != .railGoodDeassert } }

/-- The engine once it is HALTED and answered (06 R111, R120; 03 R64). -/
def faultAnswered (c : Instr) (s : State) : State := linkAnswer (powerAnswer (haltEngine (railsFound c s)))

theorem exec_railFault (fails : RailsFail c s) : exec c s = commit s (settleAll (railFault (railsFound c s))) := by
  rcases fails with ⟨rfl, engine⟩ | ⟨rfl, engine⟩
  · have found : railsFound .railGoodDeassert s = s.modPins fun p => { p with railGood := false } := by
      simp [railsFound, State.modPins]
    rw [found]
    exact if_pos engine
  · have other : (Instr.risingTimerExpiry != .railGoodDeassert) = true := by decide
    have found : railsFound .risingTimerExpiry s = s := by
      simp [railsFound, other]
    rw [found]
    exact if_pos engine

section
variable (stops : s.panel.stops = []) (idle : s.turn.state = .idle) (presses : s.turn.queue = [])
  (calm : s.power.descentPending = false)

include stops idle calm in
theorem faultAnswered_answered : Answered (haltEngine (railsFound c s)) (faultAnswered c s) := by
  have halted := haltEngine_halted (s := railsFound c s) stops
  have answered := powerAnswer_answered (s := haltEngine (railsFound c s)) (by rw [halted.state]; exact idle ▸ nofun)
    (by rw [halted.power]; exact calm)
  exact answered.trans (linkAnswer_answered _)

include stops idle presses calm in
theorem exec_faultAnswered (fails : RailsFail c s) : exec c s = commit s (faultAnswered c s) := by
  have halted := haltEngine_halted (s := railsFound c s) stops
  have answered := faultAnswered_answered (c := c) stops idle calm
  have idle' : (faultAnswered c s).turn.state ≠ .offering := by
    rw [answered.state, halted.state]
    exact idle ▸ nofun
  have engine : (faultAnswered c s).panel.engine = .halted := by
    rw [answered.panel, halted.panel]
  have fault : railFault (railsFound c s) = faultAnswered c s := by
    rw [railFault_eq]
    exact tryOffer_other idle'
  rw [exec_railFault fails, fault]
  refine congrArg (commit s) (settleAll_started ?_ (evaluateStarts_barred (startsMade_halted engine)) idle' ?_)
  · rw [answered.calm, halted.power]
    exact calm
  · rw [answered.presses, halted.presses]
    exact presses

include stops in
theorem faultAnswered_awake (awake : s.power.state = .run ∨ s.power.state = .waking) (link : s.link.state ≠ .detaching) :
    (faultAnswered c s).power = s.power ∧ (faultAnswered c s).panel.pending = s.panel.pending := by
  have halted := haltEngine_halted (s := railsFound c s) stops
  have power : (haltEngine (railsFound c s)).power.state = s.power.state := congrArg Power.state halted.power
  have answer : powerAnswer (haltEngine (railsFound c s)) = haltEngine (railsFound c s) := by
    refine powerAnswer_other ?_ ?_ ?_ <;> (rw [power]; rcases awake with h | h <;> simp [h])
  have linked : faultAnswered c s = haltEngine (railsFound c s) := by
    rw [faultAnswered, answer]
    exact if_neg (by rw [halted.link]; exact link)
  rw [linked]
  exact ⟨halted.power, by rw [halted.panel]; rfl⟩

include stops calm in
theorem faultAnswered_dozes (doze : s.power.state = .dozeEntry ∨ s.power.state = .dozeTurning) :
    (faultAnswered c s).power.state = .waking ∧ (faultAnswered c s).power.wakeReason = .panelHalted
      ∧ (faultAnswered c s).regs.hostwake = true
      ∧ (faultAnswered c s).regs.cause &&& causeBit wakeCause = causeBit wakeCause := by
  have halted := haltEngine_halted (s := railsFound c s) stops
  have power : (haltEngine (railsFound c s)).power.state = s.power.state := congrArg Power.state halted.power
  have calm' : (haltEngine (railsFound c s)).power.descentPending = false := by rw [halted.power]; exact calm
  obtain ⟨w, woken⟩ : ∃ w, powerAnswer (haltEngine (railsFound c s)) = wakingFromDoze .panelHalted w := by
    rcases doze with entry | turning
    · exact ⟨_, powerAnswer_dozeEntry (power.trans entry) calm'⟩
    · exact ⟨_, powerAnswer_dozeTurning (power.trans turning) calm'⟩
  obtain ⟨answered, -, hostwake, -⟩ := linkAnswer_rest (wakingFromDoze .panelHalted w)
  have causes := (linkAnswer_answered (wakingFromDoze .panelHalted w)).causes
  rw [faultAnswered, woken, answered, hostwake]
  rw [wakingFromDoze_eq] at causes ⊢
  exact ⟨rfl, rfl, rfl, causes.held (causeBit_held ..)⟩

include stops calm idle in
theorem faultAnswered_flushes (sleeps : s.power.state = .dozeEntry ∨ s.power.state = .deepEntry) :
    (faultAnswered c s).panel.pending = [] ∧ ∀ e a, e ∈ s.panel.pending → e.src = .record a → Writable .display a s →
      (doneAccesses .display a .panelHalted e.detail 0).Sublist (faultAnswered c s).bus.queue := by
  have halted := haltEngine_halted (s := railsFound c s) stops
  have power : (haltEngine (railsFound c s)).power.state = s.power.state := congrArg Power.state halted.power
  have calm' : (haltEngine (railsFound c s)).power.descentPending = false := by rw [halted.power]; exact calm
  have idle' : (haltEngine (railsFound c s)).turn.state ≠ .offering := by rw [halted.state]; exact idle ▸ nofun
  obtain ⟨w, flushed, answer, pending⟩ : ∃ w, w = flushHalted (haltEngine (railsFound c s))
      ∧ Answered w (powerAnswer (haltEngine (railsFound c s)))
      ∧ (powerAnswer (haltEngine (railsFound c s))).panel.pending = w.panel.pending := by
    refine ⟨_, rfl, ?_⟩
    rcases sleeps with entry | deep
    · rw [powerAnswer_dozeEntry (power.trans entry) calm']
      exact ⟨wakingFromDoze_answered .., by rw [wakingFromDoze_eq]⟩
    · rw [powerAnswer_deepEntry (power.trans deep)]
      exact ⟨.refl _, rfl⟩
  obtain ⟨-, -, -, empty⟩ := linkAnswer_rest (powerAnswer (haltEngine (railsFound c s)))
  refine ⟨empty (by rw [pending, flushed]; exact (flushHalted_panel idle').1), fun e a mem src writable => ?_⟩
  have mem' : e ∈ (haltEngine (railsFound c s)).panel.pending := by
    rw [halted.panel]
    exact mem
  have waits := flushHalted_waits idle' mem' src (halted.opens _ _ (writable.congr rfl))
  rw [← flushed] at waits
  exact (answer.headers.trans (linkAnswer_answered _).headers).waits waits

include stops idle in
theorem faultAnswered_deepEntry (deep : s.power.state = .deepEntry) :
    (faultAnswered c s).power = s.power ∧ (faultAnswered c s).panel.flushed = true := by
  have halted := haltEngine_halted (s := railsFound c s) stops
  have power : (haltEngine (railsFound c s)).power.state = s.power.state := congrArg Power.state halted.power
  have idle' : (haltEngine (railsFound c s)).turn.state ≠ .offering := by rw [halted.state]; exact idle ▸ nofun
  obtain ⟨answered, flushed, -⟩ := linkAnswer_rest (powerAnswer (haltEngine (railsFound c s)))
  rw [faultAnswered, answered, flushed, powerAnswer_deepEntry (power.trans deep)]
  obtain ⟨-, -, -, -, kept, -⟩ := flushHalted_keeps (haltEngine (railsFound c s))
  exact ⟨kept.trans halted.power, (flushHalted_panel idle').2⟩

/-- What a fault does to the engine, whatever answers it. -/
structure FaultOutcome (c : Instr) (s t : State) : Prop where
  panel   : t.panel = { (haltEngine (railsFound c s)).panel with pending := t.panel.pending, flushed := t.panel.flushed }
  pins    : t.pins = (railsFound c s).pins
  load    : t.wave.load = (haltEngine (railsFound c s)).wave.load
  cause   : t.regs.cause &&& causeBit panelHaltedCause = causeBit panelHaltedCause
  headers : HeaderKept (haltEngine (railsFound c s)) t

include stops idle calm in
theorem faultAnswered_outcome : FaultOutcome c s (faultAnswered c s) := by
  have halted := haltEngine_halted (s := railsFound c s) stops
  have answered := faultAnswered_answered (c := c) stops idle calm
  exact ⟨answered.panel, answered.pins.trans halted.pins, answered.load, answered.causes.held halted.cause,
    answered.headers⟩

end

/-- Settles O38: without an entry, an offer or a press the engine alone moves; a fault halts the engine, aborts its
slots, and is then answered by the power state and by the link. -/
theorem railsMoveTheEngine : Obligations.RailsMoveTheEngine := by
  refine ⟨fun s quiet => ⟨fun rising => exec_railGoodAssert_drives rising quiet,
    fun rising => exec_railGoodAssert_holds rising quiet, exec_holdTimerExpiry,
    fun falling runs => exec_fallingTimerExpiry falling runs quiet⟩, ?_⟩
  intro s c fails stops wf idle presses calm
  have halted := haltEngine_halted (s := railsFound c s) stops
  have run := exec_faultAnswered stops idle presses calm fails
  have out := faultAnswered_outcome (c := c) stops idle calm
  have awake := faultAnswered_awake (c := c) stops
  have dozes := faultAnswered_dozes (c := c) stops calm
  have flushes := faultAnswered_flushes (c := c) stops idle calm
  have deep := faultAnswered_deepEntry (c := c) stops idle
  generalize faultAnswered c s = u at run out awake dozes flushes deep
  have regions : SameRegions (haltEngine (railsFound c s)).panel u.panel := by
    constructor <;> rw [out.panel]
  have completing {a : Word} {res : ResultCode} {detail : Word} {progress : Nat}
      (waits : (doneAccesses .display a res detail progress).Sublist u.bus.queue) :
      Completing (settlePort s u) .display a res detail progress := completing_settled s waits
  refine ⟨_, run, ?_⟩
  rw [settlePort_eq] at completing ⊢
  refine ⟨?_, ?_, ?_, ?_, congrArg Pins.railGood out.pins, out.cause, fun n => ?_, fun still => ?_,
    fun n sl only running => ?_, fun l load stage writable => ?_, awake, dozes, fun sleeps => ?_, deep⟩
  iterate 4
    dsimp only
    rw [out.panel, halted.panel]
  · dsimp only
    rw [out.panel]
    exact haltEngine_slots (s := railsFound c s) stops wf n
  · obtain ⟨uncertain, known⟩ := haltEngine_regions (s := railsFound c s) stops still
    exact ⟨regions.1.trans uncertain, regions.2.trans known⟩
  · obtain ⟨uncertain, known⟩ := haltEngine_adds (s := railsFound c s) stops only running
    exact addUncertain_regions s.panel sl.eff ⟨regions.1.trans uncertain, regions.2.trans known⟩
  · obtain ⟨ended, waits⟩ := haltEngine_endsLoad (s := railsFound c s) stops load stage (writable.congr rfl)
    exact ⟨out.load.trans ended, completing (out.headers.waits waits)⟩
  · obtain ⟨pending, waits⟩ := flushes sleeps
    exact ⟨pending, fun e a mem src writable => completing (waits e a mem src writable)⟩

end Sys2Proof.Machine
end

section
/-!
PROOFS. PANEL_STOP, and the effect of an only stop, at once or at a tick (06 R107, R113, R114, R116).
-/

namespace Sys2Proof.Machine

open Sys2Proof

variable {c : Instr} {s t u v : State} {n : Nat} {sl : Slot} {a : Word} {e : Entry} {st : Stop} {r : RecordCopy}
  {run : Slot → Slot}

/-! ## An only stop -/

/-- The state once an only stop has taken effect, its completion apart (06 R114). -/
def stopTaken (st : Stop) (s : State) : State :=
  { effectStop st s with panel := { (effectStop st s).panel with stops := [st.taken s.panel] } }

theorem effectStops_only (stops : s.panel.stops = [st]) (awaits : st.effect = false) :
    effectStops s = completeStops (stopTaken st s) := by
  rw [effectStops, stops]
  refine congrArg completeStops ?_
  exact if_neg (by simp [awaits])

/-- The state without stops. -/
def stopsEnded (s : State) : State := { s with panel := { s.panel with stops := [] } }

theorem completeStops_eq (s : State) : completeStops s =
    (s.panel.stops.filter fun st => st.effect && st.waits.isEmpty).foldl
      (fun u st => completeRecord .display st.addr .ok st.detail st.stopped u)
      { s with panel := { s.panel with
        stops := s.panel.stops.filter fun st => !(st.effect && st.waits.isEmpty) } } := rfl

theorem completeStops_done (stops : s.panel.stops = [st]) (effect : st.effect = true) (waits : st.waits = []) :
    completeStops s = completeRecord .display st.addr .ok st.detail st.stopped (stopsEnded s) := by
  have ended : [st].filter (fun st => st.effect && st.waits.isEmpty) = [st] := by simp [effect, waits]
  have left : [st].filter (fun st => !(st.effect && st.waits.isEmpty)) = [] := by simp [effect, waits]
  rw [completeStops_eq, stops, ended, left]
  rfl

theorem completeStops_waits (stops : s.panel.stops = [st]) (waits : st.waits ≠ []) : completeStops s = s := by
  have ended : [st].filter (fun st => st.effect && st.waits.isEmpty) = [] := by simp [waits]
  have left : [st].filter (fun st => !(st.effect && st.waits.isEmpty)) = [st] := by simp [waits]
  rw [completeStops_eq, stops, ended, left]
  change { s with panel := { s.panel with stops := [st] } } = s
  rw [← stops]

/-! ## What an only stop stops -/

/-- A slot is stopped where the stop marks it and it can still be (06 R114). -/
def Stop.stops (st : Stop) (sl : Slot) : Bool := st.marks.contains sl.id && sl.abortable

/-- The state from which a stop's slots are aborted: its entries have ended. -/
def entriesStopped (st : Stop) (s : State) : State := removeEntries .stopped (fun e => st.marks.contains e.id) s

theorem entriesStopped_panel (st : Stop) (s : State) : (entriesStopped st s).panel =
    { s.panel with pending := s.panel.pending.filter fun e => !st.marks.contains e.id } := removeEntries_panel ..

theorem effectStop_eq (st : Stop) (s : State) : effectStop st s =
    abortSlots .stopped ((s.panel.slots.filter fun x => st.stops x.2).map (·.1)) (entriesStopped st s) := rfl

theorem effectStop_kept (st : Stop) (s : State) : AbortKept (entriesStopped st s) (effectStop st s) := abortSlots_kept ..

theorem effectStop_slots (wf : sparseWf s.panel.slots = true) (n : Nat) :
    sparseGet n (effectStop st s).panel.slots =
      (sparseGet n s.panel.slots).map fun sl => if st.stops sl = true then sl.aborted .stopped else sl := by
  rw [effectStop_eq, abortSlots_slots, entriesStopped_panel]
  change (sparseGet n s.panel.slots).map _ = _
  cases slot : sparseGet n s.panel.slots with
  | none => rfl
  | some sl =>
    refine congrArg some ?_
    have listed := mem_slotsWhere wf st.stops slot
    dsimp only
    by_cases stopped : st.stops sl = true
    · rw [if_pos ⟨listed.mpr stopped, (Bool.and_eq_true_iff.mp stopped).2⟩, if_pos stopped]
    · rw [if_neg (fun h => stopped (listed.mp h.1)), if_neg stopped]

theorem effectStop_regions (still : ∀ x, x ∈ s.panel.slots → x.2.state ≠ .running) :
    SameRegions s.panel (effectStop st s).panel := by
  have ended : SameRegions s.panel (entriesStopped st s).panel := by
    constructor <;> rw [entriesStopped_panel]
  obtain ⟨uncertain, known⟩ := abortSlots_regions (res := .stopped)
    ((s.panel.slots.filter fun x => st.stops x.2).map (·.1)) (entriesStopped st s) fun m sl slot => by
      rw [entriesStopped_panel] at slot
      exact still (m, sl) (mem_of_sparseGet slot)
  exact ⟨uncertain.trans ended.1, known.trans ended.2⟩

theorem effectStop_adds (only : s.panel.slots = [(n, sl)]) (running : sl.state = .running) (stops : st.stops sl = true) :
    SameRegions (s.panel.addUncertain sl.eff) (effectStop st s).panel := by
  have ended : SameRegions s.panel (entriesStopped st s).panel := by
    constructor <;> rw [entriesStopped_panel]
  have slot : sparseGet n (entriesStopped st s).panel.slots = some sl := by
    rw [entriesStopped_panel]
    change sparseGet n s.panel.slots = some sl
    rw [only]
    exact if_pos rfl
  have listed : (s.panel.slots.filter fun x => st.stops x.2).map (·.1) = [n] := by
    simp [only, stops]
  rw [effectStop_eq, listed]
  obtain ⟨uncertain, known⟩ := abortSlot_adds (res := .stopped) slot running
  obtain ⟨uncertain', known'⟩ := ended.addUncertain sl.eff
  exact ⟨uncertain.trans uncertain', known.trans known'⟩

/-! ## The outcome of an only stop -/

/-- What an only stop leaves, `run` being what a frame that starts makes of the slots (06 R105, R107, R113, R114,
R116). -/
structure Stopped (st : Stop) (run : Slot → Slot) (s u : State) : Prop where
  pending : u.panel.pending = []
  entries : ∀ e a, e ∈ s.panel.pending → e.src = .record a → Writable .display a s →
    (doneAccesses .display a .stopped e.detail 0).Sublist u.bus.queue
  slots   : ∀ n, sparseGet n u.panel.slots =
    (sparseGet n s.panel.slots).map fun sl => run (if st.stops sl = true then sl.aborted .stopped else sl)
  still   : (∀ x, x ∈ s.panel.slots → x.2.state ≠ .running) → SameRegions s.panel u.panel
  adds    : ∀ n sl, s.panel.slots = [(n, sl)] → sl.state = .running → st.stops sl = true →
    SameRegions (s.panel.addUncertain sl.eff) u.panel
  done    : (∀ x, x ∈ s.panel.slots → st.stops x.2 = false) → u.panel.stops = []
    ∧ (Writable .display st.addr s →
        (doneAccesses .display st.addr .ok st.detail s.panel.pending.length).Sublist u.bus.queue)
  waits   : (∃ x, x ∈ s.panel.slots ∧ st.stops x.2 = true) → u.panel.stops = [st.taken s.panel]
  state   : u.turn.state = s.turn.state
  presses : u.turn.queue = s.turn.queue
  calm    : u.power.descentPending = s.power.descentPending

/-- The slots a stop waits for, and the entries and slots it counts. -/
theorem Stop.taken_eq (st : Stop) {p : Panel} (marked : ∀ e, e ∈ p.pending → st.marks.contains e.id = true) :
    st.taken p = { st with
      effect := true, marks := []
      stopped := p.pending.length + (p.slots.filter fun x => st.stops x.2).length
      waits := (p.slots.filter fun x => st.stops x.2).map fun x => x.2.id } := by
  have entries : p.markedEntries st = p.pending := List.filter_eq_self.mpr marked
  rw [Stop.taken, entries]
  rfl

theorem effectStops_stopped (stops : s.panel.stops = [st]) (awaits : st.effect = false)
    (wf : sparseWf s.panel.slots = true) (marked : ∀ e, e ∈ s.panel.pending → st.marks.contains e.id = true) :
    Stopped st id s (effectStops s) := by
  have ended := removeEntries_answered .stopped (fun e => st.marks.contains e.id) s
  have kept := effectStop_kept st s
  have taken := st.taken_eq marked
  have completed : SlotsKept (stopTaken st s) (effectStops s) := by
    rw [effectStops_only stops awaits]
    exact completeStops_slots _
  have regions : SameRegions (effectStop st s).panel (effectStops s).panel := ⟨completed.uncertain, completed.known⟩
  refine ⟨?_, fun e a mem src writable => ?_, fun n => ?_, fun still => ?_, fun n sl only running stopped => ?_,
    fun spared => ?_, fun ⟨x, mem, stopped⟩ => ?_, ?_, ?_, ?_⟩
  · rw [completed.pending]
    change (effectStop st s).panel.pending = []
    rw [kept.panel, entriesStopped_panel]
    exact List.filter_eq_nil_iff.mpr fun e mem => by simpa using marked e mem
  · have waits := removeEntries_waits (result := .stopped) (p := fun e => st.marks.contains e.id) mem (marked e mem) src
      writable
    have headers : HeaderKept (effectStop st s) (effectStops s) := completed.headers
    exact (kept.headers.trans headers).waits waits
  · rw [completed.slots]
    exact effectStop_slots wf n
  · obtain ⟨uncertain, known⟩ := effectStop_regions (st := st) still
    exact ⟨regions.1.trans uncertain, regions.2.trans known⟩
  · obtain ⟨uncertain, known⟩ := effectStop_adds only running stopped
    exact ⟨regions.1.trans uncertain, regions.2.trans known⟩
  · have none : s.panel.slots.filter (fun x => st.stops x.2) = [] :=
      List.filter_eq_nil_iff.mpr fun x mem => by simp [spared x mem]
    rw [none] at taken
    have eq : effectStops s =
        completeRecord .display st.addr .ok st.detail s.panel.pending.length (stopsEnded (stopTaken st s)) := by
      rw [effectStops_only stops awaits, completeStops_done rfl (by rw [taken]) (by rw [taken]; rfl), taken]
      rfl
    rw [eq]
    refine ⟨?_, fun writable => completeRecord_waits ?_ _ _ _⟩
    · obtain ⟨-, -, -, -, -, -, -, panel, -⟩ := completeRecord_keeps .display st.addr .ok st.detail
        s.panel.pending.length (stopsEnded (stopTaken st s))
      rw [panel]
      rfl
    · have opened := removeEntries_opens .stopped (fun e => st.marks.contains e.id) s _ _ writable
      exact (opened.congr kept.link).congr rfl
  · have waits : (st.taken s.panel).waits ≠ [] := by
      rw [taken]
      exact List.ne_nil_of_mem (List.mem_map.mpr ⟨x, List.mem_filter.mpr ⟨mem, stopped⟩, rfl⟩)
    rw [effectStops_only stops awaits, completeStops_waits rfl waits]
    rfl
  · rw [completed.turn]
    exact kept.state.trans ended.state
  · rw [completed.turn]
    exact kept.presses.trans ended.presses
  · rw [completed.power]
    exact (congrArg Power.descentPending kept.power).trans ended.calm

/-! ## The frame that starts behind a stop -/

theorem Slot.run_aborted (res : ResultCode) (sl : Slot) : (sl.aborted res).run = sl.aborted res := rfl

theorem startFrame_eq (s : State) : startFrame s = { s with
    wm := (startFrame s).wm
    panel := { s.panel with slots := sparseMap (fun _ sl => sl.run) s.panel.slots, scan := (startFrame s).panel.scan } } := by
  unfold startFrame
  dsimp only
  split <;> rfl

theorem Stopped.started (h : Stopped st id s u) : Stopped st Slot.run s (startFrame u) := by
  obtain ⟨pending, entries, slots, still, adds, done, waits, state, presses, calm⟩ := h
  rw [startFrame_eq]
  refine ⟨pending, entries, fun n => ?_, still, adds, done, waits, state, presses, calm⟩
  dsimp only
  rw [sparseGet_map, slots, Option.map_map]
  rfl

/-- With no entry left, no offer and no press, the end of a stop's step changes nothing. -/
theorem Stopped.settled (h : Stopped st run s u) (idle : s.turn.state = .idle) (presses : s.turn.queue = [])
    (calm : s.power.descentPending = false) : settleAll u = u :=
  settleAll_quiet ⟨h.pending, h.state.trans idle, h.presses.trans presses, h.calm.trans calm⟩

/-! ## The stop of a PANEL_STOP -/

theorem exec_panelStop (s : State) : exec .panelStop s = onRecord .panelStop takeStop s := rfl

/-- The state once a PANEL_STOP has joined the stop list (06 R113). -/
def stopListed (r : RecordCopy) (s : State) : State :=
  { s with panel := { s.panel with stops := s.panel.stops ++ [stopOf r s.panel] } }

theorem takeStop_empty (empty : (rawRect r.bytes).isEmpty = true) :
    takeStop r s = completeRecord .display r.addr .empty 0#32 0 s := by
  have whole : clipDetail r.bytes = 0#32 := by
    rw [clipDetail_eq, if_neg (by simp [Rect.wasClipped, empty])]
  rw [← whole]
  exact if_pos empty

theorem takeStop_driving (filled : (rawRect r.bytes).isEmpty = false) (driving : s.panel.engine = .driving) :
    takeStop r s = stopListed r s := (if_neg (by simp [filled])).trans (if_pos driving)

theorem takeStop_acts (filled : (rawRect r.bytes).isEmpty = false) (other : s.panel.engine ≠ .driving) :
    takeStop r s = settleAll (effectStops (stopListed r s)) := (if_neg (by simp [filled])).trans (if_neg other)

theorem mem_stopOf {p : Panel} {id : Nat} : id ∈ (stopOf r p).marks ↔
    (∃ e, e ∈ p.pending ∧ e.id = id ∧ e.rect.intersects (rawRect r.bytes).clip = true)
      ∨ ∃ e, e ∈ p.slots ∧ e.2.id = id ∧ e.2.abortable = true ∧ e.2.eff.intersects (rawRect r.bytes).clip = true := by
  simp [stopOf, and_comm, and_left_comm]

theorem eq_of_nodup_map {α β : Type} {f : α → β} {x y : α} : ∀ {l : List α}, (l.map f).Nodup → x ∈ l → y ∈ l →
    f x = f y → x = y
  | z :: l, apart, hx, hy, same => by
    obtain ⟨fresh, apart⟩ := List.nodup_cons.mp apart
    rcases List.mem_cons.mp hx with rfl | other
    · rcases List.mem_cons.mp hy with rfl | later
      · rfl
      · exact absurd (List.mem_map.mpr ⟨y, later, same.symm⟩) fresh
    · rcases List.mem_cons.mp hy with rfl | later
      · exact absurd (List.mem_map.mpr ⟨x, other, same⟩) fresh
      · exact eq_of_nodup_map apart other later same

/-- A new stop stops the slots that can be stopped and meet its rectangle, ids being apart (06 R113). -/
theorem stopOf_stops {p : Panel} (ids : (p.pending.map (·.id) ++ p.slots.map (·.2.id)).Nodup) {x : Nat × Slot}
    (mem : x ∈ p.slots) :
    (stopOf r p).stops x.2 = (x.2.abortable && x.2.eff.intersects (rawRect r.bytes).clip) := by
  obtain ⟨-, apart, others⟩ := List.nodup_append.mp ids
  have marked : (stopOf r p).marks.contains x.2.id = true
      ↔ x.2.abortable = true ∧ x.2.eff.intersects (rawRect r.bytes).clip = true := by
    rw [List.contains_iff_mem, mem_stopOf]
    constructor
    · rintro (⟨e, listed, same, -⟩ | ⟨y, slot, same, marks⟩)
      · exact absurd same (others _ (List.mem_map.mpr ⟨e, listed, rfl⟩) _ (List.mem_map.mpr ⟨x, mem, rfl⟩))
      · obtain rfl : y = x := eq_of_nodup_map apart slot mem same
        exact marks
    · exact fun marks => .inr ⟨x, mem, rfl, marks⟩
  unfold Stop.stops
  rw [Bool.eq_iff_iff, Bool.and_eq_true, Bool.and_eq_true, marked]
  exact ⟨fun h => h.1, fun h => ⟨h, h.1⟩⟩

/-- A PANEL_STOP that finds nothing to stop completes (06 R114). -/
theorem takeStop_idle (filled : (rawRect r.bytes).isEmpty = false) (other : s.panel.engine ≠ .driving) (quiet : Quiet s)
    (slots : s.panel.slots = []) (stops : s.panel.stops = []) :
    takeStop r s = completeRecord .display r.addr .ok (clipDetail r.bytes) 0 s := by
  have listed : (stopListed r s).panel.stops = [stopOf r s.panel] := congrArg (· ++ [stopOf r s.panel]) stops
  have untouched : effectStop (stopOf r s.panel) (stopListed r s) = stopListed r s :=
    effectStop_idle (s := stopListed r s) _ quiet.1 slots
  have taken := (stopOf r s.panel).taken_eq (p := (stopListed r s).panel) (by
    intro e mem
    rw [show (stopListed r s).panel.pending = [] from quiet.1] at mem
    cases mem)
  rw [show (stopListed r s).panel.pending = [] from quiet.1, show (stopListed r s).panel.slots = [] from slots] at taken
  have ended : stopsEnded (stopTaken (stopOf r s.panel) (stopListed r s)) = s := by
    rw [stopTaken, untouched]
    exact setStops_same stops
  have done := completeRecord_slots .display r.addr .ok (clipDetail r.bytes) 0 s
  rw [takeStop_acts filled other, effectStops_only listed rfl,
    completeStops_done rfl (by rw [taken]) (by rw [taken]; rfl), ended, taken]
  exact settleAll_quiet (done.quiet quiet)

/-! ## The two steps at which an only stop takes effect -/

/-- An only stop takes effect in the step `c` from `s`: found in `x`, it leaves `u` (06 R113, R114). -/
structure StopActs (c : Instr) (s : State) (addr detail : Word) (slotMark : Slot → Bool) (st : Stop)
    (run : Slot → Slot) (x u : State) : Prop where
  step     : exec c s = commit s u
  stopped  : Stopped st run x u
  panel    : x.panel = { s.panel with stops := [st] }
  opens    : OpenKept s x
  writable : Writable .display addr x
  addr     : st.addr = addr
  detail   : st.detail = detail
  marked   : ∀ e, e ∈ s.panel.pending → st.marks.contains e.id = true
  stops    : ∀ y, y ∈ s.panel.slots → st.stops y.2 = (y.2.abortable && slotMark y.2)
  run      : ∀ sl, run sl =
    if c = .frameTick ∧ sl.state = .ready then { sl with state := .running, frame := 0 } else sl

theorem panelStop_acts (ready : Ready .panelStop r s) (filled : (rawRect r.bytes).isEmpty = false)
    (other : s.panel.engine ≠ .driving) (stops : s.panel.stops = [])
    (ids : (s.panel.pending.map (·.id) ++ s.panel.slots.map (·.2.id)).Nodup) (wf : sparseWf s.panel.slots = true)
    (meets : ∀ e, e ∈ s.panel.pending → e.rect.intersects (rawRect r.bytes).clip = true)
    (idle : s.turn.state = .idle) (presses : s.turn.queue = []) (calm : s.power.descentPending = false) :
    ∃ st run x u, StopActs .panelStop s r.addr (if (rawRect r.bytes).wasClipped then 1#32 else 0#32)
      (fun sl => sl.eff.intersects (rawRect r.bytes).clip) st run x u := by
  have panel : (stopListed r (accepted .panelStop r s)).panel = { s.panel with stops := [stopOf r s.panel] } := by
    change { s.panel with stops := s.panel.stops ++ [stopOf r s.panel] } = _
    rw [stops]
    rfl
  have marked : ∀ e, e ∈ s.panel.pending → (stopOf r s.panel).marks.contains e.id = true := fun e mem =>
    List.contains_iff_mem.mpr (mem_stopOf.mpr (.inl ⟨e, mem, rfl, meets e mem⟩))
  have stopped : Stopped (stopOf r s.panel) id (stopListed r (accepted .panelStop r s))
      (effectStops (stopListed r (accepted .panelStop r s))) :=
    effectStops_stopped (by rw [panel]) rfl wf marked
  have step := exec_readyAccepted (exec_panelStop s) ready
  rw [takeStop_acts (s := accepted .panelStop r s) filled other, stopped.settled idle presses calm] at step
  refine ⟨_, _, _, _, step, stopped, panel, fun i a writable => (writable_taken .panelStop r writable).congr rfl,
    writable_accepted ready rfl, rfl, rfl, marked, fun y mem => stopOf_stops ids mem, fun sl => ?_⟩
  rw [if_neg (fun h => nomatch h.1)]
  rfl

theorem frameTick_acts (driving : s.panel.engine = .driving) (scan : s.panel.scan = false) (stops : s.panel.stops = [st])
    (awaits : st.effect = false) (writable : Writable .display st.addr s) (wf : sparseWf s.panel.slots = true)
    (marked : ∀ e, e ∈ s.panel.pending → e.id ∈ st.marks)
    (idle : s.turn.state = .idle) (presses : s.turn.queue = []) (calm : s.power.descentPending = false) :
    ∃ st' run x u, StopActs .frameTick s st.addr st.detail (fun sl => decide (sl.id ∈ st.marks)) st' run x u := by
  have marked' : ∀ e, e ∈ s.panel.pending → st.marks.contains e.id = true := fun e mem =>
    List.contains_iff_mem.mpr (marked e mem)
  have stopped := effectStops_stopped stops awaits wf marked'
  have ticked : tickStops s = effectStops s :=
    (if_pos (by simp [stops, awaits])).trans (stopped.settled idle presses calm)
  have step : exec .frameTick s = commit s (startFrame (effectStops s)) := by
    rw [← ticked]
    exact if_pos ⟨driving, scan⟩
  refine ⟨_, _, _, _, step, stopped.started, ?_, .of_link rfl, writable, rfl, rfl, marked', fun y _ => ?_, fun sl => ?_⟩
  · rw [← stops]
  · unfold Stop.stops
    rw [Bool.and_comm, List.contains_eq_mem]
  · simp [Slot.run]

/-! ## What such a step leaves -/

section
variable {addr detail : Word} {slotMark : Slot → Bool} {x : State}
  (acts : StopActs c s addr detail slotMark st run x u)

include acts

theorem StopActs.slots : x.panel.slots = s.panel.slots := by rw [acts.panel]

theorem StopActs.pending : x.panel.pending = s.panel.pending := by rw [acts.panel]

theorem StopActs.spares (spared : ∀ y, y ∈ s.panel.slots → (y.2.abortable && slotMark y.2) = false) :
    u.panel.stops = []
      ∧ (doneAccesses .display addr .ok detail s.panel.pending.length).Sublist u.bus.queue := by
  obtain ⟨ended, waits⟩ := acts.stopped.done fun y mem => by
    rw [acts.slots] at mem
    rw [acts.stops y mem, spared y mem]
  rw [acts.addr, acts.detail, acts.pending] at waits
  exact ⟨ended, waits acts.writable⟩

theorem StopActs.waits (stops : ∃ y, y ∈ s.panel.slots ∧ (y.2.abortable && slotMark y.2) = true) :
    ∃ st, u.panel.stops = [st] ∧ st.addr = addr ∧ st.detail = detail ∧ st.effect = true
      ∧ st.stopped = s.panel.pending.length + (s.panel.slots.filter fun y => y.2.abortable && slotMark y.2).length
      ∧ ∀ id, id ∈ st.waits ↔ ∃ y, y ∈ s.panel.slots ∧ y.2.id = id ∧ (y.2.abortable && slotMark y.2) = true := by
  obtain ⟨y, mem, stopped⟩ := stops
  have listed := acts.stopped.waits ⟨y, by rw [acts.slots]; exact mem, by rw [acts.stops y mem, stopped]⟩
  have taken := st.taken_eq (p := x.panel) fun e mem => acts.marked e (by rw [← acts.pending]; exact mem)
  have same : s.panel.slots.filter (fun y => st.stops y.2) = s.panel.slots.filter fun y => y.2.abortable && slotMark y.2 :=
    List.filter_congr acts.stops
  rw [acts.slots, acts.pending, same] at taken
  rw [taken] at listed
  refine ⟨_, listed, acts.addr, acts.detail, rfl, rfl, fun id => ?_⟩
  simp only [List.mem_map, List.mem_filter]
  exact ⟨fun ⟨z, ⟨slot, marked⟩, same⟩ => ⟨z, slot, same, marked⟩,
    fun ⟨z, slot, same, marked⟩ => ⟨z, ⟨slot, marked⟩, same⟩⟩

theorem StopActs.slot (slot : sparseGet n s.panel.slots = some sl) :
    ((sl.abortable && slotMark sl) = true →
        sparseGet n u.panel.slots = some { sl with state := .clearing, abort := .stopped })
      ∧ ((sl.abortable && slotMark sl) = false → sparseGet n u.panel.slots = some
        (if c = .frameTick ∧ sl.state = .ready then { sl with state := .running, frame := 0 } else sl)) := by
  have left := acts.stopped.slots n
  rw [acts.slots, slot, Option.map_some, acts.stops (n, sl) (mem_of_sparseGet slot)] at left
  refine ⟨fun stopped => ?_, fun spared => ?_⟩
  · rw [if_pos stopped, acts.run, if_neg (fun h => nomatch h.2)] at left
    exact left
  · rw [if_neg (by simp [spared]), acts.run] at left
    exact left

theorem StopActs.empty (slot : sparseGet n s.panel.slots = none) : sparseGet n u.panel.slots = none := by
  rw [acts.stopped.slots n, acts.slots, slot]
  rfl

theorem StopActs.still (still : ∀ y, y ∈ s.panel.slots → y.2.state ≠ .running) : SameRegions s.panel u.panel := by
  obtain ⟨uncertain, known⟩ := acts.stopped.still (by rw [acts.slots]; exact still)
  rw [acts.panel] at uncertain known
  exact ⟨uncertain, known⟩

theorem StopActs.adds (only : s.panel.slots = [(n, sl)]) (running : sl.state = .running) (marked : slotMark sl = true) :
    SameRegions (s.panel.addUncertain sl.eff) u.panel := by
  have stopped : st.stops sl = true := by
    rw [acts.stops (n, sl) (by rw [only]; exact List.mem_cons_self), marked]
    simp [Slot.abortable, running]
  have same : SameRegions s.panel x.panel := by
    constructor <;> rw [acts.panel]
  obtain ⟨uncertain, known⟩ := acts.stopped.adds n sl (acts.slots.trans only) running stopped
  obtain ⟨uncertain', known'⟩ := same.addUncertain sl.eff
  exact ⟨uncertain.trans uncertain', known.trans known'⟩

theorem StopActs.entry (mem : e ∈ s.panel.pending) (src : e.src = .record a) (writable : Writable .display a s) :
    (doneAccesses .display a .stopped e.detail 0).Sublist u.bus.queue :=
  acts.stopped.entries e a (by rw [acts.pending]; exact mem) src (acts.opens _ _ writable)

end

/-- Settles O39: a stop that finds nothing, one that waits for a tick, and the effect of an only stop. -/
theorem panelStopActs : Obligations.PanelStopActs := by
  refine ⟨fun s r ready => ⟨fun empty => ?_, fun filled driving => ?_, fun filled other quiet slots stops => ?_⟩, ?_⟩
  · exact (exec_readyDone id (exec_panelStop s) ready (takeStop_empty empty) rfl rfl).imp
      fun t ⟨run, asks, eq⟩ => ⟨run, eq, asks⟩
  · obtain ⟨t, run, asks, eq⟩ := exec_readyWaits (stopListed r) (exec_panelStop s) ready
      (takeStop_driving (s := accepted .panelStop r s) filled driving) rfl
    exact ⟨t, run, asks, _, eq, rfl, rfl, rfl, rfl, fun id => mem_stopOf⟩
  · exact (exec_readyDone id (exec_panelStop s) ready
      (takeStop_idle (s := accepted .panelStop r s) filled other quiet slots stops) rfl rfl).imp
      fun t ⟨run, asks, eq⟩ => ⟨run, eq, asks⟩
  intro s c addr detail entryMark slotMark step ids wf marked idle presses calm
  obtain ⟨st, run, x, u, acts⟩ : ∃ st run x u, StopActs c s addr detail slotMark st run x u := by
    rcases step with ⟨r, rfl, ready, filled, other, stops, rfl, rfl, rfl, rfl⟩ |
      ⟨st, rfl, driving, scan, stops, awaits, writable, rfl, rfl, rfl, rfl⟩
    · exact panelStop_acts ready filled other stops ids wf marked idle presses calm
    · exact frameTick_acts driving scan stops awaits writable wf (fun e mem => by simpa using marked e mem) idle presses
        calm
  have completing {a : Word} {res : ResultCode} {detail : Word} {progress : Nat}
      (waits : (doneAccesses .display a res detail progress).Sublist u.bus.queue) :
      Completing (settlePort s u) .display a res detail progress := completing_settled s waits
  refine ⟨_, acts.step, ?_⟩
  rw [settlePort_eq] at completing ⊢
  refine ⟨acts.stopped.pending, fun e a mem src writable => completing (acts.entry mem src writable),
    fun n sl slot => acts.slot slot, fun n slot => acts.empty slot, fun spared => ?_, fun stops => acts.waits stops,
    fun still => acts.still still, fun n sl only running marked => ?_⟩
  · obtain ⟨ended, waits⟩ := acts.spares spared
    exact ⟨ended, completing waits⟩
  · exact addUncertain_regions s.panel sl.eff (acts.adds only running marked)

end Sys2Proof.Machine
end
